-- ==== Sys2Proof/Word.lean ====
section
/-! DEFINITION. The word types of the part and the names its manual gives to modes, states, outcomes, classes
and codes (00_scope.md "Names and typography"; R183 gives the numbers these names travel under). -/

namespace Sys2Proof

/-- A byte of a frame, a payload or the configuration image. -/
abbrev Byte := BitVec 8

/-- A 16-bit word: the check sequence (R161), the condition word (11.4). -/
abbrev Word16 := BitVec 16

/-- The five station modes (11.2). -/
inductive Mode where
  | loading | listening | active | safe | configFault
deriving DecidableEq, Repr, Inhabited

/-- The connection states (R126); `openRack` is the manual's OPEN. -/
inductive ConnState where
  | openRack | waitToken | precharge | closing | joined | leaving | opening | welded | lockout | outOfService
deriving DecidableEq, Repr, Inhabited

/-- The fire states (7.4). -/
inductive FireState where
  | normal | preAlarm | alarm | releaseDelay | releaseHeld | released
deriving DecidableEq, Repr, Inhabited

/-- The thermal states (R87). -/
inductive ThermalState where
  | idle | cooling | heatWait | heating | inhibited
deriving DecidableEq, Repr, Inhabited

/-- The outcome of the last completed scan (R5, R6). -/
inductive ScanOutcome where
  | none | complete | completeWithBad | terminated
deriving DecidableEq, Repr, Inhabited

/-- The grid states (9.1). -/
inductive GridState where
  | down | returning | up
deriving DecidableEq, Repr, Inhabited

/-- The classes of a detector loop's current and the states of a loop record (R103, R104). -/
inductive LoopClass where
  | openLoop | normal | alarm | short
deriving DecidableEq, Repr, Inhabited

/-- The result that a JOIN_DONE carries (R69, R72). -/
inductive JoinResult where
  | ok | failed
deriving DecidableEq, Repr, Inhabited

/-- The result of a gateway request (R178, R183). -/
inductive ReplyResult where
  | done | refusedState | refusedValue | unknown
deriving DecidableEq, Repr, Inhabited

/-- The five classes that carry a kind, in rank order (R162). -/
inductive FrameClass where
  | fire | census | claim | service | announce
deriving DecidableEq, Repr, Inhabited

end Sys2Proof
end

