-- ==== Sys2Proof/Syntax.lean ====
section
/-! DEFINITION. The commands of the part: one constructor of `Instr` for each row of spec/opcode_table.json, with the
operands that the spec's rules give the event (what arrives, what is sampled, what an input has become). -/

namespace Sys2Proof

/-- The seven strap pins as they stand (R174): four number pins, two zone pins, one chiller-role pin. -/
structure StrapPins where
  number : BitVec 4
  zone : BitVec 2
  chiller : Bool
deriving DecidableEq, Repr, Inhabited

/-- A temperature as a sense unit reports it (R7, R8): a value, or a sensor reported open or shorted. -/
inductive TempReading where
  | value (t : Int)
  | openSensor
  | shortedSensor
deriving DecidableEq, Repr, Inhabited

/-- The values that a chain reply carries (R2). -/
inductive ReplyBody where
  /-- Cell voltages in mV and temperature readings, each in index order. -/
  | module (cells : List Nat) (temps : List TempReading)
  /-- The four rack sense values: current (0.1 A), string and bus voltage (0.1 V), inlet temperature. -/
  | rackSense (current stringV busV : Int) (inlet : TempReading)
  /-- Any other number of values. -/
  | other (count : Nat)
deriving DecidableEq, Repr, Inhabited

/-- A complete reply from the module chain (R1, R2): its check code, its other bytes in the order they were sent, and the
responding position and the values that they stand for, in a layout that the manual does not give (log 13). -/
structure ChainReply where
  check : Word16
  bytes : List Byte
  position : Nat
  body : ReplyBody
deriving DecidableEq, Repr, Inhabited

/-- A census window as this station reads it (R171, R172). The four framing fields say whether the bit read dominant.
The two answer bytes are the data bits as read: a dominant bit reads 0 (R160). -/
structure WindowRead where
  start1Dominant : Bool
  stop1Dominant : Bool
  start2Dominant : Bool
  stop2Dominant : Bool
  answer1 : Byte
  answer2 : Byte
deriving DecidableEq, Repr, Inhabited

/-- Why a frame in reception is discarded (R169). -/
inductive DiscardReason where
  | stopBitDominant | idleEarly | lengthAbove24 | checkMismatch
  /-- Class 5 to 7, a kind outside its class, or a payload length that is not the length of the kind. -/
  | classKindOrLength
deriving DecidableEq, Repr, Inhabited

/-- The commands, in the order of spec/opcode_table.json. A received frame's command carries the frame's sender field
and its payload bytes (R161, R183). -/
inductive Instr where
  /-- POWER_ON_RESET, with the strap pins as they stand. -/
  | powerOnReset (straps : StrapPins)
  /-- CONFIG_LOAD, with the bytes that the configuration memory acknowledged, from its first byte (R175). -/
  | configLoad (image : List Byte)
  /-- SCAN_INTERVAL_EXPIRY. -/
  | scanIntervalExpiry
  /-- CHAIN_REPLY_ARRIVAL. -/
  | chainReplyArrival (reply : ChainReply)
  /-- CHAIN_REPLY_WAIT_EXPIRY. -/
  | chainReplyWaitExpiry
  /-- LOOP_SAMPLE, with the two loop currents in microamperes. -/
  | loopSample (loopS loopH : Nat)
  /-- RUNAWAY_SAMPLE. -/
  | runawaySample
  /-- RELEASE_COUNTDOWN_EXPIRY. -/
  | releaseCountdownExpiry
  /-- CENSUS_REPEAT_EXPIRY. -/
  | censusRepeatExpiry
  /-- ABORT_INPUT_CHANGE, with the level after the change. -/
  | abortInputChange (asserted : Bool)
  /-- MAINTENANCE_KEY_CHANGE, with the level after the change. -/
  | maintenanceKeyChange (asserted : Bool)
  /-- CHILLER_FAULT_INPUT_CHANGE, with the level after the change. -/
  | chillerFaultInputChange (asserted : Bool)
  /-- HEAT_SOAK_EXPIRY. -/
  | heatSoakExpiry
  /-- RECOVERY_EXPIRY. -/
  | recoveryExpiry
  /-- AP_EXPIRY. -/
  | apExpiry
  /-- ANNOUNCE_ARRIVAL. -/
  | announceArrival (sender : BitVec 5) (payload : List Byte)
  /-- FIRE_NOTICE_ARRIVAL. -/
  | fireNoticeArrival (sender : BitVec 5) (payload : List Byte)
  /-- JOIN_CLAIM_ARRIVAL. -/
  | joinClaimArrival (sender : BitVec 5) (payload : List Byte)
  /-- JOIN_DONE_ARRIVAL. -/
  | joinDoneArrival (sender : BitVec 5) (payload : List Byte)
  /-- HEAT_CLAIM_ARRIVAL. -/
  | heatClaimArrival (sender : BitVec 5) (payload : List Byte)
  /-- HEAT_RELEASE_ARRIVAL. -/
  | heatReleaseArrival (sender : BitVec 5) (payload : List Byte)
  /-- CENSUS_CALL_ARRIVAL. -/
  | censusCallArrival (sender : BitVec 5) (payload : List Byte)
  /-- CENSUS_WINDOW_COMPLETION. -/
  | censusWindowCompletion (window : WindowRead)
  /-- LINK_IDLE_ATTEMPT_START, with the breaker-closed feedback input as it stands (R157). -/
  | linkIdleAttemptStart (breakerClosed : Bool)
  /-- LOST_ARBITRATION. -/
  | lostArbitration
  /-- ATTEMPT_BIT_ERROR, with the number of the frame byte (from 1) in which the error was detected. -/
  | attemptBitError (atByte : Nat)
  /-- OWN_FRAME_COMPLETION. -/
  | ownFrameCompletion
  /-- HEAD_TIMER_EXPIRY. -/
  | headTimerExpiry
  /-- HOLD_TIMER_EXPIRY. -/
  | holdTimerExpiry
  /-- AUX_INPUT_CHANGE, with the positions that both auxiliary contacts show after the change. -/
  | auxInputChange (posClosed negClosed : Bool)
  /-- AUX_WINDOW_EXPIRY. -/
  | auxWindowExpiry
  /-- PRECHARGE_TIMER_EXPIRY. -/
  | prechargeTimerExpiry
  /-- LEAVE_TIMER_EXPIRY. -/
  | leaveTimerExpiry
  /-- FAILURE_HOLD_EXPIRY. -/
  | failureHoldExpiry
  /-- GRID_HEALTHY_CHANGE, with the level after the change. -/
  | gridHealthyChange (asserted : Bool)
  /-- RECONNECT_EXPIRY. -/
  | reconnectExpiry
  /-- READ_STATUS. -/
  | readStatus (sender : BitVec 5) (payload : List Byte)
  /-- READ_MODULE. -/
  | readModule (sender : BitVec 5) (payload : List Byte)
  /-- SET_SITE_CAP. -/
  | setSiteCap (sender : BitVec 5) (payload : List Byte)
  /-- HOLD_JOIN. -/
  | holdJoin (sender : BitVec 5) (payload : List Byte)
  /-- RESUME_JOIN. -/
  | resumeJoin (sender : BitVec 5) (payload : List Byte)
  /-- TAKE_OUT. -/
  | takeOut (sender : BitVec 5) (payload : List Byte)
  /-- RETURN. -/
  | returnRack (sender : BitVec 5) (payload : List Byte)
  /-- CLEAR_LOCKOUT. -/
  | clearLockout (sender : BitVec 5) (payload : List Byte)
  /-- FIRE_RESET. -/
  | fireReset (sender : BitVec 5) (payload : List Byte)
  /-- BREAKER_HOLD. -/
  | breakerHold (sender : BitVec 5) (payload : List Byte)
  /-- BREAKER_RELEASE. -/
  | breakerRelease (sender : BitVec 5) (payload : List Byte)
  /-- CENSUS_REQUEST. -/
  | censusRequest (sender : BitVec 5) (payload : List Byte)
  /-- RESTART. -/
  | restart (sender : BitVec 5) (payload : List Byte)
  /-- UNKNOWN_REQUEST, with the kind byte that the frame carries. -/
  | unknownRequest (sender : BitVec 5) (kind : Byte) (payload : List Byte)
  /-- RECEIVED_FRAME_DISCARD. -/
  | receivedFrameDiscard (reason : DiscardReason)
deriving DecidableEq, Repr, Inhabited

end Sys2Proof
end

