-- ==== Sys2Proof/WellFormed.lean ====
section
/-! DEFINITION. Which commands are well formed: the operand shapes that the layouts of R183 allow. `exec` answers a
next state for an ill-formed command too; a statement that rests on the layouts names this check. -/

namespace Sys2Proof

/-- An ANNOUNCE payload whose coded fields all hold listed codes (R183): 24 bytes, mode 1 to 4, connection state 0 to 9,
fire state 0 to 5, thermal state 0 to 4, zone 1 to 4, flags byte below 32 (its high bits have no meaning and
are 0 as this model sends them, log 42), condition word bits 14 and 15 zero. -/
def announcePayloadOk (p : List Byte) : Bool :=
  p.length == 24
    && (1 ≤ (p.getD 0 0).toNat && (p.getD 0 0).toNat ≤ 4)
    && (p.getD 1 0).toNat ≤ 9
    && (p.getD 2 0).toNat ≤ 5
    && (p.getD 3 0).toNat % 8 ≤ 4
    && (1 ≤ (p.getD 4 0).toNat && (p.getD 4 0).toNat ≤ 4)
    && (p.getD 5 0).toNat < 32
    && (p.getD 6 0).toNat < 64

/-- A FIRE_NOTICE payload with listed codes (R183): three bytes, zone 1 to 4, fire state 0 to 5, flags below 16 (log
42). -/
def fireNoticePayloadOk (p : List Byte) : Bool :=
  p.length == 3
    && (1 ≤ (p.getD 0 0).toNat && (p.getD 0 0).toNat ≤ 4)
    && (p.getD 1 0).toNat ≤ 5
    && (p.getD 2 0).toNat < 16

/-- A JOIN_DONE payload (R183): one byte, 0 for OK or 1 for FAILED. -/
def joinDonePayloadOk (p : List Byte) : Bool :=
  p.length == 1 && (p.getD 0 0).toNat ≤ 1

/-- A request kind that this part lists, or SERVICE_REPLY (R183). -/
def listedServiceKind (kind : Byte) : Bool :=
  (1 ≤ kind.toNat && kind.toNat ≤ 13) || kind.toNat == 128

/-- A SERVICE payload fits in a frame (R161). -/
def servicePayloadOk (p : List Byte) : Bool := p.length ≤ 24

/-- A chain reply names a chain position (0 to 12). -/
def ChainReply.wf (r : ChainReply) : Bool := r.position ≤ 12

/-- The well-formedness check of a command, one arm per constructor. -/
def Instr.wf : Instr → Bool
  | .powerOnReset _ => true
  | .configLoad image => image.length ≤ 80
  | .scanIntervalExpiry => true
  | .chainReplyArrival r => r.wf
  | .chainReplyWaitExpiry => true
  | .loopSample _ _ => true
  | .runawaySample => true
  | .releaseCountdownExpiry => true
  | .censusRepeatExpiry => true
  | .abortInputChange _ => true
  | .maintenanceKeyChange _ => true
  | .chillerFaultInputChange _ => true
  | .heatSoakExpiry => true
  | .recoveryExpiry => true
  | .apExpiry => true
  | .announceArrival _ p => announcePayloadOk p
  | .fireNoticeArrival _ p => fireNoticePayloadOk p
  | .joinClaimArrival _ p => p.length == 0
  | .joinDoneArrival _ p => joinDonePayloadOk p
  | .heatClaimArrival _ p => p.length == 0
  | .heatReleaseArrival _ p => p.length == 0
  | .censusCallArrival _ p => p.length == 2
  | .censusWindowCompletion _ => true
  | .linkIdleAttemptStart _ => true
  | .lostArbitration => true
  | .attemptBitError n => 1 ≤ n && n ≤ 29
  | .ownFrameCompletion => true
  | .headTimerExpiry => true
  | .holdTimerExpiry => true
  | .auxInputChange _ _ => true
  | .auxWindowExpiry => true
  | .prechargeTimerExpiry => true
  | .leaveTimerExpiry => true
  | .failureHoldExpiry => true
  | .gridHealthyChange _ => true
  | .reconnectExpiry => true
  | .readStatus _ p => servicePayloadOk p
  | .readModule _ p => servicePayloadOk p
  | .setSiteCap _ p => servicePayloadOk p
  | .holdJoin _ p => servicePayloadOk p
  | .resumeJoin _ p => servicePayloadOk p
  | .takeOut _ p => servicePayloadOk p
  | .returnRack _ p => servicePayloadOk p
  | .clearLockout _ p => servicePayloadOk p
  | .fireReset _ p => servicePayloadOk p
  | .breakerHold _ p => servicePayloadOk p
  | .breakerRelease _ p => servicePayloadOk p
  | .censusRequest _ p => servicePayloadOk p
  | .restart _ p => servicePayloadOk p
  | .unknownRequest _ k p => !listedServiceKind k && servicePayloadOk p
  | .receivedFrameDiscard _ => true

end Sys2Proof
end

