-- ==== Sys2Proof/Decode.lean ====
section
/-! DEFINITION. The decoder of the opcode table's words; the check code of the module chain (R1); and the frame layer of
the rack link: the layout of a frame, its check sequence, its levels on the line, the receiver's checks and the command that a
received frame is (R160, R161, R162, R169, R183). -/

namespace Sys2Proof

/-- The command a word spells by the table's bits: the table gives no row any bits, so no word spells a command. -/
def decodeTableWord (_nbits _w : Nat) : Option Instr := none

/-- One bit of the check computation: shift left and subtract x^16 + x^12 + x^5 + 1 when the carry differs (R161). -/
def crcBit (reg : Word16) (bit : Bool) : Word16 :=
  if Bool.xor (reg.getLsbD 15) bit then (reg <<< 1) ^^^ 0x1021#16 else reg <<< 1

/-- A byte enters the computation most significant bit first (R161). -/
def crcByte (reg : Word16) (b : Byte) : Word16 :=
  [7, 6, 5, 4, 3, 2, 1, 0].foldl (fun r k => crcBit r (b.getLsbD k)) reg

/-- The check sequence of the rack link and the check code of the module chain: a register of all ones, no final
inversion (R161, R1). -/
def crc16 (bytes : List Byte) : Word16 := bytes.foldl crcByte 0xFFFF#16

/-- The check code of a chain reply matches its other bytes (R1, R2). -/
def ChainReply.checkOk (r : ChainReply) : Bool := r.check == crc16 r.bytes

/-- The high byte of a 16-bit value. -/
def hiByte (w : Word16) : Byte := w.extractLsb' 8 8

/-- The low byte of a 16-bit value. -/
def loByte (w : Word16) : Byte := w.extractLsb' 0 8

/-- A frame without its check sequence: class bits, sender field, kind and payload (R161). -/
structure Frame where
  cls : BitVec 3
  sender : BitVec 5
  kind : Byte
  payload : List Byte
deriving DecidableEq, Repr, Inhabited

/-- The class number of a class (R162, R183). -/
def FrameClass.code : FrameClass → BitVec 3
  | .fire => 0
  | .census => 1
  | .claim => 2
  | .service => 3
  | .announce => 4

/-- The rank of a class: a lower number ranks higher (R162). -/
def FrameClass.rank (c : FrameClass) : Nat := c.code.toNat

/-- Header byte 1: class in the upper 3 bits, sender in the lower 5 (R161). -/
def headerByte1 (cls : BitVec 3) (sender : BitVec 5) : Byte := cls ++ sender

/-- The bytes of a frame ahead of its check sequence (R161). -/
def frameBody (f : Frame) : List Byte :=
  headerByte1 f.cls f.sender :: f.kind :: BitVec.ofNat 8 f.payload.length :: f.payload

/-- A whole frame as it goes out: body, then the check sequence high byte first (R161). -/
def encodeFrame (f : Frame) : List Byte :=
  frameBody f ++ [hiByte (crc16 (frameBody f)), loByte (crc16 (frameBody f))]

/-! ### Levels on the line

A level is a Bool: false is dominant and reads 0, true is recessive and reads 1 (R160). -/

/-- What every station reads of two drivers: dominant wherever one of them drives dominant (R160). -/
def wired (a b : List Bool) : List Bool := List.zipWith (· && ·) a b

/-- The places of the data bits of header byte 1 in the order they are sent (R160). -/
def msbFirst : List Nat := [7, 6, 5, 4, 3, 2, 1, 0]

/-- The places of the data bits of every other byte in the order they are sent (R160). -/
def lsbFirst : List Nat := [0, 1, 2, 3, 4, 5, 6, 7]

/-- The ten bits of a byte: a dominant start bit, the data bits, a recessive stop bit (R160). -/
def byteLevels (order : List Nat) (b : Byte) : List Bool := false :: (order.map b.getLsbD ++ [true])

/-- The levels of a frame, one bit time each: header byte 1 goes most significant bit first (R160). -/
def frameLevels : List Byte → List Bool
  | [] => []
  | header :: rest => byteLevels msbFirst header ++ rest.flatMap (byteLevels lsbFirst)

/-- Bits packed least significant first. -/
def natOfFlags : List Bool → Nat
  | [] => 0
  | b :: bs => b.toNat + 2 * natOfFlags bs

/-- The byte of eight data bits in the order they were read (R160). -/
def byteOfLevels (header : Bool) (bits : List Bool) : Byte :=
  BitVec.ofNat 8 (natOfFlags (if header then bits.reverse else bits))

/-- The bytes that a receiver reads off the levels from a first start bit on, and why it read no further: a stop bit read
dominant, or the line went idle, a gap of 11 recessive bit times behind a stop bit; a shorter gap is passed over (R160, R169;
log 18). -/
def readLevels (header : Bool) (gap : Nat) : List Bool → List Byte × DiscardReason
  | [] => ([], .idleEarly)
  | true :: rest => if gap + 1 = 11 then ([], .idleEarly) else readLevels header (gap + 1) rest
  | false :: b0 :: b1 :: b2 :: b3 :: b4 :: b5 :: b6 :: b7 :: stop :: rest =>
    if stop then
      let (bytes, reason) := readLevels false 0 rest
      (byteOfLevels header [b0, b1, b2, b3, b4, b5, b6, b7] :: bytes, reason)
    else ([], .stopBitDominant)
  | false :: _ => ([], .idleEarly)

/-! ### Receiving -/

/-- What the receiver makes of the bytes between the start of a frame and the idle after it: the frame, or the reason
for which it is discarded (R169). -/
def receiveFrame (bytes : List Byte) : Except DiscardReason Frame :=
  match bytes with
  | h1 :: kind :: len :: rest =>
    if 24 < len.toNat then .error .lengthAbove24
    else if rest.length < len.toNat + 2 then .error .idleEarly
    else
      let payload := rest.take len.toNat
      let frame : Frame := ⟨h1.extractLsb' 5 3, h1.extractLsb' 0 5, kind, payload⟩
      if (rest.drop len.toNat).take 2 = [hiByte (crc16 (h1 :: kind :: len :: payload)), loByte (crc16 (h1 :: kind :: len :: payload))]
      then .ok frame else .error .checkMismatch
  | _ => .error .idleEarly

/-- The command that a frame of a service kind is; every other kind value is an unknown request kind (R169, R183). -/
def serviceCommand (sender : BitVec 5) (kind : Byte) (p : List Byte) : Instr :=
  match kind.toNat with
  | 1 => .readStatus sender p
  | 2 => .readModule sender p
  | 3 => .setSiteCap sender p
  | 4 => .holdJoin sender p
  | 5 => .resumeJoin sender p
  | 6 => .takeOut sender p
  | 7 => .returnRack sender p
  | 8 => .clearLockout sender p
  | 9 => .fireReset sender p
  | 10 => .breakerHold sender p
  | 11 => .breakerRelease sender p
  | 12 => .censusRequest sender p
  | 13 => .restart sender p
  | _ => .unknownRequest sender kind p

/-- A broadcast of a kind with a fixed payload length, or its discard (R169). -/
def broadcastCommand (lengthOk : Bool) (c : Instr) : Instr :=
  if lengthOk then c else .receivedFrameDiscard .classKindOrLength

/-- The command that a frame which passed the receiver's checks is, judged by class and kind (R162, R169, R183). -/
def frameCommand (f : Frame) : Instr :=
  let n := f.payload.length
  match f.cls.toNat, f.kind.toNat with
  | 0, 1 => broadcastCommand (n == 3) (.fireNoticeArrival f.sender f.payload)
  | 1, 1 => broadcastCommand (n == 2) (.censusCallArrival f.sender f.payload)
  | 2, 1 => broadcastCommand (n == 0) (.joinClaimArrival f.sender f.payload)
  | 2, 2 => broadcastCommand (n == 1) (.joinDoneArrival f.sender f.payload)
  | 2, 3 => broadcastCommand (n == 0) (.heatClaimArrival f.sender f.payload)
  | 2, 4 => broadcastCommand (n == 0) (.heatReleaseArrival f.sender f.payload)
  | 3, _ => serviceCommand f.sender f.kind f.payload
  | 4, 1 => broadcastCommand (n == 24) (.announceArrival f.sender f.payload)
  | _, _ => .receivedFrameDiscard .classKindOrLength

/-- The command that the bytes of a received frame are (R169). -/
def decodeReceived (bytes : List Byte) : Instr :=
  match receiveFrame bytes with
  | .ok f => frameCommand f
  | .error r => .receivedFrameDiscard r

/-- The command that the levels of a received frame are: the bytes read are judged, and a frame that they do not complete is
discarded for the reason that ended it (R160, R169). -/
def decodeLevels (levels : List Bool) : Instr :=
  let (bytes, reason) := readLevels true 0 levels
  match receiveFrame bytes with
  | .ok f => frameCommand f
  | .error .idleEarly => .receivedFrameDiscard reason
  | .error .stopBitDominant => .receivedFrameDiscard .stopBitDominant
  | .error .lengthAbove24 => .receivedFrameDiscard .lengthAbove24
  | .error .checkMismatch => .receivedFrameDiscard .checkMismatch
  | .error .classKindOrLength => .receivedFrameDiscard .classKindOrLength

/-- The frame that a link command stands for, written from the same layouts (R183); none for the commands that are not
the arrival of a frame. -/
def commandFrame : Instr → Option Frame
  | .fireNoticeArrival s p => some ⟨0, s, 1, p⟩
  | .censusCallArrival s p => some ⟨1, s, 1, p⟩
  | .joinClaimArrival s p => some ⟨2, s, 1, p⟩
  | .joinDoneArrival s p => some ⟨2, s, 2, p⟩
  | .heatClaimArrival s p => some ⟨2, s, 3, p⟩
  | .heatReleaseArrival s p => some ⟨2, s, 4, p⟩
  | .readStatus s p => some ⟨3, s, 1, p⟩
  | .readModule s p => some ⟨3, s, 2, p⟩
  | .setSiteCap s p => some ⟨3, s, 3, p⟩
  | .holdJoin s p => some ⟨3, s, 4, p⟩
  | .resumeJoin s p => some ⟨3, s, 5, p⟩
  | .takeOut s p => some ⟨3, s, 6, p⟩
  | .returnRack s p => some ⟨3, s, 7, p⟩
  | .clearLockout s p => some ⟨3, s, 8, p⟩
  | .fireReset s p => some ⟨3, s, 9, p⟩
  | .breakerHold s p => some ⟨3, s, 10, p⟩
  | .breakerRelease s p => some ⟨3, s, 11, p⟩
  | .censusRequest s p => some ⟨3, s, 12, p⟩
  | .restart s p => some ⟨3, s, 13, p⟩
  | .unknownRequest s k p => some ⟨3, s, k, p⟩
  | .announceArrival s p => some ⟨4, s, 1, p⟩
  | .powerOnReset _ => none
  | .configLoad _ => none
  | .scanIntervalExpiry => none
  | .chainReplyArrival _ => none
  | .chainReplyWaitExpiry => none
  | .loopSample _ _ => none
  | .runawaySample => none
  | .releaseCountdownExpiry => none
  | .censusRepeatExpiry => none
  | .abortInputChange _ => none
  | .maintenanceKeyChange _ => none
  | .chillerFaultInputChange _ => none
  | .heatSoakExpiry => none
  | .recoveryExpiry => none
  | .apExpiry => none
  | .censusWindowCompletion _ => none
  | .linkIdleAttemptStart _ => none
  | .lostArbitration => none
  | .attemptBitError _ => none
  | .ownFrameCompletion => none
  | .headTimerExpiry => none
  | .holdTimerExpiry => none
  | .auxInputChange _ _ => none
  | .auxWindowExpiry => none
  | .prechargeTimerExpiry => none
  | .leaveTimerExpiry => none
  | .failureHoldExpiry => none
  | .gridHealthyChange _ => none
  | .reconnectExpiry => none
  | .receivedFrameDiscard _ => none

end Sys2Proof
end

