-- ==== Sys2Proof/Config.lean ====
section
/-! DEFINITION. The configuration set that an accepted image leaves (R175, R183) and the free values: what the manual
leaves open is a constant without a body, so that nothing can be proved of its value. -/

namespace Sys2Proof

/-- One row of the two current tables: the entries of bands A to D in amperes (2.2). -/
structure BandRow where
  a : Nat
  b : Nat
  c : Nat
  d : Nat
deriving DecidableEq, Repr, Inhabited

/-- A current table: charge and discharge entries (2.2). -/
structure CurrentTable where
  charge : BandRow
  discharge : BandRow
deriving DecidableEq, Repr, Inhabited

/-- The configuration set, field by field in image order (11.6), after the three corrections of R175, with the two
values that stage 0 forms from it (R24). -/
structure ConfigSet where
  modules : Nat
  cells : Nat
  tsens : Nat
  vchLim : Nat
  vchTap : Nat
  /-- CH_TRIM as clamped: the effective trim. -/
  chTrim : Int
  vdsLim : Nat
  vdsTap : Nat
  ta : Int
  tb : Int
  tc : Int
  tableN : CurrentTable
  /-- TABLE_R as clamped to TABLE_N. -/
  tableR : CurrentTable
  irackMax : Nat
  ramp : Nat
  vtripHi : Nat
  vtripLo : Nat
  ttrip : Int
  thOn : Int
  thOff : Int
  tc1 : Int
  tc2 : Int
  tc3 : Int
  inletLim : Int
  heatLimitGrid : Nat
  /-- HEAT_LIMIT_ISLAND as lowered to HEAT_LIMIT_GRID. -/
  heatLimitIsland : Nat
  /-- HEAT_HOLD in minutes. -/
  heatHold : Nat
  balWindow : Nat
  balFloor : Nat
  balCurrent : Nat
  matchWindow : Nat
  prechDone : Nat
  /-- PRECH_MAX in seconds. -/
  prechMax : Nat
  leaveCurrent : Nat
  reconnect : Nat
  /-- RELEASE_DELAY in seconds. -/
  releaseDelay : Nat
  runawayRise : Int
  /-- AP in units of 50 ms. -/
  ap : Nat
  retriesOff : Bool
  /-- L′, the trimmed charge ceiling (R24). -/
  lPrime : Int
  /-- P′, the trimmed charge taper start (R24). -/
  pPrime : Int
deriving DecidableEq, Repr, Inhabited

namespace Config

/-- FREE VALUE (log 3). The fire state that a received fire-state byte above 5 stands for: R183 lists codes 0 to 5 only. -/
opaque unlistedFireState : Byte → FireState

/-- FREE VALUE (log 4). The zone, less 1, that a received zone byte outside 1 to 4 stands for: R183 and R55 list 1 to 4
only. -/
opaque unlistedZone : Byte → Fin 4

/-- FREE VALUE (log 5). PRECH_MAX in seconds as the head timer of R78 uses it in CONFIG_FAULT, where lists are kept
(R84) and no configuration set gives the value. -/
opaque prechMaxWithoutSet : Nat

/-- FREE VALUE (log 13). The bytes of a chain request ahead of its check code, in the order they are sent: R1 says that a
request carries the position and the balance command, and gives no layout. -/
opaque chainRequestBytes : (position : Nat) → (command : List Nat) → List Byte

end Config

end Sys2Proof
end

