-- ==== Sys2Proof/Machine/State.lean ====
section
/-! DEFINITION. The state of one station as plain data: every item that the blocks of 00_scope.md hold, the levels of
the field lines, and the queue of waiting commands; and the state after reset. -/

namespace Sys2Proof.Machine

open Sys2Proof

/-- A timer: none while it is stopped; while it runs, the length in milliseconds it was last started with. The time
that has passed is not held: an expiry is a command (log 1). -/
abbrev Timer := Option Nat

/-- The record of one module position (R7). -/
structure ModuleRecord where
  /-- Cell voltages in mV, index 1 first. -/
  cells : List Nat
  /-- Temperatures in °C, sensor 1 first; none is the manual's *invalid*. -/
  temps : List (Option Int)
  age : Nat
  /-- The balance mask in force: cell indices, ascending (R44). -/
  mask : List Nat
deriving DecidableEq, Repr

/-- The rack sense record of position 0 (R8): 0.1 A, 0.1 V, 0.1 V, °C. -/
structure RackSense where
  current : Int
  stringV : Nat
  busV : Nat
  inlet : Option Int
  age : Nat
deriving DecidableEq, Repr

/-- The scan record (R6); `lastRead` is none when the manual says absent. -/
structure ScanRecord where
  number : Nat
  outcome : ScanOutcome
  lastRead : Option Nat
  notRead : Nat
  bad : List Nat
deriving DecidableEq, Repr

/-- A scan in flight (R3, R5): the position of the transaction, the number of the try that waits for its reply (the 2 ms
reply wait runs while the scan is in flight), whether an earlier try brought a reply, the balance command that every try
of the transaction carries, and the positions that ended GOOD and CHECK_FAIL so far. -/
structure ScanRun where
  position : Nat
  tryNo : Nat
  replied : Bool
  command : List Nat
  good : List Nat
  bad : List Nat
deriving DecidableEq, Repr

/-- The chain controller (R4 to R14). -/
structure Chain where
  scanTimer : Timer
  owed : Bool
  scan : Option ScanRun
  record : ScanRecord
  sense : RackSense
  /-- The records of positions 1 to 12, position 1 first. -/
  modules : List ModuleRecord
  vmin : Nat
  vmax : Nat
  tmin : Int
  tmax : Int
  dataLoss : Bool
  tempLoss : Bool
  chainBreak : Bool
  /-- The stale-data leave condition (R11). -/
  staleLeave : Bool
deriving DecidableEq, Repr

/-- The envelope unit: the pair in force (R21), the protection counters and flag (R16 to R18), and the ring, rise flag,
latch and sample timer of the runaway source (R106, R107). -/
structure Envelope where
  ec : Nat
  ed : Nat
  /-- Cell trip counts of positions 1 to 12, position 1 first. -/
  cellTrips : List Nat
  overCount : Nat
  trip : Bool
  runawayTimer : Timer
  /-- Tmax samples, oldest first. -/
  ring : List Int
  riseFlag : Bool
  latch : Bool
deriving DecidableEq, Repr

/-- The inputs that the balance unit takes at a scan completion and keeps until the next (R45). -/
structure BalanceInputs where
  current : Int
  tmax : Int
  dataLoss : Bool
deriving DecidableEq, Repr

/-- The balance unit (R43, R45, R52). -/
structure Balance where
  /-- Members as (position, cell index), ascending: the set has no order, so one order stands for it. -/
  members : List (Nat × Nat)
  taken : Option BalanceInputs
deriving DecidableEq, Repr

/-- Presence of a peer record (R55). -/
inductive Presence where
  | present | stale
deriving DecidableEq, Repr, Inhabited

/-- One record of the peer table (R55); none is the manual's *absent*. -/
structure PeerRecord where
  number : Nat
  zone : Nat
  fire : FireState
  key : Bool
  level : Option Nat
  joinFlag : Option Bool
  heatFlag : Option Bool
  age : Nat
  presence : Presence
deriving DecidableEq, Repr

/-- The peer view (R53, R55, R60, R64, R65). -/
structure PeerView where
  apTimer : Timer
  /-- Records in ascending order of station number. -/
  table : List PeerRecord
  containerFire : Bool
  containerLevel : Nat
  /-- The zone key check (R65). -/
  zoneKey : Bool
deriving DecidableEq, Repr

/-- The own claim state of one list, with its mark (R71). -/
inductive OwnClaim where
  | notClaimed
  | claimQueued (cancel : Bool)
  | listed
  | releaseQueued (reclaim : Bool)
deriving DecidableEq, Repr, Inhabited

/-- One claim list (R68), its own claim state (R71) and whether a dropped frame is owed again at the next AP expiry (R73). -/
structure ClaimList where
  entries : List Nat
  own : OwnClaim
  requeue : Bool
deriving DecidableEq, Repr

/-- The hold timer (R82): stopped and cleared, running with its length in milliseconds, or served. -/
inductive HoldTimer where
  | stopped
  | running (length : Nat)
  | served
deriving DecidableEq, Repr, Inhabited

/-- The claim unit (R68 to R86). -/
structure ClaimUnit where
  join : ClaimList
  heat : ClaimList
  /-- The result of the JOIN_DONE last queued, which a repeat of that frame carries (R73). -/
  doneResult : JoinResult
  /-- The token as last signalled to the sequencer (R77). -/
  tokenHeld : Bool
  /-- The own slot as last signalled to the thermal controller (R81). -/
  slotHeld : Bool
  headTimer : Timer
  hold : HoldTimer
  /-- L (R80). -/
  limit : Nat
deriving DecidableEq, Repr

/-- The thermal controller (R87, R97 to R99, R102), with its output lines. -/
structure Thermal where
  state : ThermalState
  level : Nat
  demand : Bool
  heater : Bool
  /-- The valve drive: energised is open. -/
  valve : Bool
  pump1 : Bool
  pump2 : Bool
  chillerRun : Bool
  degraded : Bool
  /-- The inlet temperature as taken at the last scan completion; none is invalid (R15, log 37). -/
  inlet : Option Int
  /-- The heat-soak condition as last judged (R98). -/
  soakCond : Bool
  /-- The recovery condition as last judged (R99). -/
  recoveryCond : Bool
  soakTimer : Timer
  recoveryTimer : Timer
deriving DecidableEq, Repr

/-- A loop record (R104). -/
structure LoopRecord where
  state : LoopClass
  pendingClass : Option LoopClass
  count : Nat
deriving DecidableEq, Repr

/-- The census state of the fire unit (R111). -/
inductive CensusState where
  | idle | callPending
deriving DecidableEq, Repr, Inhabited

/-- The fire unit (R103 to R125), with its output lines. The source set is read off the loop states and the latch (R108). -/
structure FireUnit where
  loopTimer : Timer
  loopS : LoopRecord
  loopH : LoopRecord
  loopTrouble : Bool
  /-- SERVICE_KEY: the key level as the fire unit took it (R109). -/
  serviceKey : Bool
  state : FireState
  countdown : Timer
  census : CensusState
  repeatTimer : Timer
  release : Bool
  fireLine : Bool
  tripLine : Bool
deriving DecidableEq, Repr

/-- What an auxiliary confirmation window proves (R127): both open at proving (R128), negative closed (R134), positive
closed (R135), both open in OPENING (R138), positive open and negative open in LEAVING (R143). -/
inductive WindowUse where
  | proving | negClose | posClose | opening | leavePos | leaveNeg
deriving DecidableEq, Repr, Inhabited

/-- Proving (R128): not done since reset, window open, or its result taken. -/
inductive Proving where
  | notDone | pending | complete
deriving DecidableEq, Repr, Inhabited

/-- The join check state (R132); the mark says that a dropped call is owed at the next AP expiry. -/
inductive JoinCheck where
  | none
  | callPending (requeue : Bool)
deriving DecidableEq, Repr, Inhabited

/-- The connection sequencer (R126 to R148), with its drives. -/
structure Connection where
  state : ConnState
  posDrive : Bool
  negDrive : Bool
  preDrive : Bool
  proving : Proving
  failCount : Nat
  failHold : Timer
  prechTimer : Timer
  leaveTimer : Timer
  /-- The auxiliary confirmation window that is open, if any. -/
  window : Option WindowUse
  check : JoinCheck
  /-- The destination of an opening in progress (R138). -/
  dest : Option ConnState
  mismatch : Bool
  prechFail : Bool
deriving DecidableEq, Repr

/-- The grid unit (R149 to R159), with its output line. -/
structure Grid where
  state : GridState
  reconnect : Timer
  breakerHold : Bool
  permit : Bool
deriving DecidableEq, Repr

/-- Who asked for a frame, as far as its loss or its completion is told to that block (R164, R172, R181). -/
inductive Purpose where
  | plain
  /-- A CENSUS_CALL of the fire unit (R111). -/
  | fireCall
  /-- A CENSUS_CALL of the join check in progress (R132). -/
  | joinCheckCall
  /-- A CENSUS_CALL that the gateway asked for (R180). -/
  | gatewayCall
  /-- A CENSUS_CALL of a join check that has ended: it goes out and its result is not taken (R132). -/
  | orphanCall
  /-- The RESTART reply that the pending restart is tied to (R181). -/
  | restartReply
deriving DecidableEq, Repr, Inhabited

/-- An entry of the transmit queue (R163, R166). The payload of an ANNOUNCE is empty until an attempt forms it. -/
structure Entry where
  cls : FrameClass
  kind : Byte
  payload : List Byte
  errors : Nat
  onLine : Bool
  purpose : Purpose
deriving DecidableEq, Repr

/-- Reception (R169): no frame in reception, a frame in reception, or waiting for the next idle. -/
inductive Reception where
  | none | frame | untilIdle
deriving DecidableEq, Repr, Inhabited

/-- The census answer state (R171): the call's question and zone bytes, the frozen answer, and, when the call is this
station's own, who asked for it. -/
structure CensusAnswer where
  question : Byte
  zone : Byte
  answer : Bool
  own : Option Purpose
deriving DecidableEq, Repr

/-- The link controller (R160 to R173). The attempt in progress is the entry that is on the line. -/
structure Link where
  /-- Head first. -/
  queue : List Entry
  headerErrors : Nat
  reception : Reception
  census : Option CensusAnswer
  congestion : Bool
deriving DecidableEq, Repr

/-- The pending restart (R181). `due` stands only inside a step, between the loss or completion of the reply and the
reset that ends the step (log 2). -/
inductive Restart where
  | none | pending | due
deriving DecidableEq, Repr, Inhabited

/-- The start-up and service unit (11). -/
structure Service where
  mode : Mode
  /-- The strap pins as read at the last reset (R174). -/
  straps : StrapPins
  config : Option ConfigSet
  apCount : Nat
  joinHeld : Bool
  /-- The question and zone of the pending gateway census (R180). -/
  gatewayCensus : Option (Byte × Byte)
  restart : Restart
  duplicateId : Bool
  configFaultFlag : Bool
  siteCap : Nat
deriving DecidableEq, Repr

/-- The levels of the input lines as they stand outside the part. -/
structure Lines where
  straps : StrapPins
  /-- The auxiliary contacts: true shows closed. -/
  auxPos : Bool
  auxNeg : Bool
  abort : Bool
  key : Bool
  gridHealthy : Bool
  breakerClosed : Bool
  chillerFault : Bool
deriving DecidableEq, Repr

/-- The whole station. -/
structure State where
  lines : Lines
  chain : Chain
  env : Envelope
  balance : Balance
  peers : PeerView
  claims : ClaimUnit
  thermal : Thermal
  fire : FireUnit
  conn : Connection
  grid : Grid
  link : Link
  svc : Service
  /-- The commands that wait, first in, first out. -/
  pending : List Instr
deriving DecidableEq, Repr

/-- No command of this part stops it: the spec gives every event an effect or says that it has none. -/
inductive Fault
deriving DecidableEq, Repr

/-- Why a command has no outcome in this model. -/
inductive Refusal where
  /-- Raised by an arm of `exec` whose command has no meaning yet; safe, since nothing follows from it. No arm raises it. -/
  | notModelled (mnemonic : String)
deriving DecidableEq, Repr

/-- A module record after reset (R9, R20): cell voltages 0, temperatures invalid, age 255, empty mask. -/
def ModuleRecord.reset : ModuleRecord := ⟨List.replicate 16 0, List.replicate 4 none, 255, []⟩

/-- The chain controller after reset (R20). -/
def Chain.reset : Chain where
  scanTimer := none
  owed := false
  scan := none
  record := ⟨0, .none, none, 0, []⟩
  sense := ⟨0, 0, 0, none, 255⟩
  modules := List.replicate 12 ModuleRecord.reset
  vmin := 0
  vmax := 0
  tmin := 0
  tmax := 0
  dataLoss := true
  tempLoss := true
  chainBreak := false
  staleLeave := true

/-- The envelope unit after reset (R20, R21, R125). -/
def Envelope.reset : Envelope where
  ec := 0
  ed := 0
  cellTrips := List.replicate 12 0
  overCount := 0
  trip := false
  runawayTimer := none
  ring := []
  riseFlag := false
  latch := false

/-- The claim unit after reset (R86). No JOIN_DONE has been queued: the result held for a repeat is the model's (log 6). -/
def ClaimUnit.reset : ClaimUnit where
  join := ⟨[], .notClaimed, false⟩
  heat := ⟨[], .notClaimed, false⟩
  doneResult := .ok
  tokenHeld := false
  slotHeld := false
  headTimer := none
  hold := .stopped
  limit := 0

/-- The thermal controller after reset (R102). -/
def Thermal.reset : Thermal where
  state := .idle
  level := 0
  demand := false
  heater := false
  valve := false
  pump1 := false
  pump2 := false
  chillerRun := false
  degraded := false
  inlet := none
  soakCond := false
  recoveryCond := false
  soakTimer := none
  recoveryTimer := none

/-- The fire unit after reset (R125). -/
def FireUnit.reset : FireUnit where
  loopTimer := none
  loopS := ⟨.normal, none, 0⟩
  loopH := ⟨.normal, none, 0⟩
  loopTrouble := false
  serviceKey := false
  state := .normal
  countdown := none
  census := .idle
  repeatTimer := none
  release := false
  fireLine := false
  tripLine := false

/-- The connection sequencer after reset (R148). -/
def Connection.reset : Connection where
  state := .openRack
  posDrive := false
  negDrive := false
  preDrive := false
  proving := .notDone
  failCount := 0
  failHold := none
  prechTimer := none
  leaveTimer := none
  window := none
  check := .none
  dest := none
  mismatch := false
  prechFail := false

/-- The start-up and service unit after reset, with the strap pins read (R174, R182). -/
def Service.reset (straps : StrapPins) : Service where
  mode := .loading
  straps := straps
  config := none
  apCount := 0
  joinHeld := false
  gatewayCensus := none
  restart := .none
  duplicateId := false
  configFaultFlag := false
  siteCap := 0

/-- What either reset leaves (R182 and the reset tables of the chapters): every item of the part at its reset value, the
strap pins read, and reception waiting for the next idle (R173); the input lines and the waiting commands are outside the part
and stay (log 32). -/
def State.resetWith (lines : Lines) (pending : List Instr) : State where
  lines := lines
  chain := Chain.reset
  env := Envelope.reset
  balance := ⟨[], none⟩
  peers := ⟨none, [], false, 0, false⟩
  claims := ClaimUnit.reset
  thermal := Thermal.reset
  fire := FireUnit.reset
  conn := Connection.reset
  grid := ⟨.down, none, false, false⟩
  link := ⟨[], 0, .untilIdle, none, false⟩
  svc := Service.reset lines.straps
  pending := pending

/-- The input lines of `State.reset`: every input released, both contacts open, every strap pin low (log 7). -/
def Lines.reset : Lines := ⟨⟨0, 0, false⟩, false, false, false, false, false, false, false⟩

/-- The station right after reset, with nothing waiting. -/
def State.reset : State := State.resetWith Lines.reset []

end Sys2Proof.Machine
end

