-- ==== Sys2Proof/Machine/Operands.lean ====
section
/-! DEFINITION. The operand forms: codes and byte layouts of R183, the saturation of readings (R7, R8), the addresses of
a station (R170), and the payloads that the part forms. -/

namespace Sys2Proof.Machine

open Sys2Proof

/-- The own station number: the strap value plus 1 (R174). -/
def State.ownNumber (s : State) : Nat := s.svc.straps.number.toNat + 1

/-- The own zone: the strap value plus 1 (R174). -/
def State.ownZone (s : State) : Nat := s.svc.straps.zone.toNat + 1

/-- The sender field of every own frame (R174). -/
def State.ownSender (s : State) : BitVec 5 := BitVec.ofNat 5 s.ownNumber

/-- A station number: 1 to 16. -/
def isStation (n : Nat) : Bool := 1 ≤ n && n ≤ 16

/-- A peer: a station number other than the own one (R55). -/
def State.isPeer (s : State) (n : Nat) : Bool := isStation n && n != s.ownNumber

/-- The own number and the addresses 31 and 24 plus the own zone (R170). -/
def State.addressed (s : State) (dest : Byte) : Bool :=
  dest.toNat == s.ownNumber || dest.toNat == 31 || dest.toNat == 24 + s.ownZone

/-- An unsigned byte (R183). -/
def byteOfNat (n : Nat) : Byte := BitVec.ofNat 8 n

/-- A signed byte, two's complement (R183). -/
def byteOfInt (t : Int) : Byte := BitVec.ofInt 8 t

/-- Two bytes, high byte first (R183). -/
def bytes2 (w : Word16) : List Byte := [hiByte w, loByte w]

/-- Two bytes of an unsigned value (R183). -/
def bytes2OfNat (n : Nat) : List Byte := bytes2 (BitVec.ofNat 16 n)

/-- Two bytes of a signed value (R183). -/
def bytes2OfInt (t : Int) : List Byte := bytes2 (BitVec.ofInt 16 t)

/-- A big-endian pair read back (R183). -/
def natOfBytes2 (hi lo : Byte) : Nat := hi.toNat * 256 + lo.toNat

/-- The byte of a temperature entry, −128 when invalid (R183). -/
def byteOfTemp : Option Int → Byte
  | none => byteOfInt (-128)
  | some t => byteOfInt t

/-- The mode code (R183); LOADING, in which nothing is sent, has none and reads 0 (log 8). -/
def modeCode : Mode → Nat
  | .loading => 0
  | .listening => 1
  | .active => 2
  | .safe => 3
  | .configFault => 4

/-- The connection state code (R183). -/
def connCode : ConnState → Nat
  | .openRack => 0
  | .waitToken => 1
  | .precharge => 2
  | .closing => 3
  | .joined => 4
  | .leaving => 5
  | .opening => 6
  | .welded => 7
  | .lockout => 8
  | .outOfService => 9

/-- The fire state code (R183). -/
def fireCode : FireState → Nat
  | .normal => 0
  | .preAlarm => 1
  | .alarm => 2
  | .releaseDelay => 3
  | .releaseHeld => 4
  | .released => 5

/-- The fire state of a received byte (R183); a byte above 5 is a free value (log 3). -/
def fireOfByte (b : Byte) : FireState :=
  match b.toNat with
  | 0 => .normal
  | 1 => .preAlarm
  | 2 => .alarm
  | 3 => .releaseDelay
  | 4 => .releaseHeld
  | 5 => .released
  | _ => Config.unlistedFireState b

/-- The zone of a received byte (R183); a byte outside 1 to 4 is a free value (log 4). -/
def zoneOfByte (b : Byte) : Nat :=
  if 1 ≤ b.toNat ∧ b.toNat ≤ 4 then b.toNat else (Config.unlistedZone b).val + 1

/-- The thermal state code (R183). -/
def thermalCode : ThermalState → Nat
  | .idle => 0
  | .cooling => 1
  | .heatWait => 2
  | .heating => 3
  | .inhibited => 4

/-- The scan outcome code (R183). -/
def outcomeCode : ScanOutcome → Nat
  | .none => 0
  | .complete => 1
  | .completeWithBad => 2
  | .terminated => 3

/-- The result code (R183). -/
def resultCode : ReplyResult → Nat
  | .done => 0
  | .refusedState => 1
  | .refusedValue => 2
  | .unknown => 3

/-- The census question codes (R183). -/
def questionZoneSource : Byte := 1
def questionJoined : Byte := 2
def questionHeating : Byte := 3
def questionPresent : Byte := 4

/-- "Fire state ALARM or later" (00_scope.md, Names and typography). -/
def fireAlarmed : FireState → Bool
  | .normal => false
  | .preAlarm => false
  | .alarm => true
  | .releaseDelay => true
  | .releaseHeld => true
  | .released => true

/-- A value held within a range: a reading outside it is stored as the nearer end (R7, R8). -/
def clampInt (lo hi x : Int) : Int := if x < lo then lo else if hi < x then hi else x

/-- A cell reading as stored: above 5000 mV it is stored as 5000 (R7). -/
def storeCell (mv : Nat) : Nat := min mv 5000

/-- A temperature reading as stored: saturated to −40 to +125 °C, invalid when open or shorted (R7, R8). -/
def storeTemp : TempReading → Option Int
  | .value t => some (clampInt (-40) 125 t)
  | .openSensor => none
  | .shortedSensor => none

/-- A current reading as stored, −500.0 to +500.0 A (R8). -/
def storeCurrent (i : Int) : Int := clampInt (-5000) 5000 i

/-- A voltage reading as stored, 0 to 1500.0 V (R8). -/
def storeVoltage (v : Int) : Nat := (clampInt 0 15000 v).toNat

/-- The class of a loop current in microamperes (R103). -/
def loopClass (microamps : Nat) : LoopClass :=
  if microamps < 2000 then .openLoop
  else if microamps < 12000 then .normal
  else if microamps < 35000 then .alarm
  else .short

/-- The source set as its three flags S, H and runaway (R108). -/
structure Sources where
  s : Bool
  h : Bool
  runaway : Bool
deriving DecidableEq, Repr

/-- The number of members of a source set. -/
def Sources.size (x : Sources) : Nat := x.s.toNat + x.h.toNat + x.runaway.toNat

/-- Whether a set gained a member (R108, R110). -/
def Sources.gained (before after : Sources) : Bool :=
  (after.s && !before.s) || (after.h && !before.h) || (after.runaway && !before.runaway)

/-- The source set of a station (R108). -/
def State.sources (s : State) : Sources :=
  ⟨s.fire.loopS.state == .alarm, s.fire.loopH.state == .alarm, s.env.latch⟩

/-- A frame's entry, not on the line, with no bit error yet. -/
def newEntry (cls : FrameClass) (kind : Byte) (payload : List Byte) (purpose : Purpose) : Entry :=
  ⟨cls, kind, payload, 0, false, purpose⟩

/-- A FIRE_NOTICE formed from the state it is queued in (R121, R183); the high bits of its third byte, which have no meaning, are
sent as 0 (log 42). -/
def State.fireNotice (s : State) : Entry :=
  newEntry .fire 1
    [byteOfNat s.ownZone, byteOfNat (fireCode s.fire.state),
      byteOfNat (natOfFlags [s.sources.s, s.sources.h, s.sources.runaway, s.fire.serviceKey])] .plain

/-- A CENSUS_CALL (R171, R183). -/
def censusCall (question zone : Byte) (purpose : Purpose) : Entry := newEntry .census 1 [question, zone] purpose

/-- The fire unit's call ZONE_SOURCE of the own zone (R111). -/
def State.zoneCall (s : State) : Entry := censusCall questionZoneSource (byteOfNat s.ownZone) .fireCall

/-- The sequencer's call JOINED, zone byte 0 (R132, R171). -/
def joinedCall : Entry := censusCall questionJoined 0 .joinCheckCall

/-- The claim frames (R183). -/
def joinClaimFrame : Entry := newEntry .claim 1 [] .plain
def joinDoneFrame : JoinResult → Entry
  | .ok => newEntry .claim 2 [0] .plain
  | .failed => newEntry .claim 2 [1] .plain
def heatClaimFrame : Entry := newEntry .claim 3 [] .plain
def heatReleaseFrame : Entry := newEntry .claim 4 [] .plain

/-- An ANNOUNCE, whose payload the attempt forms (R163). -/
def announceFrame : Entry := newEntry .announce 1 [] .plain

/-- A SERVICE_REPLY: destination 0, the result and the low six bits of the request kind, and the data (R183). -/
def serviceReply (kind : Byte) (result : ReplyResult) (data : List Byte) (purpose : Purpose) : Entry :=
  newEntry .service 128 (0 :: byteOfNat (64 * resultCode result + kind.toNat % 64) :: data) purpose

/-- The bytes that the attempt on an entry puts on the line (R161, R162). -/
def State.entryBytes (s : State) (e : Entry) : List Byte :=
  encodeFrame ⟨e.cls.code, s.ownSender, e.kind, e.payload⟩

/-- The entry on the line, if an attempt is in progress (R165). -/
def State.onLine (s : State) : Option Entry := s.link.queue.find? (·.onLine)

/-- The frame bytes that the station is sending, if any: its link output (R161, R165). -/
def State.sending (s : State) : Option (List Byte) := s.onLine.map s.entryBytes

/-- The levels of the frame that the station is sending, one bit time each (R160). -/
def State.sendingLevels (s : State) : Option (List Bool) := s.sending.map frameLevels

/-- The 20 levels that a station drives in a census window: the caller the start bit of each answer byte dominant, every
station its own data bit dominant when its answer is yes, and nothing else (R160, R171). -/
def windowDrive (number : Nat) (a : CensusAnswer) : List Bool :=
  (List.range 20).map (fun k =>
    if k % 10 = 0 then a.own.isNone
    else if k % 10 = 9 then true
    else !(a.answer && 8 * (k / 10) + k % 10 == number))

/-- What the station drives in the census window that is open, if one is (R171). -/
def State.windowLevels (s : State) : Option (List Bool) := s.link.census.map (windowDrive s.ownNumber)

/-- A census window as read from its 20 levels: two answer bytes, each with its start and stop bit, sent least significant bit
first (R160, R171). -/
def readWindow (levels : List Bool) : WindowRead where
  start1Dominant := !levels.getD 0 true
  stop1Dominant := !levels.getD 9 true
  start2Dominant := !levels.getD 10 true
  stop2Dominant := !levels.getD 19 true
  answer1 := byteOfLevels false ((levels.drop 1).take 8)
  answer2 := byteOfLevels false ((levels.drop 11).take 8)

/-- Whether station `n` (1 to 16) answered yes in a window: its data bit read dominant, that is 0 (R160, R171; log 9). -/
def windowYes (w : WindowRead) (n : Nat) : Bool :=
  if n ≤ 8 then !w.answer1.getLsbD (n - 1) else !w.answer2.getLsbD (n - 9)

/-- Some station other than the own one answered yes (R112, R133). -/
def State.otherYes (s : State) (w : WindowRead) : Bool :=
  (List.range 16).any (fun k => k + 1 != s.ownNumber && windowYes w (k + 1))

/-- A good window: both start bits read dominant and both stop bits recessive (R172). -/
def windowGood (w : WindowRead) : Bool :=
  w.start1Dominant && w.start2Dominant && !w.stop1Dominant && !w.stop2Dominant

/-- PRECH_MAX in milliseconds; without a configuration set it is a free value (R78, log 5). -/
def State.prechMaxMs (s : State) : Nat :=
  match s.svc.config with
  | some c => c.prechMax * 1000
  | none => Config.prechMaxWithoutSet * 1000

/-- RELEASE_DELAY in milliseconds: configured, or 30 s in CONFIG_FAULT (R116, R124). -/
def State.releaseDelayMs (s : State) : Nat :=
  match s.svc.config with
  | some c => c.releaseDelay * 1000
  | none => 30000

/-- The reconnect delay in milliseconds: RECONNECT × 5 s, or 1800 s at 0 (R149). -/
def reconnectDelayMs (c : ConfigSet) : Nat := if c.reconnect = 0 then 1800000 else c.reconnect * 5000

/-- The record of module position `p` (R7). -/
def State.moduleRecord (s : State) (p : Nat) : ModuleRecord := s.chain.modules.getD (p - 1) ModuleRecord.reset

/-- |a − b| of two voltages in 0.1 V. -/
def voltageGap (a b : Nat) : Nat := ((a : Int) - (b : Int)).natAbs

end Sys2Proof.Machine
end

