-- ==== Sys2Proof/Machine/Flags.lean ====
section
/-! DEFINITION. The flags: how the chain controller's flags are judged (R10 to R14), the condition word (11.4), the
ANNOUNCE flags byte and payload (R183), and the conditions that the blocks judge as they stand (R77, R81, R109, R140,
R153, R64, R65). -/

namespace Sys2Proof.Machine

open Sys2Proof

/-- The ages of positions 0 to M (R9). -/
def Chain.ages (c : Chain) (m : Nat) : List Nat := c.sense.age :: (c.modules.take m).map (·.age)

/-- DATA_LOSS as judged: some age among positions 0 to M above 3 (R10). -/
def Chain.dataLossNow (c : Chain) (m : Nat) : Bool := (c.ages m).any (3 < ·)

/-- The stale-data leave condition as judged: some age above 10 (R11). -/
def Chain.staleNow (c : Chain) (m : Nat) : Bool := (c.ages m).any (10 < ·)

/-- The eligible modules: those of positions 1 to M with an age of 3 or less (R13). -/
def Chain.eligible (c : Chain) (m : Nat) : List ModuleRecord := (c.modules.take m).filter (·.age ≤ 3)

/-- The valid sensors' values: entries that are values, of modules with an age of 3 or less (R12). -/
def Chain.validTemps (c : Chain) (m : Nat) : List Int := (c.eligible m).flatMap (fun r => r.temps.filterMap id)

/-- TEMP_LOSS as judged: fewer than half the sensors valid (R12). -/
def Chain.tempLossNow (c : Chain) (m tsens : Nat) : Bool := 2 * (c.validTemps m).length < m * tsens

/-- The lowest of a list, or the value kept when there is none (R13). -/
def minOr {α : Type} [LinearOrder α] (kept : α) : List α → α
  | [] => kept
  | x :: xs => xs.foldl min x

/-- The highest of a list, or the value kept when there is none (R13). -/
def maxOr {α : Type} [LinearOrder α] (kept : α) : List α → α
  | [] => kept
  | x :: xs => xs.foldl max x

/-- The condition word, bit by bit (11.4, R183). -/
def State.conditionWord (s : State) : Word16 :=
  BitVec.ofNat 16 (natOfFlags
    [s.chain.dataLoss, s.chain.tempLoss, s.env.trip, s.thermal.degraded, s.fire.loopTrouble, s.conn.mismatch,
      s.conn.prechFail, s.link.congestion, s.svc.duplicateId, s.chain.chainBreak, s.svc.joinHeld, s.grid.breakerHold,
      s.fire.serviceKey, s.svc.configFaultFlag])

/-- A claim flag of the ANNOUNCE: set while the own claim state is LISTED (R74). -/
def OwnClaim.flag : OwnClaim → Bool
  | .listed => true
  | .notClaimed => false
  | .claimQueued _ => false
  | .releaseQueued _ => false

/-- The flags byte of the ANNOUNCE: join claim, heater claim, maintenance key, breaker closed, permit (R183),
and 0 in the bits above them (log 42). -/
def State.announceFlags (s : State) : Byte :=
  byteOfNat (natOfFlags [s.claims.join.own.flag, s.claims.heat.own.flag, s.fire.serviceKey, s.lines.breakerClosed, s.grid.permit])

/-- The ANNOUNCE payload as the values stand (R163, R183). That the bits to which the layout gives no meaning are sent as 0 is the
model's choice (log 42). -/
def State.announcePayload (s : State) : List Byte :=
  [byteOfNat (modeCode s.svc.mode), byteOfNat (connCode s.conn.state), byteOfNat (fireCode s.fire.state),
      byteOfNat (thermalCode s.thermal.state + 16 * s.thermal.level), byteOfNat s.ownZone, s.announceFlags]
    ++ bytes2 s.conditionWord ++ bytes2OfNat s.env.ec ++ bytes2OfNat s.env.ed
    ++ bytes2OfNat s.chain.sense.stringV ++ bytes2OfNat s.chain.sense.busV ++ bytes2OfInt s.chain.sense.current
    ++ bytes2OfNat s.chain.vmin ++ bytes2OfNat s.chain.vmax
    ++ [byteOfInt s.chain.tmin, byteOfInt s.chain.tmax]

/-- The token is held: the own number heads the join list and the own join claim state is LISTED (R77). -/
def State.tokenNow (s : State) : Bool :=
  s.claims.join.entries.head? == some s.ownNumber && s.claims.join.own == .listed

/-- The own slot is held: the own number stands at a position of L or less and the own heater claim is LISTED (R81). -/
def State.slotNow (s : State) : Bool :=
  (s.claims.heat.entries.take s.claims.limit).contains s.ownNumber && s.claims.heat.own == .listed

/-- Release is inhibited: the own key is asserted or the zone key check holds (R109). -/
def State.inhibited (s : State) : Bool := s.fire.serviceKey || s.peers.zoneKey

/-- The zone key check as the records stand: a PRESENT record of the own zone with its key flag set (R65). -/
def State.zoneKeyNow (s : State) : Bool :=
  s.peers.table.any (fun r => r.presence == .present && r.zone == s.ownZone && r.key)

/-- The zone peer alarm condition: a record of the own zone in ALARM or later (R110). -/
def State.zonePeerAlarm (s : State) : Bool :=
  s.peers.table.any (fun r => r.zone == s.ownZone && fireAlarmed r.fire)

/-- Some record, PRESENT or STALE, in ALARM or later (R61). -/
def State.anyPeerAlarm (s : State) : Bool := s.peers.table.any (fun r => fireAlarmed r.fire)

/-- The container cooling level: the highest of the own level and the records' levels that are present (R64). -/
def State.containerLevelNow (s : State) : Nat :=
  (s.peers.table.filterMap (·.level)).foldl max s.thermal.level

/-- The thermal inhibit: mode other than ACTIVE, fire state ALARM or later, or container fire (R87, R90). -/
def State.thermalInhibit (s : State) : Bool :=
  s.svc.mode != .active || fireAlarmed s.fire.state || s.peers.containerFire

/-- A forced-leave cause holds (R140). -/
def State.forcedCause (s : State) : Bool :=
  fireAlarmed s.fire.state || s.peers.containerFire || s.env.trip || s.chain.staleLeave
    || s.svc.mode == .safe || s.fire.serviceKey

/-- The seven conditions of the close permit (R153). -/
def State.permitNow (s : State) : Bool :=
  s.grid.state == .up && s.svc.mode == .active && s.fire.state == .normal && !s.peers.containerFire
    && s.claims.join.entries.isEmpty && s.conn.state != .welded && !s.grid.breakerHold

/-- The modes in which the chain controller scans, and with it the envelope, the grid unit and the degraded-cooling
logic work (R4, R100, R158). -/
def scanningMode : Mode → Bool
  | .listening => true
  | .active => true
  | .safe => true
  | .loading => false
  | .configFault => false

end Sys2Proof.Machine
end

