-- ==== Sys2Proof/Machine/Ops.lean ====
section
/-! DEFINITION. The shared operations that every block uses: the transmit queue with displacement, drop and the report
of a loss (R163, R164), the changes of connection and fire state with the cancelling of a pending restart (R181), the
drops of the envelope pair and the balance set (R41, R46), and the receiver's gate (R168, R175). -/

namespace Sys2Proof.Machine

open Sys2Proof

/-! ### The transmit queue -/

/-- The place of a new entry: behind every entry of its own and higher-ranking classes (R163). -/
def insertByClass (e : Entry) (q : List Entry) : List Entry :=
  q.takeWhile (fun x => x.cls.rank ≤ e.cls.rank) ++ e :: q.dropWhile (fun x => x.cls.rank ≤ e.cls.rank)

/-- The youngest entry of the lowest-ranking class that is not on the line (R164): the queue stands in class order and,
within a class, oldest first. -/
def lastWaiting (q : List Entry) : Option Entry := (q.filter (fun e => !e.onLine)).getLast?

/-- The queue without that entry. -/
def eraseLastWaiting : List Entry → List Entry
  | [] => []
  | e :: q =>
    if q.any (fun x => !x.onLine) then e :: eraseLastWaiting q
    else if e.onLine then e :: q else q

/-- An ANNOUNCE that waits, not on the line (R163). -/
def waitingAnnounce (e : Entry) : Bool := e.cls == .announce && !e.onLine

/-- The queue with its waiting ANNOUNCE replaced in its place (R163). -/
def replaceAnnounce (new : Entry) : List Entry → List Entry
  | [] => []
  | e :: q =>
    if q.any waitingAnnounce then e :: replaceAnnounce new q
    else if waitingAnnounce e then new :: q else e :: q

/-- Another queue. -/
def State.setQueue (s : State) (q : List Entry) : State := { s with link := { s.link with queue := q } }

/-- What a claim list does when its own frame is lost (R73). -/
def ClaimList.lost (l : ClaimList) : ClaimList :=
  match l.own with
  | .claimQueued true => { l with own := .notClaimed }
  | .claimQueued false => { l with requeue := true }
  | .releaseQueued _ => { l with requeue := true }
  | .notClaimed => l
  | .listed => l

/-- The reset of a pending restart becomes due: its reply has completed or is lost (R181). -/
def State.dueRestart (s : State) : State :=
  if s.svc.restart = .pending then { s with svc := { s.svc with restart := .due } } else s

/-- The loss of an own frame is reported to the block that queued it (R164, R73, R111, R132, R180, R181). -/
def State.reportLoss (s : State) (e : Entry) : State :=
  match e.cls with
  | .claim =>
    if e.kind.toNat ≤ 2 then { s with claims := { s.claims with join := s.claims.join.lost } }
    else { s with claims := { s.claims with heat := s.claims.heat.lost } }
  | .census =>
    match e.purpose with
    | .fireCall => { s with fire := { s.fire with census := .idle } }
    | .joinCheckCall =>
      match s.conn.check with
      | .callPending _ => { s with conn := { s.conn with check := .callPending true } }
      | .none => s
    | .gatewayCall => { s with svc := { s.svc with gatewayCensus := none } }
    | .plain => s
    | .orphanCall => s
    | .restartReply => s
  | .service =>
    match e.purpose with
    | .restartReply => s.dueRestart
    | .plain => s
    | .fireCall => s
    | .joinCheckCall => s
    | .gatewayCall => s
    | .orphanCall => s
  | .fire => s
  | .announce => s

/-- LINK_CONGESTION is set (R164). -/
def State.congest (s : State) : State := { s with link := { s.link with congestion := true } }

/-- A block hands a frame to the queue: in class order, or, when the queue holds 8 entries, in place of a lower-ranking
waiting entry, or not at all (R163, R164). -/
def State.enqueue (s : State) (e : Entry) : State :=
  if s.link.queue.length < 8 then s.setQueue (insertByClass e s.link.queue)
  else
    match lastWaiting s.link.queue with
    | none => s.congest.reportLoss e
    | some v =>
      if e.cls.rank < v.cls.rank then
        ((s.setQueue (insertByClass e (eraseLastWaiting s.link.queue))).congest).reportLoss v
      else s.congest.reportLoss e

/-- The peer view hands over an ANNOUNCE: it replaces a waiting one or is queued like any frame (R163, R164, R54). -/
def State.enqueueAnnounce (s : State) : State :=
  if s.link.queue.any waitingAnnounce then s.setQueue (replaceAnnounce announceFrame s.link.queue)
  else s.enqueue announceFrame

/-- An entry that leaves the line without completing: it waits again, and an ANNOUNCE's payload is dropped, since the
next attempt forms it afresh (R163, R165). -/
def Entry.offLine (e : Entry) : Entry :=
  { e with onLine := false, payload := if e.cls = .announce then [] else e.payload }

/-- The queue with a change made to the entry on the line. -/
def mapOnLine (f : Entry → Entry) (q : List Entry) : List Entry := q.map (fun e => if e.onLine then f e else e)

/-- The queue with its first waiting ANNOUNCE alone (R54, R163): when an ANNOUNCE leaves the line without completing while a
second waits, the first keeps its place and the second goes; the next attempt forms the payload afresh either way (log 14). -/
def oneAnnounce : List Entry → List Entry
  | [] => []
  | e :: q => if waitingAnnounce e then e :: q.filter (fun x => !waitingAnnounce x) else e :: oneAnnounce q

/-- The queue without the entry on the line. -/
def dropOnLine (q : List Entry) : List Entry := q.filter (fun e => !e.onLine)

/-- Every entry of one purpose given another. -/
def retag (old new : Purpose) (q : List Entry) : List Entry :=
  q.map (fun e => if e.purpose = old then { e with purpose := new } else e)

/-! ### Restart, connection state, fire state -/

/-- The connection and fire states from which a RESTART is accepted and in which it stays pending (R181). -/
def State.restartAllowed (s : State) : Bool :=
  (s.conn.state == .openRack || s.conn.state == .outOfService || s.conn.state == .lockout) && s.fire.state == .normal

/-- A pending restart is cancelled when the connection or fire state has left the accepted set (R181). -/
def State.cancelRestart (s : State) : State :=
  if s.svc.restart = .pending ∧ s.restartAllowed = false then
    { s with
      svc := { s.svc with restart := .none }
      link := { s.link with queue := retag .restartReply .plain s.link.queue } }
  else s

/-- A change of the connection state. -/
def State.setConn (s : State) (st : ConnState) : State := ({ s with conn := { s.conn with state := st } }).cancelRestart

/-- A change of the fire state. -/
def State.setFire (s : State) (st : FireState) : State := ({ s with fire := { s.fire with state := st } }).cancelRestart

/-! ### Drops between evaluations -/

/-- The pair is set to 0 at once (R41). -/
def State.zeroPair (s : State) : State := { s with env := { s.env with ec := 0, ed := 0 } }

/-- The mask of module `p`: the cell indices of the members at that position, ascending (R44). -/
def maskOf (members : List (Nat × Nat)) (p : Nat) : List Nat :=
  (members.filter (fun m => m.1 == p)).map (·.2)

/-- The masks of every module record, written together from a set whose members stand in ascending order (R44). -/
def writeMasks (members : List (Nat × Nat)) (records : List ModuleRecord) : List ModuleRecord :=
  records.zipIdx.map (fun r => { r.1 with mask := maskOf members (r.2 + 1) })

/-- The balance set is given new members; the masks are written when the set changes (R44). -/
def State.setMembers (s : State) (members : List (Nat × Nat)) : State :=
  if members = s.balance.members then s
  else
    { s with
      balance := { s.balance with members := members }
      chain := { s.chain with modules := writeMasks members s.chain.modules } }

/-- The balance set is emptied (R46). -/
def State.emptyBalance (s : State) : State := s.setMembers []

/-! ### The receiver's gate -/

/-- Another reception state. -/
def State.setReception (s : State) (r : Reception) : State := { s with link := { s.link with reception := r } }

/-- The station hears the link: it has no frame of its own on the line (R168). -/
def State.hears (s : State) : Bool := s.onLine.isNone

/-- A frame's arrival: heard only while no own frame is on the line (R168), handed on only outside LOADING (R173). -/
def State.receive (s : State) (act : State → State) : State :=
  if s.hears then
    (if s.svc.mode = .loading then s.setReception .none else act (s.setReception .none))
  else s

/-- A broadcast with a fixed payload length: one of another length is discarded without trace (R169). -/
def State.receiveKind (s : State) (payload : List Byte) (length : Nat) (act : State → State) : State :=
  s.receive (fun t => if payload.length = length then act t else t)

end Sys2Proof.Machine
end

