-- ==== Sys2Proof/Machine/ConnectionOps.lean ====
section
/-! DEFINITION. The connection sequencer's shared operations: drives, confirmation windows (R127), opening, welds,
precharge failure, forced leave (R137, R138, R140, R145), the steps of joining and leaving (R134 to R136, R143), the own
join claim and the token (R71, R72, R77, R78, R132). -/

namespace Sys2Proof.Machine

open Sys2Proof

/-- The three drives. -/
def State.setDrives (s : State) (neg pre pos : Bool) : State :=
  { s with conn := { s.conn with negDrive := neg, preDrive := pre, posDrive := pos } }

/-- Another confirmation window, or none. -/
def State.setWindow (s : State) (w : Option WindowUse) : State := { s with conn := { s.conn with window := w } }

/-- Every input that a window names shows its expected position (R127). -/
def State.windowMet (s : State) : WindowUse → Bool
  | .proving => !s.lines.auxPos && !s.lines.auxNeg
  | .negClose => s.lines.auxNeg
  | .posClose => s.lines.auxPos
  | .opening => !s.lines.auxPos && !s.lines.auxNeg
  | .leavePos => !s.lines.auxPos
  | .leaveNeg => !s.lines.auxNeg

/-! ### The own join claim, as the sequencer asks for it -/

/-- Another own claim state of the join list. -/
def State.setJoinOwn (s : State) (o : OwnClaim) : State :=
  { s with claims := { s.claims with join := { s.claims.join with own := o } } }

/-- JOIN_DONE is queued with a result, which a repeat carries too (R72, R73). -/
def State.queueJoinDone (s : State) (r : JoinResult) : State :=
  (({ s with claims := { s.claims with doneResult := r } }).setJoinOwn (.releaseQueued false)).enqueue (joinDoneFrame r)

/-- A claim request for the join list (R71). -/
def State.joinClaim (s : State) : State :=
  if s.svc.mode = .active ∧ s.peers.containerFire = false then
    match s.claims.join.own with
    | .notClaimed => (s.setJoinOwn (.claimQueued false)).enqueue joinClaimFrame
    | .claimQueued _ => s.setJoinOwn (.claimQueued false)
    | .listed => s
    | .releaseQueued _ => s.setJoinOwn (.releaseQueued true)
  else s

/-- A release request for the join list, as the own claim state takes it (R72). -/
def State.joinRelease (s : State) (r : JoinResult) : State :=
  match s.claims.join.own with
  | .notClaimed => s
  | .claimQueued _ => s.setJoinOwn (.claimQueued true)
  | .listed => s.queueJoinDone r
  | .releaseQueued _ => s.setJoinOwn (.releaseQueued false)

/-- The token as last signalled is brought up to date without a signal. -/
def State.syncToken (s : State) : State := { s with claims := { s.claims with tokenHeld := s.tokenNow } }

/-- The sequencer's own release request: it has left the states that the loss of the token acts on (R77). -/
def State.seqRelease (s : State) (r : JoinResult) : State := (s.joinRelease r).syncToken

/-! ### Opening, welds and leaving the bus -/

/-- The join check ends: its state is NONE, and a call of its own that still goes out is no longer its own (R132). -/
def State.abandonCheck (s : State) : State :=
  { s with
    conn := { s.conn with check := .none }
    link :=
      { s.link with
        queue := retag .joinCheckCall .orphanCall s.link.queue
        census := s.link.census.map (fun a => if a.own = some .joinCheckCall then { a with own := some .orphanCall } else a) } }

/-- WELDED: all drives off, no window (R145). -/
def State.enterWelded (s : State) : State :=
  ((s.setDrives false false false).setWindow none).setConn .welded

/-- The opening's success: the state becomes the destination (R138). -/
def State.finishOpening (s : State) : State :=
  let t := ({ s with conn := { s.conn with window := none, dest := none } })
  t.setConn (s.conn.dest.getD .openRack)

/-- Entry to OPENING: all drives off, and a window for both contacts to show open, which may succeed as it opens (R138, R127). That
the precharge and the leave timer stop here is the model's choice (log 39). -/
def State.enterOpening (s : State) (dest : ConnState) : State :=
  let t := (({ s with
    conn :=
      { s.conn with
        negDrive := false
        preDrive := false
        posDrive := false
        prechTimer := none
        leaveTimer := none
        window := some .opening
        dest := some dest } }).setConn .opening)
  if t.windowMet .opening then t.finishOpening else t

/-- WAIT_TOKEN is left for another state without precharging (R131, R132). -/
def State.leaveWaitToken (s : State) (st : ConnState) : State := s.abandonCheck.setConn st

/-- The effect of a forced-leave cause on the connection state (R140). -/
def State.forcedLeave (s : State) : State :=
  match s.conn.state with
  | .precharge => (s.enterOpening .openRack).seqRelease .failed
  | .closing => (s.enterOpening .openRack).seqRelease .failed
  | .joined => (s.enterOpening .openRack).seqRelease .failed
  | .leaving => (s.enterOpening .outOfService).seqRelease .failed
  | .waitToken => (s.leaveWaitToken .openRack).seqRelease .failed
  | .openRack => s
  | .opening => s
  | .outOfService => s
  | .lockout => s
  | .welded => s

/-- The sequencer takes the forced-leave causes as they stand: at the moment one begins to hold, and at each entry to a
state in which one that still holds has an effect (R140). -/
def State.reviewForced (s : State) : State := if s.forcedCause then s.forcedLeave else s

/-- A precharge failure (R137). -/
def State.prechargeFailure (s : State) : State :=
  let n := s.conn.failCount + 1
  let t := { s with conn := { s.conn with prechFail := true, failCount := n, failHold := some 60000 } }
  (t.enterOpening (if n = 3 then .lockout else .openRack)).seqRelease .failed

/-- JOINED: JOIN_DONE OK is queued, the failure count and PRECHARGE_FAIL are cleared (R136). -/
def State.enterJoined (s : State) : State :=
  let t := ({ s with conn := { s.conn with window := none, failCount := 0, prechFail := false } }).setConn .joined
  t.seqRelease .ok

/-- CLOSING: the timer stops, the precharge relay is released, the positive contactor energised, and its window opens,
which may succeed as it opens (R135, R136). -/
def State.enterClosing (s : State) : State :=
  let t := ({ s with
    conn :=
      { s.conn with
        prechTimer := none
        negDrive := true
        preDrive := false
        posDrive := true
        window := some .posClose } }).setConn .closing
  if t.windowMet .posClose then t.enterJoined else t

/-- PRECHARGE: negative contactor and precharge relay energised, the timer started, the negative window opened, which may
succeed as it opens (R134). -/
def State.enterPrecharge (s : State) : State :=
  let t := ({ s with
    conn :=
      { s.conn with
        check := .none
        negDrive := true
        preDrive := true
        posDrive := false
        prechTimer := some s.prechMaxMs
        window := some .negClose } }).setConn .precharge
  if t.windowMet .negClose then t.setWindow none else t

/-- Step 3 of a leave confirmed: OUT_OF_SERVICE (R143). -/
def State.finishLeave (s : State) : State := (s.setWindow none).setConn .outOfService

/-- Step 3 of a leave: the negative contactor is released and its window opens (R143). -/
def State.leaveStep3 (s : State) : State :=
  let t := { s with conn := { s.conn with negDrive := false, window := some .leaveNeg } }
  if t.windowMet .leaveNeg then t.finishLeave else t

/-- Step 2 of a leave: the leave timer stops, the positive contactor is released and its window opens (R143). -/
def State.leaveStep2 (s : State) : State :=
  let t := { s with conn := { s.conn with leaveTimer := none, posDrive := false, window := some .leavePos } }
  if t.windowMet .leavePos then t.leaveStep3 else t

/-- The rack current is within LEAVE_CURRENT (R143). -/
def State.leaveCurrentMet (s : State) (c : ConfigSet) : Bool := s.chain.sense.current.natAbs ≤ 10 * c.leaveCurrent

/-- Step 1 of a leave: the leave timer runs for 5 s, and the current is tested at entry if the rack sense record's age is
0 (R143). -/
def State.enterLeaving (s : State) (c : ConfigSet) : State :=
  let t := ({ s with conn := { s.conn with leaveTimer := some 5000 } }).setConn .leaving
  if t.chain.sense.age = 0 ∧ t.leaveCurrentMet c = true then t.leaveStep2 else t

/-- The open window has succeeded: the rule that opened it takes the success (R127, R128, R134, R136, R138, R143). -/
def State.windowSuccess (s : State) : WindowUse → State
  | .proving => { s with conn := { s.conn with window := none, proving := .complete } }
  | .negClose => s.setWindow none
  | .posClose => s.enterJoined
  | .opening => s.finishOpening
  | .leavePos => s.leaveStep3
  | .leaveNeg => s.finishLeave

/-- The open window has failed (R128, R134, R136, R138, R143). -/
def State.windowFailure (s : State) : WindowUse → State
  | .proving => ({ s with conn := { s.conn with proving := .complete } }).enterWelded
  | .negClose => s.prechargeFailure
  | .posClose => s.prechargeFailure
  | .opening => ({ s with conn := { s.conn with dest := none } }).enterWelded
  | .leavePos => s.enterWelded
  | .leaveNeg => s.enterWelded

/-- The open window is tested against the inputs as they stand (R127). -/
def State.testWindow (s : State) : State :=
  match s.conn.window with
  | none => s
  | some w => if s.windowMet w then s.windowSuccess w else s

/-! ### The token -/

/-- The token stops being held: a precharge failure by give-up, else a forced leave, in PRECHARGE and CLOSING (R135,
R136); the join check ends in WAIT_TOKEN (R132); no effect in the other states. -/
def State.tokenLost (s : State) (giveUp : Bool) : State :=
  let t := s.syncToken
  if t.conn.state = .precharge ∨ t.conn.state = .closing then
    (if giveUp then t.prechargeFailure else t.forcedLeave)
  else if t.conn.state = .waitToken then t.abandonCheck
  else t

/-- The own join claim still supports WAIT_TOKEN (R131). -/
def OwnClaim.waits : OwnClaim → Bool
  | .claimQueued false => true
  | .claimQueued true => false
  | .listed => true
  | .notClaimed => false
  | .releaseQueued _ => false

/-- A release request from another block than the sequencer: WAIT_TOKEN is left for OPEN, and a token that is lost acts on
PRECHARGE and CLOSING (R72, R78, R83, R84, R131). -/
def State.joinReleaseByOther (s : State) (giveUp : Bool) : State :=
  let t := s.joinRelease .failed
  if t.conn.state = .waitToken then
    (if t.claims.join.own.waits then t else (t.leaveWaitToken .openRack).syncToken)
  else if t.claims.tokenHeld ∧ t.tokenNow = false then t.tokenLost giveUp
  else t

/-- The token becomes held in WAIT_TOKEN: the join check begins (R132). -/
def State.startCheck (s : State) : State :=
  ({ s with conn := { s.conn with check := .callPending false } }).enqueue joinedCall

/-- The claim unit signals the start or the end of the token (R77). -/
def State.signalToken (s : State) : State :=
  if s.tokenNow = s.claims.tokenHeld then s
  else if s.tokenNow then
    (if s.conn.state = .waitToken then s.syncToken.startCheck else s.syncToken)
  else s.tokenLost false

/-- The head timer for a new head: PRECH_MAX + 3 s for a peer, PRECH_MAX + 2 s for the own number; stopped when the list
is empty (R78). -/
def State.headTimerFor (s : State) : Option Nat → Timer
  | none => none
  | some n => some (s.prechMaxMs + (if n = s.ownNumber then 2000 else 3000))

/-- The join list's entries change; the head timer starts for a new head (R68, R78). -/
def State.setJoinEntries (s : State) (entries : List Nat) : State :=
  { s with
    claims :=
      { s.claims with
        join := { s.claims.join with entries := entries }
        headTimer := if entries.head? = s.claims.join.entries.head? then s.claims.headTimer
          else s.headTimerFor entries.head? } }

end Sys2Proof.Machine
end

