-- ==== Sys2Proof/Machine/HeaterOps.lean ====
section
/-! DEFINITION. The heater's shared operations: the thermal state with its drives (R87), the own cooling level (R92,
R64, R46), the degraded-cooling conditions (R98, R99), the own heater claim (R71, R72), the slots and rotation (R81,
R82, R94), and the thermal inhibit (R88 to R90). -/

namespace Sys2Proof.Machine

open Sys2Proof

/-- A thermal state with the heater and valve drives that it decides (R87). -/
def State.setThermal (s : State) (st : ThermalState) : State :=
  { s with
    thermal :=
      { s.thermal with
        state := st
        heater := st == .heating
        valve := st == .cooling || st == .inhibited } }

/-! ### Slots and the own heater claim -/

/-- The start or the end of the own slot is signalled: the hold timer starts, or stops and is cleared (R82), and the
thermal controller moves between HEAT_WAIT and HEATING (R94). -/
def State.slotSignal (s : State) : State :=
  if s.slotNow = s.claims.slotHeld then s
  else if s.slotNow then
    let t := { s with
      claims :=
        { s.claims with
          slotHeld := true
          hold := match s.svc.config with
            | some c => .running (c.heatHold * 60000)
            | none => .stopped } }
    if t.thermal.state = .heatWait then t.setThermal .heating else t
  else
    let t := { s with claims := { s.claims with slotHeld := false, hold := .stopped } }
    if t.thermal.state = .heating then t.setThermal .heatWait else t

/-- Rotation is due: the own slot is held, the hold time is served and the list holds more than L entries (R82). -/
def State.rotationDue (s : State) : Bool :=
  s.claims.slotHeld && s.claims.hold == .served && s.claims.limit < s.claims.heat.entries.length

/-- Another own claim state of the heater list. -/
def State.setHeatOwn (s : State) (o : OwnClaim) : State :=
  { s with claims := { s.claims with heat := { s.claims.heat with own := o } } }

/-- Rotation's release: HEAT_RELEASE is queued, with the reclaim mark while demand stands (R82). -/
def State.rotate (s : State) : State := (s.setHeatOwn (.releaseQueued s.thermal.demand)).enqueue heatReleaseFrame

/-- The slots are evaluated afresh (R81), and rotation takes place at the first moment at which it is due (R82). -/
def State.evalSlot (s : State) : State :=
  if s.slotSignal.rotationDue then s.slotSignal.rotate.slotSignal else s.slotSignal

/-- A claim request for the heater list (R71). -/
def State.heatClaim (s : State) : State :=
  if s.svc.mode = .active ∧ s.peers.containerFire = false then
    match s.claims.heat.own with
    | .notClaimed => (s.setHeatOwn (.claimQueued false)).enqueue heatClaimFrame
    | .claimQueued _ => s.setHeatOwn (.claimQueued false)
    | .listed => s
    | .releaseQueued _ => s.setHeatOwn (.releaseQueued true)
  else s

/-- A release request for the heater list (R72). -/
def State.heatRelease (s : State) : State :=
  match s.claims.heat.own with
  | .notClaimed => s
  | .claimQueued _ => s.setHeatOwn (.claimQueued true)
  | .listed => ((s.setHeatOwn (.releaseQueued false)).enqueue heatReleaseFrame).evalSlot
  | .releaseQueued _ => s.setHeatOwn (.releaseQueued false)

/-- The heater list's entries changed; the slots are evaluated afresh (R69, R81). -/
def State.setHeatEntries (s : State) (entries : List Nat) : State :=
  { s with claims := { s.claims with heat := { s.claims.heat with entries := entries } } }

/-- L changes at the grid unit's signal or at a load (R80). -/
def State.setLimit (s : State) (l : Nat) : State := ({ s with claims := { s.claims with limit := l } }).evalSlot

/-! ### Degraded cooling -/

/-- A timer that runs while its condition stands: kept running, started at full, or stopped and cleared. -/
def runWhile (cond : Bool) (length : Nat) (t : Timer) : Timer := if cond then some (t.getD length) else none

/-- The heat-soak timer (10 min) runs while the flag is clear and its condition holds, the recovery timer (5 min) while
the flag is set and its condition holds (R98, R99). -/
def State.runThermalTimers (s : State) : State :=
  { s with
    thermal :=
      { s.thermal with
        soakTimer := runWhile (!s.thermal.degraded && s.thermal.soakCond) 600000 s.thermal.soakTimer
        recoveryTimer := runWhile (s.thermal.degraded && s.thermal.recoveryCond) 300000 s.thermal.recoveryTimer } }

/-- A scan completion hands the inlet temperature of the rack sense record to the thermal controller, which keeps it until the
next one: a GOOD reply from position 0 in the middle of a scan does not change it (R15, log 37). -/
def State.takeInlet (s : State) : State := { s with thermal := { s.thermal with inlet := s.chain.sense.inlet } }

/-- The heat-soak condition as it stands: own level 3 and a valid inlet at or above INLET_LIM (R98). -/
def State.soakNow (s : State) (c : ConfigSet) : Bool :=
  s.thermal.level == 3 && s.thermal.inlet.any (fun t => c.inletLim ≤ t)

/-- The recovery condition as it stands: chiller-fault input released and a valid inlet below INLET_LIM − 3 (R99). -/
def State.recoveryNow (s : State) (c : ConfigSet) : Bool :=
  !s.lines.chillerFault && s.thermal.inlet.any (fun t => t < c.inletLim - 3)

/-- The heat-soak condition is judged: at each scan completion and each change of the own level, in the scanning modes,
which are the modes with a configuration set (R98, R100). -/
def State.judgeSoak (s : State) : State :=
  match s.svc.config with
  | some c => ({ s with thermal := { s.thermal with soakCond := s.soakNow c } }).runThermalTimers
  | none => s

/-- The recovery condition is judged: at each scan completion and each change of the chiller-fault input (R99, R100). -/
def State.judgeRecovery (s : State) : State :=
  match s.svc.config with
  | some c => ({ s with thermal := { s.thermal with recoveryCond := s.recoveryNow c } }).runThermalTimers
  | none => s

/-- COOLING_DEGRADED changes (R98, R99). -/
def State.setDegraded (s : State) (b : Bool) : State :=
  ({ s with thermal := { s.thermal with degraded := b } }).runThermalTimers

/-! ### Own cooling level and the inhibit -/

/-- A change of the own level: a rise to 3 ends balancing (R46), and the heat-soak condition is judged (R98). An
unchanged level signals nothing (R92). -/
def State.setLevel (s : State) (k : Nat) : State :=
  if k = s.thermal.level then s
  else
    let t := { s with thermal := { s.thermal with level := k } }
    (if k = 3 then t.emptyBalance else t).judgeSoak

/-- The cooling level from Tmax with the hysteresis of 2 °C: the highest k that qualifies (R91). -/
def coolingLevel (c : ConfigSet) (prev : Nat) (tmax : Int) : Nat :=
  if c.tc3 ≤ tmax ∨ (3 ≤ prev ∧ c.tc3 - 2 ≤ tmax) then 3
  else if c.tc2 ≤ tmax ∨ (2 ≤ prev ∧ c.tc2 - 2 ≤ tmax) then 2
  else if c.tc1 ≤ tmax ∨ (1 ≤ prev ∧ c.tc1 - 2 ≤ tmax) then 1
  else 0

/-- Heating demand begins from a clear flag (R93). -/
def State.demandBegins (s : State) (c : ConfigSet) (level : Nat) : Bool :=
  level == 0 && !s.chain.tempLoss && s.chain.tmin < c.thOn && s.chain.tmax < c.tc1

/-- Heating demand ends (R93). -/
def State.demandEnds (s : State) (c : ConfigSet) (level : Nat) : Bool :=
  c.thOff ≤ s.chain.tmin || level != 0 || s.chain.tempLoss

/-- Another heating-demand flag. -/
def State.setDemand (s : State) (b : Bool) : State := { s with thermal := { s.thermal with demand := b } }

/-- Demand begins: HEAT_WAIT, and a claim request (R94). -/
def State.beginDemand (s : State) : State := ((s.setDemand true).setThermal .heatWait).heatClaim

/-- Demand is cleared with a release request, if it was set (R88, R92, R94). -/
def State.endDemand (s : State) : State := if s.thermal.demand then (s.setDemand false).heatRelease else s

/-- The own level in INHIBITED (R89). -/
def State.inhibitLevel (s : State) : Nat := if fireAlarmed s.fire.state || s.peers.containerFire then 3 else 0

/-- Entry to INHIBITED: demand cleared and released, heater released, valve energised, level set (R88). -/
def State.enterInhibited (s : State) : State :=
  let t := s.endDemand.setThermal .inhibited
  t.setLevel t.inhibitLevel

/-- On leaving INHIBITED the controller evaluates at once, from level 0 and a cleared demand (R90). -/
def State.leaveInhibited (s : State) : State :=
  match s.svc.config with
  | none => s
  | some c =>
    let k := coolingLevel c 0 s.chain.tmax
    let t := (s.setLevel k).setThermal (if k = 0 then .idle else .cooling)
    if t.demandBegins c k then t.beginDemand else t

/-- A change of the mode, the fire state or the container fire flag reaches the thermal controller (R87 to R90). -/
def State.thermalReview (s : State) : State :=
  if s.svc.mode = .loading then s
  else if s.thermalInhibit then
    (if s.thermal.state = .inhibited then s.setLevel s.inhibitLevel else s.enterInhibited)
  else if s.thermal.state = .inhibited then s.leaveInhibited
  else s

end Sys2Proof.Machine
end

