-- ==== Sys2Proof/Machine/FireOps.lean ====
section
/-! DEFINITION. The shared operations that reach several blocks: the container fire flag (R60, R61), the fire state's
transitions (R110 to R118), the zone key check (R65), SAFE (R177), the claim lists' changes (R69, R75), and what ends
every step: the level-type judgements and the reset of a restart (R64, R97, R140, R153, R181). -/

namespace Sys2Proof.Machine

open Sys2Proof

/-! ### Claim lists -/

/-- A change of the join list with its signals (R68, R77, R78). -/
def State.changeJoin (s : State) (f : List Nat → List Nat) : State :=
  (s.setJoinEntries (f s.claims.join.entries)).signalToken

/-- A change of the heater list with its signals (R68, R81). -/
def State.changeHeat (s : State) (f : List Nat → List Nat) : State :=
  (s.setHeatEntries (f s.claims.heat.entries)).evalSlot

/-- A number is appended at the tail if it is absent (R69, R75). -/
def appendAbsent (n : Nat) (l : List Nat) : List Nat := if l.contains n then l else l ++ [n]

/-- A number is removed from whatever position it holds (R68, R69). -/
def removeNumber (n : Nat) (l : List Nat) : List Nat := l.filter (fun x => x != n)

/-! ### The container fire flag -/

/-- The container fire flag is set; going from clear to set it is signalled at once (R60, R41, R46, R83, R88). That
JOIN_DONE is queued ahead of HEAT_RELEASE is the model's choice (log 43). -/
def State.setContainerFire (s : State) : State :=
  if s.peers.containerFire then s
  else
    (((({ s with peers := { s.peers with containerFire := true } }).zeroPair.emptyBalance).joinReleaseByOther
      false).heatRelease).thermalReview

/-- The evaluation for clearing (R61). An alarm heard under the own number leaves no record (R58), so that a FIRE_RESET taken
after it may clear the flag, against the outcome that R62 gives for a record; and so may the one that ends an own alarm (log
34). -/
def State.evaluateContainerFire (s : State) : State :=
  if s.peers.containerFire = true ∧ s.fire.state = .normal ∧ s.anyPeerAlarm = false then
    ({ s with peers := { s.peers with containerFire := false } }).thermalReview
  else s

/-! ### The fire state -/

/-- A census call of the own zone is queued, unless one is pending (R111). -/
def State.queueCall (s : State) : State :=
  match s.fire.census with
  | .callPending => s
  | .idle => ({ s with fire := { s.fire with census := .callPending } }).enqueue s.zoneCall

/-- The release countdown. -/
def State.setCountdown (s : State) (t : Timer) : State := { s with fire := { s.fire with countdown := t } }

/-- The census repeat timer. -/
def State.setRepeat (s : State) (t : Timer) : State := { s with fire := { s.fire with repeatTimer := t } }

/-- The three output lines of the fire unit. -/
def State.setFireLines (s : State) (release fireLine tripLine : Bool) : State :=
  { s with fire := { s.fire with release := release, fireLine := fireLine, tripLine := tripLine } }

/-- RELEASED: the countdown is over, the release output driven, the notice queued (R117). -/
def State.enterReleased (s : State) : State :=
  let t := ((s.setFire .released).setCountdown none).setFireLines true true true
  t.enqueue t.fireNotice

/-- RELEASE_DELAY with a full countdown: the abort level is read at entry, and a delay of 0 expires at entry (R116). -/
def State.enterReleaseDelay (s : State) : State :=
  if s.lines.abort then (s.setFire .releaseHeld).setCountdown none
  else if s.releaseDelayMs = 0 then s.enterReleased
  else (s.setFire .releaseDelay).setCountdown (some s.releaseDelayMs)

/-- The inhibit of R109 is judged: it takes the countdown states back to ALARM, and its end takes ALARM to
RELEASE_DELAY (R116). -/
def State.reviewInhibit (s : State) : State :=
  match s.fire.state with
  | .alarm => if s.inhibited then s else s.enterReleaseDelay
  | .releaseDelay => if s.inhibited then (s.setFire .alarm).setCountdown none else s
  | .releaseHeld => if s.inhibited then (s.setFire .alarm).setCountdown none else s
  | .normal => s
  | .preAlarm => s
  | .released => s

/-- Entry to ALARM (R114, R115). -/
def State.enterAlarm (s : State) : State :=
  let t := (s.setRepeat none).setFire .alarm
  let u := (t.enqueue t.fireNotice).setFireLines false true true
  ((((u.setContainerFire).zeroPair).emptyBalance).thermalReview).reviewInhibit

/-- Entry to PRE_ALARM (R110, R111, R46). -/
def State.enterPreAlarm (s : State) : State :=
  let t := (s.setFire .preAlarm).emptyBalance
  ((t.enqueue t.fireNotice).setRepeat (some 2000)).queueCall

/-- PRE_ALARM's return to NORMAL (R113). -/
def State.returnToNormal (s : State) : State :=
  let t := (s.setRepeat none).setFire .normal
  t.enqueue t.fireNotice

/-- The fire state is judged after a change of the source set (R108, R110, R113). -/
def State.judgeSources (s : State) (before : Sources) : State :=
  match s.fire.state with
  | .normal =>
    if before.gained s.sources then
      (if 2 ≤ s.sources.size || s.zonePeerAlarm then s.enterAlarm else s.enterPreAlarm)
    else s
  | .preAlarm =>
    if before.gained s.sources && 2 ≤ s.sources.size then s.enterAlarm
    else if s.sources.size = 0 then s.returnToNormal
    else s
  | .alarm => s
  | .releaseDelay => s
  | .releaseHeld => s
  | .released => s

/-- The zone key check is brought up to date, and a change is handed to the fire unit at once (R65, R109). -/
def State.reviewZoneKey (s : State) : State :=
  if s.zoneKeyNow = s.peers.zoneKey then s
  else ({ s with peers := { s.peers with zoneKey := s.zoneKeyNow } }).reviewInhibit

/-! ### SAFE -/

/-- LISTENING or ACTIVE goes to SAFE (R177, R41, R46, R84, R88); the count of APs is no longer kept (R176).
That JOIN_DONE is queued ahead of HEAT_RELEASE is the model's choice (log 43). -/
def State.enterSafe (s : State) : State :=
  (((({ s with svc := { s.svc with mode := .safe, apCount := 0 } }).zeroPair.emptyBalance).joinReleaseByOther
    false).heatRelease).thermalReview

/-- DUPLICATE_ID is set (R58, R167). -/
def State.setDuplicateId (s : State) : State :=
  let t := { s with svc := { s.svc with duplicateId := true } }
  if t.svc.mode = .listening ∨ t.svc.mode = .active then t.enterSafe else t

/-! ### The end of a step -/

/-- The container cooling level is brought up to date (R64). -/
def State.updateContainerLevel (s : State) : State :=
  { s with peers := { s.peers with containerLevel := s.containerLevelNow } }

/-- The chiller-role outputs follow the container cooling level in every mode other than LOADING (R97). -/
def State.driveChiller (s : State) : State :=
  let on := s.svc.straps.chiller && s.svc.mode != .loading
  { s with
    thermal :=
      { s.thermal with
        pump1 := on && (s.peers.containerLevel == 1 || s.peers.containerLevel == 3)
        pump2 := on && (s.peers.containerLevel == 2 || s.peers.containerLevel == 3)
        chillerRun := on && s.peers.containerLevel != 0 } }

/-- The close permit is judged (R153). -/
def State.judgePermit (s : State) : State := { s with grid := { s.grid with permit := s.permitNow } }

/-- What the signals of a step leave: forced-leave causes taken, the container cooling level, the chiller lines and the
permit up to date (log 10). -/
def State.settle (s : State) : State := s.reviewForced.updateContainerLevel.driveChiller.judgePermit

/-- The reset that an accepted RESTART ends in: the strap pins are read again, the input lines and the waiting commands
stay (R181, R182). -/
def State.restartReset (s : State) : State := State.resetWith s.lines s.pending

/-- The end of every command: the judgements, and the reset when the pending restart has become due (R181). -/
def State.finish (s : State) : Host.Outcome State Fault Refusal :=
  .next (if s.settle.svc.restart = .due then s.restartReset else s.settle)

end Sys2Proof.Machine
end

