-- ==== Sys2Proof/Machine/Claims.lean ====
section
/-! DEFINITION. The commands of the claim unit: JOIN_CLAIM_ARRIVAL, JOIN_DONE_ARRIVAL, HEAT_CLAIM_ARRIVAL,
HEAT_RELEASE_ARRIVAL (R69), HEAD_TIMER_EXPIRY (R78) and HOLD_TIMER_EXPIRY (R82); and the completion of the own claim
frames (R70, R71). -/

namespace Sys2Proof.Machine

open Sys2Proof

/-! ### Peers' claim frames -/

/-- A JOIN_CLAIM from a peer: appended at the tail if absent (R69); the own number's is ignored (R70). -/
def State.takeJoinClaim (s : State) (n : Nat) : State := if s.isPeer n then s.changeJoin (appendAbsent n) else s

/-- JOIN_CLAIM_ARRIVAL (R69). -/
def execJoinClaimArrival (sender : BitVec 5) (payload : List Byte) (s : State) : Host.Outcome State Fault Refusal :=
  (s.receiveKind payload 0 (fun t => t.takeJoinClaim sender.toNat)).finish

/-- A JOIN_DONE from a peer, with either result: removed (R69). -/
def State.takeJoinDone (s : State) (n : Nat) : State := if s.isPeer n then s.changeJoin (removeNumber n) else s

/-- JOIN_DONE_ARRIVAL (R69). -/
def execJoinDoneArrival (sender : BitVec 5) (payload : List Byte) (s : State) : Host.Outcome State Fault Refusal :=
  (s.receiveKind payload 1 (fun t => t.takeJoinDone sender.toNat)).finish

/-- A HEAT_CLAIM from a peer: appended at the tail if absent (R69). -/
def State.takeHeatClaim (s : State) (n : Nat) : State := if s.isPeer n then s.changeHeat (appendAbsent n) else s

/-- HEAT_CLAIM_ARRIVAL (R69). -/
def execHeatClaimArrival (sender : BitVec 5) (payload : List Byte) (s : State) : Host.Outcome State Fault Refusal :=
  (s.receiveKind payload 0 (fun t => t.takeHeatClaim sender.toNat)).finish

/-- A HEAT_RELEASE from a peer: removed (R69). -/
def State.takeHeatRelease (s : State) (n : Nat) : State := if s.isPeer n then s.changeHeat (removeNumber n) else s

/-- HEAT_RELEASE_ARRIVAL (R69). -/
def execHeatReleaseArrival (sender : BitVec 5) (payload : List Byte) (s : State) : Host.Outcome State Fault Refusal :=
  (s.receiveKind payload 0 (fun t => t.takeHeatRelease sender.toNat)).finish

/-! ### Own claim frames -/

/-- The own JOIN_CLAIM completes: the own number is appended, and the state is LISTED, or a cancelled claim is released at
once with FAILED (R70, R71). -/
def State.ownJoinClaimDone (s : State) : State :=
  let t := s.setJoinEntries (appendAbsent s.ownNumber s.claims.join.entries)
  match t.claims.join.own with
  | .claimQueued false => (t.setJoinOwn .listed).signalToken
  | .claimQueued true => t.queueJoinDone .failed
  | .notClaimed => t.signalToken
  | .listed => t.signalToken
  | .releaseQueued _ => t.signalToken

/-- The own JOIN_DONE completes: the own number is removed, and the state is NOT_CLAIMED, or an owed claim is queued at
once (R70, R71). -/
def State.ownJoinDoneDone (s : State) : State :=
  let t := s.setJoinEntries (removeNumber s.ownNumber s.claims.join.entries)
  match t.claims.join.own with
  | .releaseQueued false => (t.setJoinOwn .notClaimed).signalToken
  | .releaseQueued true => ((t.setJoinOwn (.claimQueued false)).enqueue joinClaimFrame).signalToken
  | .notClaimed => t.signalToken
  | .claimQueued _ => t.signalToken
  | .listed => t.signalToken

/-- The own HEAT_CLAIM completes (R70, R71). -/
def State.ownHeatClaimDone (s : State) : State :=
  let t := s.setHeatEntries (appendAbsent s.ownNumber s.claims.heat.entries)
  match t.claims.heat.own with
  | .claimQueued false => (t.setHeatOwn .listed).evalSlot
  | .claimQueued true => ((t.setHeatOwn (.releaseQueued false)).enqueue heatReleaseFrame).evalSlot
  | .notClaimed => t.evalSlot
  | .listed => t.evalSlot
  | .releaseQueued _ => t.evalSlot

/-- The own HEAT_RELEASE completes (R70, R71). -/
def State.ownHeatReleaseDone (s : State) : State :=
  let t := s.setHeatEntries (removeNumber s.ownNumber s.claims.heat.entries)
  match t.claims.heat.own with
  | .releaseQueued false => (t.setHeatOwn .notClaimed).evalSlot
  | .releaseQueued true => ((t.setHeatOwn (.claimQueued false)).enqueue heatClaimFrame).evalSlot
  | .notClaimed => t.evalSlot
  | .claimQueued _ => t.evalSlot
  | .listed => t.evalSlot

/-! ### Timers -/

/-- The head timer expires: a peer head is removed; the own head gives up while it is LISTED (R78). -/
def State.headExpires (s : State) : State :=
  match s.claims.headTimer, s.claims.join.entries.head? with
  | some _, some n =>
    let t := { s with claims := { s.claims with headTimer := none } }
    if n = t.ownNumber then (if t.claims.join.own = .listed then t.joinReleaseByOther true else t)
    else t.changeJoin (removeNumber n)
  | _, _ => s

/-- HEAD_TIMER_EXPIRY (R78). -/
def execHeadTimerExpiry (s : State) : Host.Outcome State Fault Refusal := s.headExpires.finish

/-- The hold timer has run for HEAT_HOLD: the hold time is served, and rotation follows if it is due (R82). -/
def State.holdExpires (s : State) : State :=
  match s.claims.hold with
  | .running _ => ({ s with claims := { s.claims with hold := .served } }).evalSlot
  | .stopped => s
  | .served => s

/-- HOLD_TIMER_EXPIRY (R82). -/
def execHoldTimerExpiry (s : State) : Host.Outcome State Fault Refusal := s.holdExpires.finish

end Sys2Proof.Machine
end

