-- ==== Sys2Proof/Machine/Connection.lean ====
section
/-! DEFINITION. The commands of the connection sequencer: AUX_INPUT_CHANGE, AUX_WINDOW_EXPIRY (R127),
PRECHARGE_TIMER_EXPIRY (R135), LEAVE_TIMER_EXPIRY (R143) and FAILURE_HOLD_EXPIRY (R130). -/

namespace Sys2Proof.Machine

open Sys2Proof

/-- The auxiliary contacts change: an open window is tested (R127); in LOADING none is open. -/
def State.auxChange (s : State) (posClosed negClosed : Bool) : State :=
  ({ s with lines := { s.lines with auxPos := posClosed, auxNeg := negClosed } }).testWindow

/-- AUX_INPUT_CHANGE (R127). -/
def execAuxInputChange (posClosed negClosed : Bool) (s : State) : Host.Outcome State Fault Refusal :=
  (s.auxChange posClosed negClosed).finish

/-- The window expires without its confirmation: it fails (R127). A window on both inputs fails too where each of them has shown
its position, but never both at one moment, which R127 leaves between success and failure: the model's choice (log 41). -/
def State.auxWindowExpires (s : State) : State :=
  match s.conn.window with
  | none => s
  | some w => s.windowFailure w

/-- AUX_WINDOW_EXPIRY (R127). -/
def execAuxWindowExpiry (s : State) : Host.Outcome State Fault Refusal := s.auxWindowExpires.finish

/-- The precharge timer expires in PRECHARGE (R135). -/
def State.prechargeExpires (s : State) : State :=
  if s.conn.state = .precharge ∧ s.conn.prechTimer.isSome = true then s.prechargeFailure else s

/-- PRECHARGE_TIMER_EXPIRY (R135). -/
def execPrechargeTimerExpiry (s : State) : Host.Outcome State Fault Refusal := s.prechargeExpires.finish

/-- The leave timer expires: the current wait ends with the current still flowing (R143). -/
def State.leaveExpires (s : State) : State :=
  if s.conn.state = .leaving ∧ s.conn.leaveTimer.isSome = true then s.leaveStep2 else s

/-- LEAVE_TIMER_EXPIRY (R143). -/
def execLeaveTimerExpiry (s : State) : Host.Outcome State Fault Refusal := s.leaveExpires.finish

/-- The failure hold timer expires: it no longer blocks a claim (R130). -/
def State.failureHoldExpires (s : State) : State := { s with conn := { s.conn with failHold := none } }

/-- FAILURE_HOLD_EXPIRY (R130). -/
def execFailureHoldExpiry (s : State) : Host.Outcome State Fault Refusal := s.failureHoldExpires.finish

end Sys2Proof.Machine
end

