-- ==== Sys2Proof/Machine/Link.lean ====
section
/-! DEFINITION. The commands of the link controller: CENSUS_CALL_ARRIVAL, CENSUS_WINDOW_COMPLETION (R171, R172),
LINK_IDLE_ATTEMPT_START, LOST_ARBITRATION (R165), ATTEMPT_BIT_ERROR (R166, R167), OWN_FRAME_COMPLETION (R168) and
RECEIVED_FRAME_DISCARD (R169). -/

namespace Sys2Proof.Machine

open Sys2Proof

/-! ### The census -/

/-- The answer to the census question JOINED (R146). -/
def joinedAnswer : ConnState → Bool
  | .precharge => true
  | .closing => true
  | .joined => true
  | .leaving => true
  | .opening => true
  | .welded => true
  | .openRack => false
  | .waitToken => false
  | .lockout => false
  | .outOfService => false

/-- The station's answer to a census question, as it stands (R171, R120, R146, R96); a question outside the table is
answered no. -/
def State.censusAnswer (s : State) (question zone : Byte) : Bool :=
  if question = questionZoneSource then zone.toNat == s.ownZone && s.sources.size != 0
  else if question = questionJoined then joinedAnswer s.conn.state
  else if question = questionHeating then s.thermal.state == .heating
  else question == questionPresent

/-- The answer is frozen at the arrival of a call, or at the completion of an own call with its purpose (R171). -/
def State.freezeAnswer (s : State) (question zone : Byte) (own : Option Purpose) : State :=
  { s with link := { s.link with census := some ⟨question, zone, s.censusAnswer question zone, own⟩ } }

/-- A CENSUS_CALL from a station number; one from 0 or 17 to 31 is discarded (R171). -/
def State.takeCensusCall (s : State) (n : Nat) (p : List Byte) : State :=
  if isStation n then s.freezeAnswer (p.getD 0 0) (p.getD 1 0) none else s

/-- CENSUS_CALL_ARRIVAL (R171). -/
def execCensusCallArrival (sender : BitVec 5) (payload : List Byte) (s : State) : Host.Outcome State Fault Refusal :=
  (s.receiveKind payload 2 (fun t => t.takeCensusCall sender.toNat payload)).finish

/-- Identical censuses: the same question and, for ZONE_SOURCE, the same zone (R172). -/
def identicalCensus (q z q' z' : Byte) : Bool := q == q' && (q != questionZoneSource || z == z')

/-- An own call in the queue, not on the line, that is identical to the completed census (R172). -/
def identicalCall (q z : Byte) (e : Entry) : Bool :=
  e.cls == .census && !e.onLine && identicalCensus (e.payload.getD 0 0) (e.payload.getD 1 0) q z

/-- The fire unit's use of a good ZONE_SOURCE window of the own zone (R112). -/
def State.zoneResult (s : State) (w : WindowRead) : State :=
  if s.fire.state = .preAlarm ∧ s.otherYes w = true then s.enterAlarm else s

/-- The join check is abandoned: JOIN_DONE FAILED is requested and the state is OPEN (R133). -/
def State.abandonJoin (s : State) : State := (s.leaveWaitToken .openRack).seqRelease .failed

/-- The join check's judgement of a good JOINED window (R133). -/
def State.checkResult (s : State) (c : ConfigSet) (w : WindowRead) : State :=
  if s.chain.dataLoss then s.abandonJoin
  else if s.chain.sense.busV < 500 then
    (if s.otherYes w then ({ s with conn := { s.conn with mismatch := true } }).abandonJoin else s.enterPrecharge)
  else if 10 * c.matchWindow < voltageGap s.chain.sense.stringV s.chain.sense.busV then
    ({ s with conn := { s.conn with mismatch := true } }).abandonJoin
  else s.enterPrecharge

/-- The sequencer takes a good JOINED window while its join check is pending (R132). -/
def State.joinedResult (s : State) (w : WindowRead) : State :=
  match s.svc.config, s.conn.check with
  | some c, .callPending _ => if s.conn.state = .waitToken then s.checkResult c w else s
  | _, _ => s

/-- The pending gateway census is settled with an answer (R180). -/
def State.settleGateway (s : State) (result : ReplyResult) (data : List Byte) : State :=
  ({ s with svc := { s.svc with gatewayCensus := none } }).enqueue (serviceReply 12 result data .plain)

/-- The gateway census takes a good identical window (R180). -/
def State.gatewayResult (s : State) (q z : Byte) (w : WindowRead) : State :=
  match s.svc.gatewayCensus with
  | some (q', z') => if identicalCensus q' z' q z then s.settleGateway .done [w.answer1, w.answer2] else s
  | none => s

/-- Identical own calls are removed from the queue; the fire unit's is reported to it (R172, R111). The sequencer and the
gateway census are settled by the same window. -/
def State.removeIdentical (s : State) (q z : Byte) : State :=
  let t := s.setQueue (s.link.queue.filter (fun e => !identicalCall q z e))
  if s.link.queue.any (fun e => identicalCall q z e && e.purpose == .fireCall) then
    { t with fire := { t.fire with census := .idle } }
  else t

/-- The completed call was the fire unit's own: its census state returns to IDLE (R111). -/
def State.ownCallGood (s : State) (own : Option Purpose) : State :=
  if own = some .fireCall then { s with fire := { s.fire with census := .idle } } else s

/-- A good window: handed to the fire unit and the sequencer, then identical own calls removed (R172), then the gateway's
pending census answered (R180). -/
def State.goodWindow (s : State) (a : CensusAnswer) (w : WindowRead) : State :=
  let s1 := s.ownCallGood a.own
  let s2 := if a.question = questionZoneSource ∧ a.zone.toNat = s.ownZone then s1.zoneResult w else s1
  let s3 := if a.question = questionJoined then s2.joinedResult w else s2
  (s3.removeIdentical a.question a.zone).gatewayResult a.question a.zone w

/-- A failed window of the own call: the fire unit queues its call again while it is in PRE_ALARM (R112), the sequencer
its own (R132), and the gateway census ends with REFUSED_STATE (R180). A peer's failed window does nothing. -/
def State.failedWindow (s : State) (a : CensusAnswer) : State :=
  match a.own with
  | some .fireCall =>
    if s.fire.state = .preAlarm then s.enqueue s.zoneCall else { s with fire := { s.fire with census := .idle } }
  | some .joinCheckCall => if s.conn.check = .none then s else s.startCheck
  | some .gatewayCall => s.settleGateway .refusedState []
  | some .plain => s
  | some .orphanCall => s
  | some .restartReply => s
  | none => s

/-- The census completes: each station that answered judges the window (R172). -/
def State.windowCompletes (s : State) (w : WindowRead) : State :=
  match s.link.census with
  | none => s
  | some a =>
    let t := { s with link := { s.link with census := none } }
    if windowGood w then t.goodWindow a w else t.failedWindow a

/-- CENSUS_WINDOW_COMPLETION (R172). -/
def execCensusWindowCompletion (w : WindowRead) (s : State) : Host.Outcome State Fault Refusal :=
  (s.windowCompletes w).finish

/-! ### Sending -/

/-- The head entry goes on the line, an ANNOUNCE with its payload formed afresh (R163, R165). -/
def State.startEntry (s : State) : List Entry → List Entry
  | [] => []
  | e :: q => { e with onLine := true, payload := if e.cls = .announce then s.announcePayload else e.payload } :: q

/-- The link is idle: with a non-empty queue and nothing of its own on the line, and outside a census window, an attempt
starts (R165, R171). -/
def State.attemptStart (s : State) (breakerClosed : Bool) : State :=
  let t := { s with lines := { s.lines with breakerClosed := breakerClosed } }
  if t.hears ∧ t.link.census = none then (t.setReception .none).setQueue (t.startEntry t.link.queue) else t

/-- LINK_IDLE_ATTEMPT_START (R165). -/
def execLinkIdleAttemptStart (breakerClosed : Bool) (s : State) : Host.Outcome State Fault Refusal :=
  (s.attemptStart breakerClosed).finish

/-- Arbitration is lost: the station stops driving and goes on receiving, so that the frame which won is the one in reception
(R165, log 38); the entry keeps its place (R165), and one ANNOUNCE at most waits (R54). -/
def State.arbitrationLost (s : State) : State :=
  if s.hears then s else (s.setQueue (oneAnnounce (mapOnLine Entry.offLine s.link.queue))).setReception .frame

/-- LOST_ARBITRATION (R165). -/
def execLostArbitration (s : State) : Host.Outcome State Fault Refusal := s.arbitrationLost.finish

/-- The entry whose attempt ended in a bit error: one more error, or dropped after its fourth attempt and reported
(R166). -/
def State.bitErrorEntry (s : State) (e : Entry) : State :=
  if e.errors < 3 then
    s.setQueue (oneAnnounce (mapOnLine (fun x => { x.offLine with errors := x.errors + 1 }) s.link.queue))
  else (s.setQueue (dropOnLine s.link.queue)).reportLoss e

/-- The header error count after a bit error in a byte of the frame; the third sets DUPLICATE_ID (R167). -/
def State.headerError (s : State) (atByte : Nat) : State :=
  if atByte ≤ 2 then
    (if s.link.headerErrors + 1 = 3 then ({ s with link := { s.link with headerErrors := 0 } }).setDuplicateId
    else { s with link := { s.link with headerErrors := s.link.headerErrors + 1 } })
  else { s with link := { s.link with headerErrors := 0 } }

/-- A bit error abandons the attempt (R166), then counts as a header error or clears the count (R167). Where a fourth attempt's
error is also the third header error, the manual gives no order: here the drop is reported first (R73) and SAFE follows
(log 35). The station then receives the rest of the traffic (R168): here it waits for the next idle, since a frame is taken up
from its first start bit alone (R169, log 38). -/
def State.bitError (s : State) (atByte : Nat) : State :=
  match s.onLine with
  | none => s
  | some e => ((s.bitErrorEntry e).setReception .untilIdle).headerError atByte

/-- ATTEMPT_BIT_ERROR (R166). -/
def execAttemptBitError (atByte : Nat) (s : State) : Host.Outcome State Fault Refusal := (s.bitError atByte).finish

/-- Self-reception of an own frame: the claim unit takes the own claim frames (R70), a CENSUS_CALL is answered by its
caller (R171), a pending restart is carried out at its reply (R181); an own ANNOUNCE and FIRE_NOTICE have no effect
(R54, R60, R121). -/
def State.selfReceive (s : State) (e : Entry) : State :=
  match e.cls with
  | .claim =>
    match e.kind.toNat with
    | 1 => s.ownJoinClaimDone
    | 2 => s.ownJoinDoneDone
    | 3 => s.ownHeatClaimDone
    | 4 => s.ownHeatReleaseDone
    | _ => s
  | .census => s.freezeAnswer (e.payload.getD 0 0) (e.payload.getD 1 0) (some e.purpose)
  | .service => if e.purpose = .restartReply then s.dueRestart else s
  | .fire => s
  | .announce => s

/-- An own frame completes: it leaves the queue, the header error count is 0, and it is processed as received (R168). -/
def State.frameCompletes (s : State) : State :=
  match s.onLine with
  | none => s
  | some e =>
    let t := (s.setQueue (dropOnLine s.link.queue)).setReception .none
    ({ t with link := { t.link with headerErrors := 0 } }).selfReceive e

/-- OWN_FRAME_COMPLETION (R168). -/
def execOwnFrameCompletion (s : State) : Host.Outcome State Fault Refusal := s.frameCompletes.finish

/-- A frame in reception is discarded: the receiver waits for the next idle, but for a frame that was complete and is
discarded by its class, kind or length (R169). -/
def State.discardFrame (s : State) (reason : DiscardReason) : State :=
  if s.hears then s.setReception (if reason = .classKindOrLength then .none else .untilIdle) else s

/-- RECEIVED_FRAME_DISCARD (R169). -/
def execReceivedFrameDiscard (reason : DiscardReason) (s : State) : Host.Outcome State Fault Refusal :=
  (s.discardFrame reason).finish

end Sys2Proof.Machine
end

