-- ==== Sys2Proof/Machine/Envelope.lean ====
section
/-! DEFINITION. The envelope unit's work at a scan completion: the protection trips (R16 to R18) and stages 1 to 6 of the
current envelope (R28 to R40). -/

namespace Sys2Proof.Machine

open Sys2Proof

/-! ### Protection trips -/

/-- A module's reading is out of limits (R16). -/
def outOfLimits (c : ConfigSet) (r : ModuleRecord) : Bool :=
  r.cells.any (fun v => c.vtripHi < v || v < c.vtripLo) || r.temps.any (fun t => t.any (fun x => c.ttrip ≤ x))

/-- A module's cell trip count after a completion (R16). -/
def nextCellTrip (c : ConfigSet) (good : Bool) (r : ModuleRecord) (count : Nat) : Nat :=
  if good then (if outOfLimits c r then min (count + 1) 3 else 0) else count

/-- The cell trip counts after a completion; counts above position M stay (R16, R20). -/
def nextCellTrips (c : ConfigSet) (goods : List Nat) (records : List ModuleRecord) (counts : List Nat) : List Nat :=
  counts.zipIdx.map (fun x =>
    if x.2 < c.modules then nextCellTrip c (goods.contains (x.2 + 1)) (records.getD x.2 ModuleRecord.reset) x.1 else x.1)

/-- The rack current exceeds a limit of the pair: 11 × Ed + 50 discharging, 11 × Ec + 50 charging, in 0.1 A (R17). -/
def overLimit (ec ed : Nat) (current : Int) : Bool :=
  11 * (ed : Int) + 50 < current || 11 * (ec : Int) + 50 < -current

/-- The overcurrent count after a completion (R17). -/
def nextOverCount (good0 exceeded : Bool) (count : Nat) : Nat :=
  if good0 then (if exceeded then min (count + 1) 30 else 0) else count

/-- Some count reached its limit at this update (R16, R17). -/
def reached (limit : Nat) (old new : List Nat) : Bool :=
  (old.zip new).any (fun x => x.1 != limit && x.2 == limit)

/-- The trips are judged against the previous pair (R16 to R18, R22). -/
def State.judgeTrips (s : State) (c : ConfigSet) (goods : List Nat) : State :=
  let trips := nextCellTrips c goods s.chain.modules s.env.cellTrips
  let count := nextOverCount (goods.contains 0) (overLimit s.env.ec s.env.ed s.chain.sense.current) s.env.overCount
  { s with
    env :=
      { s.env with
        cellTrips := trips
        overCount := count
        trip := s.env.trip || reached 3 s.env.cellTrips trips || reached 30 [s.env.overCount] [count] } }

/-- The cell trip condition or the overcurrent condition holds (R16, R17). -/
def Envelope.tripCondition (e : Envelope) : Bool := e.cellTrips.any (0 < ·) || 0 < e.overCount

/-! ### The six stages -/

/-- Stage 1 and a table row: the entry of the band of a temperature (R28). -/
def bandEntry (c : ConfigSet) (row : BandRow) (t : Int) : Nat :=
  if t < c.ta then row.a else if t < c.tb then row.b else if t < c.tc then row.c else row.d

/-- Stage 2: the lesser of the entries of bmin and bmax (R29, R31). -/
def baseOf (c : ConfigSet) (row : BandRow) (tmin tmax : Int) : Nat := min (bandEntry c row tmin) (bandEntry c row tmax)

/-- The table that the evaluation selects (R30). -/
def selectTable (c : ConfigSet) (degraded : Bool) : CurrentTable := if degraded then c.tableR else c.tableN

/-- Stage 3 for charging (R32). -/
def taperCharge (c : ConfigSet) (base vmax : Nat) : Nat :=
  if (vmax : Int) ≤ c.pPrime then base
  else if c.lPrime ≤ (vmax : Int) then 0
  else base * (c.lPrime - vmax).toNat / (c.lPrime - c.pPrime).toNat

/-- Stage 3 for discharging (R33). -/
def taperDischarge (c : ConfigSet) (base vmin : Nat) : Nat :=
  if c.vdsTap ≤ vmin then base
  else if vmin ≤ c.vdsLim then 0
  else base * (vmin - c.vdsLim) / (c.vdsTap - c.vdsLim)

/-- Stage 4 (R34). -/
def capCurrent (c : ConfigSet) (siteCap tapered : Nat) : Nat := min tapered (min c.irackMax siteCap)

/-- The forces that set both targets to 0 (R35, R36). -/
def State.forceZero (s : State) : Bool :=
  s.svc.mode != .active || fireAlarmed s.fire.state || s.peers.containerFire
    || s.chain.dataLoss || s.chain.tempLoss || s.env.trip

/-- Stage 5 (R35 to R37). -/
def State.target (s : State) (capped : Nat) : Nat :=
  if s.forceZero then 0 else if s.fire.state = .preAlarm then capped / 2 else capped

/-- Stage 6 (R39). -/
def rampTo (c : ConfigSet) (previous target : Nat) : Nat :=
  if previous < target then min target (previous + c.ramp) else target

/-- The charge target of an evaluation (stages 1 to 5). -/
def State.chargeTarget (s : State) (c : ConfigSet) : Nat :=
  s.target (capCurrent c s.svc.siteCap
    (taperCharge c (baseOf c (selectTable c s.thermal.degraded).charge s.chain.tmin s.chain.tmax) s.chain.vmax))

/-- The discharge target of an evaluation (stages 1 to 5). -/
def State.dischargeTarget (s : State) (c : ConfigSet) : Nat :=
  s.target (capCurrent c s.svc.siteCap
    (taperDischarge c (baseOf c (selectTable c s.thermal.degraded).discharge s.chain.tmin s.chain.tmax) s.chain.vmin))

/-- An evaluation: the new pair is written (R22, R40). -/
def State.evaluatePair (s : State) (c : ConfigSet) : State :=
  { s with
    env :=
      { s.env with
        ec := rampTo c s.env.ec (s.chargeTarget c)
        ed := rampTo c s.env.ed (s.dischargeTarget c) } }

end Sys2Proof.Machine
end

