-- ==== Sys2Proof/Machine/Requests.lean ====
section
/-! DEFINITION. The gateway requests: how a SERVICE frame is taken and judged (R170, R178), and the commands READ_STATUS
to RESTART and UNKNOWN_REQUEST (R179 to R181 and the owners' rules). -/

namespace Sys2Proof.Machine

open Sys2Proof

/-- A SERVICE_REPLY is queued (R178). -/
def State.reply (s : State) (kind : Byte) (result : ReplyResult) (data : List Byte) : State :=
  s.enqueue (serviceReply kind result data .plain)

/-- A SERVICE frame is taken as a request when it is heard outside LOADING, comes from the gateway and carries an address
of the station; any other is ignored (R170, R178). -/
def State.takeRequest (s : State) (sender : BitVec 5) (payload : List Byte) (act : List Byte → State → State) : State :=
  s.receive (fun t =>
    match payload with
    | [] => t
    | dest :: args => if sender = 0 ∧ t.addressed dest = true then act args t else t)

/-- The judgement's second and third check, length and mode, ahead of the owner's (R178). -/
def State.judgeRequest (s : State) (kind : Byte) (args : List Byte) (length : Nat) (modeOk : Mode → Bool)
    (act : State → State) : State :=
  if args.length ≠ length then s.reply kind .refusedValue []
  else if modeOk s.svc.mode then act s
  else s.reply kind .refusedState []

/-- Accepted in every mode but LOADING, in which no request is taken (R178). -/
def anyMode (_m : Mode) : Bool := true

/-- Accepted in ACTIVE (R178). -/
def activeMode (m : Mode) : Bool := m == .active

/-- Accepted in ACTIVE, SAFE and CONFIG_FAULT (R156, R178). -/
def holdMode (m : Mode) : Bool := m == .active || m == .safe || m == .configFault

/-- Accepted in ACTIVE and LISTENING (R178). -/
def censusMode (m : Mode) : Bool := m == .active || m == .listening

/-! ### Reading -/

/-- The data of a READ_STATUS reply (R179, R183). -/
def State.statusData (s : State) : List Byte :=
  [byteOfNat (modeCode s.svc.mode), byteOfNat (fireCode s.fire.state), byteOfNat (connCode s.conn.state)]
    ++ bytes2OfNat s.chain.record.number
    ++ [byteOfNat (outcomeCode s.chain.record.outcome), byteOfNat (s.chain.record.lastRead.getD 255),
      byteOfNat s.chain.record.notRead, byteOfNat s.chain.record.bad.length]
    ++ bytes2 s.conditionWord
    ++ [byteOfNat s.claims.join.entries.length, byteOfNat s.claims.heat.entries.length,
      byteOfNat s.balance.members.length]

/-- READ_STATUS judged (R178, R179). -/
def State.doReadStatus (s : State) (args : List Byte) : State :=
  s.judgeRequest 1 args 0 anyMode (fun t => t.reply 1 .done t.statusData)

/-- READ_STATUS (R179). -/
def execReadStatus (sender : BitVec 5) (payload : List Byte) (s : State) : Host.Outcome State Fault Refusal :=
  (s.takeRequest sender payload (fun args t => t.doReadStatus args)).finish

/-- The mask byte of a half: bit k is cell 8 × (half − 1) + k + 1 (R183). -/
def maskByte (mask : List Nat) (half : Nat) : Byte :=
  byteOfNat (natOfFlags ((List.range 8).map (fun k => mask.contains (8 * (half - 1) + k + 1))))

/-- The data of a READ_MODULE reply: age, mask byte, the eight cells of the half and four temperatures; cells above CELLS
read 0 and sensors above TSENS the invalid code (R179, R183). -/
def moduleData (r : ModuleRecord) (half : Nat) : List Byte :=
  [byteOfNat r.age, maskByte r.mask half]
    ++ (List.range 8).flatMap (fun k => bytes2OfNat (r.cells.getD (8 * (half - 1) + k) 0))
    ++ (List.range 4).map (fun k => byteOfTemp (r.temps.getD k none))

/-- The position and half are in range: 1 to M and half 1 or 2, half 2 only with more than 8 cells; 1 to 12 and either half
in CONFIG_FAULT (R179). -/
def State.moduleRangeOk (s : State) (position half : Nat) : Bool :=
  match s.svc.config with
  | some c => within position 1 c.modules && (half == 1 || (half == 2 && c.cells != 8))
  | none => within position 1 12 && (half == 1 || half == 2)
where
  /-- A value lies in a closed range. -/
  within (x lo hi : Nat) : Bool := lo ≤ x && x ≤ hi

/-- READ_MODULE judged (R178, R179). -/
def State.doReadModule (s : State) (args : List Byte) : State :=
  s.judgeRequest 2 args 2 anyMode (fun t =>
    if t.moduleRangeOk (args.getD 0 0).toNat (args.getD 1 0).toNat then
      t.reply 2 .done (moduleData (t.moduleRecord (args.getD 0 0).toNat) (args.getD 1 0).toNat)
    else t.reply 2 .refusedValue [])

/-- READ_MODULE (R179). -/
def execReadModule (sender : BitVec 5) (payload : List Byte) (s : State) : Host.Outcome State Fault Refusal :=
  (s.takeRequest sender payload (fun args t => t.doReadModule args)).finish

/-! ### Site cap and join hold -/

/-- The site cap becomes the carried value or IRACK_MAX, and a pair above it is lowered to it (R26, R27). -/
def State.setCap (s : State) (value : Nat) : State :=
  match s.svc.config with
  | none => s
  | some c =>
    let cap := min value c.irackMax
    { s with
      svc := { s.svc with siteCap := cap }
      env := { s.env with ec := min s.env.ec cap, ed := min s.env.ed cap } }

/-- SET_SITE_CAP judged (R26, R27, R178). -/
def State.doSetSiteCap (s : State) (args : List Byte) : State :=
  s.judgeRequest 3 args 2 activeMode (fun t =>
    (t.setCap (natOfBytes2 (args.getD 0 0) (args.getD 1 0))).reply 3 .done [])

/-- SET_SITE_CAP (R26). -/
def execSetSiteCap (sender : BitVec 5) (payload : List Byte) (s : State) : Host.Outcome State Fault Refusal :=
  (s.takeRequest sender payload (fun args t => t.doSetSiteCap args)).finish

/-- JOIN_HELD (R180). -/
def State.setJoinHeld (s : State) (b : Bool) : State := { s with svc := { s.svc with joinHeld := b } }

/-- HOLD_JOIN judged (R178, R180). -/
def State.doHoldJoin (s : State) (args : List Byte) : State :=
  s.judgeRequest 4 args 0 activeMode (fun t => (t.setJoinHeld true).reply 4 .done [])

/-- HOLD_JOIN (R180). -/
def execHoldJoin (sender : BitVec 5) (payload : List Byte) (s : State) : Host.Outcome State Fault Refusal :=
  (s.takeRequest sender payload (fun args t => t.doHoldJoin args)).finish

/-- RESUME_JOIN judged (R178, R180). -/
def State.doResumeJoin (s : State) (args : List Byte) : State :=
  s.judgeRequest 5 args 0 activeMode (fun t => (t.setJoinHeld false).reply 5 .done [])

/-- RESUME_JOIN (R180). -/
def execResumeJoin (sender : BitVec 5) (payload : List Byte) (s : State) : Host.Outcome State Fault Refusal :=
  (s.takeRequest sender payload (fun args t => t.doResumeJoin args)).finish

/-! ### Taking out, returning, clearing a lockout -/

/-- The effect of TAKE_OUT by the connection state (R142, R131). -/
def State.takeOutEffect (s : State) (c : ConfigSet) : State :=
  match s.conn.state with
  | .openRack => (s.setConn .outOfService).reply 6 .done []
  | .waitToken => ((s.leaveWaitToken .outOfService).seqRelease .failed).reply 6 .done []
  | .joined => (s.enterLeaving c).reply 6 .done []
  | .leaving => s.reply 6 .done []
  | .outOfService => s.reply 6 .done []
  | .precharge => s.reply 6 .refusedState []
  | .closing => s.reply 6 .refusedState []
  | .opening => s.reply 6 .refusedState []
  | .welded => s.reply 6 .refusedState []
  | .lockout => s.reply 6 .refusedState []

/-- TAKE_OUT judged (R142, R178). -/
def State.doTakeOut (s : State) (args : List Byte) : State :=
  s.judgeRequest 6 args 0 activeMode (fun t =>
    match t.svc.config with
    | some c => t.takeOutEffect c
    | none => t.reply 6 .refusedState [])

/-- TAKE_OUT (R142). -/
def execTakeOut (sender : BitVec 5) (payload : List Byte) (s : State) : Host.Outcome State Fault Refusal :=
  (s.takeRequest sender payload (fun args t => t.doTakeOut args)).finish

/-- RETURN judged (R144, R178). -/
def State.doReturn (s : State) (args : List Byte) : State :=
  s.judgeRequest 7 args 0 activeMode (fun t =>
    if t.conn.state = .outOfService then (t.setConn .openRack).reply 7 .done [] else t.reply 7 .refusedState [])

/-- RETURN (R144). -/
def execReturnRack (sender : BitVec 5) (payload : List Byte) (s : State) : Host.Outcome State Fault Refusal :=
  (s.takeRequest sender payload (fun args t => t.doReturn args)).finish

/-- CLEAR_LOCKOUT clears PROTECTION_TRIP (R19). -/
def State.clearsTrip (s : State) : Bool := s.env.trip && !s.env.tripCondition

/-- CLEAR_LOCKOUT changes the connection state: from LOCKOUT, and from WELDED with both contacts open (R139, R145). -/
def State.clearsConn (s : State) : Bool :=
  s.conn.state == .lockout || (s.conn.state == .welded && !s.lines.auxPos && !s.lines.auxNeg)

/-- The trip part of CLEAR_LOCKOUT (R19). -/
def State.clearTrip (s : State) : State :=
  if s.clearsTrip then { s with env := { s.env with trip := false } } else s

/-- The connection part of CLEAR_LOCKOUT (R139, R145). -/
def State.clearConn (s : State) : State :=
  if s.clearsConn then
    ({ s with conn := { s.conn with failCount := 0, prechFail := false, failHold := none } }).setConn .openRack
  else s

/-- CLEAR_LOCKOUT judged (R19, R139, R145, R178). -/
def State.doClearLockout (s : State) (args : List Byte) : State :=
  s.judgeRequest 8 args 0 activeMode (fun t =>
    (t.clearTrip.clearConn).reply 8 (if t.clearsTrip || t.clearsConn then .done else .refusedState) [])

/-- CLEAR_LOCKOUT (R19). -/
def execClearLockout (sender : BitVec 5) (payload : List Byte) (s : State) : Host.Outcome State Fault Refusal :=
  (s.takeRequest sender payload (fun args t => t.doClearLockout args)).finish

/-! ### Fire reset -/

/-- FIRE_RESET is acceptable: both loops out of ALARM and the rise flag clear (R122). -/
def State.fireResetOk (s : State) : Bool :=
  s.fire.loopS.state != .alarm && s.fire.loopH.state != .alarm && !s.env.riseFlag

/-- An accepted FIRE_RESET in the fire unit (R122). -/
def State.resetFire (s : State) : State :=
  let t := (({ s with env := { s.env with latch := false, riseFlag := false, ring := [] } }).setRepeat none)
  let u := ((t.setCountdown none).setFireLines false false false).setFire .normal
  (u.enqueue u.fireNotice).thermalReview

/-- FIRE_RESET by the fire unit and then the peer view's evaluation, with the reply of either (R61, R122). After an own ALARM with
no record in alarm, an accepted reset so clears the container fire flag, where R62 says that the flag is set once both events have
been taken (log 34). -/
def State.fireResetEffect (s : State) : State :=
  if s.fire.state = .normal then
    s.evaluateContainerFire.reply 9 (if s.evaluateContainerFire.peers.containerFire then .refusedState else .done) []
  else if s.fireResetOk then s.resetFire.evaluateContainerFire.reply 9 .done []
  else s.evaluateContainerFire.reply 9 .refusedState []

/-- FIRE_RESET judged (R61, R122, R178). -/
def State.doFireReset (s : State) (args : List Byte) : State :=
  s.judgeRequest 9 args 0 anyMode (fun t => t.fireResetEffect)

/-- FIRE_RESET (R122). -/
def execFireReset (sender : BitVec 5) (payload : List Byte) (s : State) : Host.Outcome State Fault Refusal :=
  (s.takeRequest sender payload (fun args t => t.doFireReset args)).finish

/-! ### Breaker hold -/

/-- The breaker-hold flag (R156). -/
def State.setBreakerHold (s : State) (b : Bool) : State := { s with grid := { s.grid with breakerHold := b } }

/-- BREAKER_HOLD judged (R156, R178). -/
def State.doBreakerHold (s : State) (args : List Byte) : State :=
  s.judgeRequest 10 args 0 holdMode (fun t => (t.setBreakerHold true).reply 10 .done [])

/-- BREAKER_HOLD (R156). -/
def execBreakerHold (sender : BitVec 5) (payload : List Byte) (s : State) : Host.Outcome State Fault Refusal :=
  (s.takeRequest sender payload (fun args t => t.doBreakerHold args)).finish

/-- BREAKER_RELEASE judged (R156, R178). -/
def State.doBreakerRelease (s : State) (args : List Byte) : State :=
  s.judgeRequest 11 args 0 holdMode (fun t => (t.setBreakerHold false).reply 11 .done [])

/-- BREAKER_RELEASE (R156). -/
def execBreakerRelease (sender : BitVec 5) (payload : List Byte) (s : State) : Host.Outcome State Fault Refusal :=
  (s.takeRequest sender payload (fun args t => t.doBreakerRelease args)).finish

/-! ### Gateway census and restart -/

/-- The question and zone of a CENSUS_REQUEST are in range (R180). -/
def censusValuesOk (question zone : Byte) : Bool :=
  if question = questionZoneSource then 1 ≤ zone.toNat && zone.toNat ≤ 4
  else (question = questionJoined || question = questionHeating || question = questionPresent) && zone == 0

/-- CENSUS_REQUEST judged: refused while one is pending, else the call is queued and the reply deferred (R178, R180). -/
def State.doCensusRequest (s : State) (args : List Byte) : State :=
  s.judgeRequest 12 args 2 censusMode (fun t =>
    if censusValuesOk (args.getD 0 0) (args.getD 1 0) then
      (if t.svc.gatewayCensus.isSome then t.reply 12 .refusedState []
      else
        ({ t with svc := { t.svc with gatewayCensus := some (args.getD 0 0, args.getD 1 0) } }).enqueue
          (censusCall (args.getD 0 0) (args.getD 1 0) .gatewayCall))
    else t.reply 12 .refusedValue [])

/-- CENSUS_REQUEST (R180). -/
def execCensusRequest (sender : BitVec 5) (payload : List Byte) (s : State) : Host.Outcome State Fault Refusal :=
  (s.takeRequest sender payload (fun args t => t.doCensusRequest args)).finish

/-- RESTART judged: accepted from the states of R181, with DONE queued; the first one pending ties the restart to its own
reply, a further one leaves that tie (R178, R181). -/
def State.doRestart (s : State) (args : List Byte) : State :=
  s.judgeRequest 13 args 0 anyMode (fun t =>
    if t.restartAllowed then
      (if t.svc.restart = .pending then t.reply 13 .done []
      else
        ({ t with svc := { t.svc with restart := .pending } }).enqueue (serviceReply 13 .done [] .restartReply))
    else t.reply 13 .refusedState [])

/-- RESTART (R181). -/
def execRestart (sender : BitVec 5) (payload : List Byte) (s : State) : Host.Outcome State Fault Refusal :=
  (s.takeRequest sender payload (fun args t => t.doRestart args)).finish

/-! ### Unknown kinds -/

/-- A request by its kind byte (R178, R183): SERVICE_REPLY is no request (R170), a listed kind is that request, every
other kind is answered UNKNOWN. -/
def State.doKind (s : State) (kind : Byte) (args : List Byte) : State :=
  match kind.toNat with
  | 1 => s.doReadStatus args
  | 2 => s.doReadModule args
  | 3 => s.doSetSiteCap args
  | 4 => s.doHoldJoin args
  | 5 => s.doResumeJoin args
  | 6 => s.doTakeOut args
  | 7 => s.doReturn args
  | 8 => s.doClearLockout args
  | 9 => s.doFireReset args
  | 10 => s.doBreakerHold args
  | 11 => s.doBreakerRelease args
  | 12 => s.doCensusRequest args
  | 13 => s.doRestart args
  | 128 => s
  | _ => s.reply kind .unknown []

/-- UNKNOWN_REQUEST (R178). A kind that is listed after all is judged as what it is. -/
def execUnknownRequest (sender : BitVec 5) (kind : Byte) (payload : List Byte) (s : State) :
    Host.Outcome State Fault Refusal :=
  (s.takeRequest sender payload (fun args t => t.doKind kind args)).finish

end Sys2Proof.Machine
end

