-- ==== Sys2Proof/Machine/Balance.lean ====
section
/-! DEFINITION. The balance unit's work at a scan completion: eligibility (R45) and the rebuild of the set (R47 to R49). -/

namespace Sys2Proof.Machine

open Sys2Proof

/-- Balancing is eligible on the inputs taken at this completion (R45). -/
def State.balanceEligible (s : State) (c : ConfigSet) (x : BalanceInputs) : Bool :=
  s.svc.mode == .active && s.fire.state == .normal && !s.peers.containerFire && s.thermal.level < 3
    && x.current.natAbs ≤ 10 * c.balCurrent && x.tmax < c.tc && !x.dataLoss

/-- The voltage of a cell (R7). -/
def State.cellVoltage (s : State) (m : Nat × Nat) : Nat := (s.moduleRecord m.1).cells.getD (m.2 - 1) 0

/-- A member keeps its place: its module read GOOD in this scan and V − Vmin ≥ BAL_WINDOW − 3 (R48). -/
def State.keeps (s : State) (c : ConfigSet) (m : Nat × Nat) : Bool :=
  (s.moduleRecord m.1).age == 0 && s.chain.vmin + c.balWindow ≤ s.cellVoltage m + 3

/-- A cell reaches the joining threshold (R49). -/
def State.joins (s : State) (c : ConfigSet) (m : Nat × Nat) : Bool :=
  (s.moduleRecord m.1).age == 0 && s.chain.vmin + c.balWindow ≤ s.cellVoltage m && c.balFloor ≤ s.cellVoltage m

/-- Every cell of positions 1 to M, by position and then index. -/
def allCells (c : ConfigSet) : List (Nat × Nat) :=
  (List.range c.modules).flatMap (fun p => (List.range c.cells).map (fun i => (p + 1, i + 1)))

/-- A candidate is put behind every candidate of at least its voltage (R49). -/
def insertByVoltage (volts : Nat × Nat → Nat) (m : Nat × Nat) : List (Nat × Nat) → List (Nat × Nat)
  | [] => [m]
  | x :: xs => if volts m ≤ volts x then x :: insertByVoltage volts m xs else m :: x :: xs

/-- The candidates in descending order of voltage, equal voltages by position and then index (R49). -/
def State.candidates (s : State) (c : ConfigSet) (kept : List (Nat × Nat)) : List (Nat × Nat) :=
  ((allCells c).filter (fun m => s.joins c m && !kept.contains m)).foldl
    (fun acc m => insertByVoltage s.cellVoltage m acc) []

/-- The fill step: a set of 8 is full, and a module holds 2 at most (R49). -/
def fillSet : List (Nat × Nat) → List (Nat × Nat) → List (Nat × Nat)
  | members, [] => members
  | members, m :: rest =>
    if members.length = 8 then members
    else if (members.filter (fun x => x.1 == m.1)).length = 2 then fillSet members rest
    else fillSet (members ++ [m]) rest

/-- Members in the one order that stands for the set: by position, then index (R43). -/
def canonicalSet (c : ConfigSet) (members : List (Nat × Nat)) : List (Nat × Nat) :=
  (allCells c).filter (fun m => members.contains m)

/-- The set after a rebuild (R47). -/
def State.rebuilt (s : State) (c : ConfigSet) (x : BalanceInputs) : List (Nat × Nat) :=
  if s.balanceEligible c x then
    let kept := s.balance.members.filter (s.keeps c)
    canonicalSet c (fillSet kept (s.candidates c kept))
  else []

/-- The rebuild at a scan completion, on the inputs taken at it (R45, R47). -/
def State.rebuildBalance (s : State) (c : ConfigSet) : State :=
  let x : BalanceInputs := ⟨s.chain.sense.current, s.chain.tmax, s.chain.dataLoss⟩
  ({ s with balance := { s.balance with taken := some x } }).setMembers (s.rebuilt c x)

end Sys2Proof.Machine
end

