-- ==== Sys2Proof/Machine/Thermal.lean ====
section
/-! DEFINITION. The thermal controller at a scan completion (R91 to R93, R98, R99), and the commands
CHILLER_FAULT_INPUT_CHANGE, HEAT_SOAK_EXPIRY and RECOVERY_EXPIRY. -/

namespace Sys2Proof.Machine

open Sys2Proof

/-- The own level that a completion gives: R91, without a fall while TEMP_LOSS is set. -/
def State.nextLevel (s : State) (c : ConfigSet) : Nat :=
  if s.chain.tempLoss then max s.thermal.level (coolingLevel c s.thermal.level s.chain.tmax)
  else coolingLevel c s.thermal.level s.chain.tmax

/-- Level 1 or more at a completion: demand ends with a release request, and the state is COOLING (R92, R93). -/
def State.completionCooling (s : State) (k : Nat) : State := (s.endDemand.setThermal .cooling).setLevel k

/-- Level 0 at a completion: demand begins, goes on with a repeated claim request, ends, or stays clear (R92 to R94). -/
def State.completionHeating (s : State) (c : ConfigSet) : State :=
  let t := s.setLevel 0
  if t.thermal.demand then
    (if t.demandEnds c 0 then t.endDemand.setThermal .idle else t.heatClaim)
  else if t.demandBegins c 0 then t.beginDemand
  else t.setThermal .idle

/-- Level and demand at a scan completion, in any state other than INHIBITED (R89, R91, R93). -/
def State.completionLevel (s : State) (c : ConfigSet) : State :=
  if s.thermal.state = .inhibited then s
  else if s.nextLevel c = 0 then s.completionHeating c
  else s.completionCooling (s.nextLevel c)

/-- The thermal controller's work at a scan completion: the inlet is taken, then level and demand, then the degraded-cooling
conditions in every state (R15, R89, R91, R93, R98, R99). -/
def State.thermalCompletion (s : State) (c : ConfigSet) : State :=
  ((s.takeInlet).completionLevel c).judgeSoak.judgeRecovery

/-- The chiller-fault input changes: an assertion sets COOLING_DEGRADED, and the recovery condition is judged again
(R98, R99). Outside the scanning modes only the line's level changes (R100, R175). -/
def State.chillerFaultChange (s : State) (asserted : Bool) : State :=
  let t := { s with lines := { s.lines with chillerFault := asserted } }
  if scanningMode t.svc.mode then (if asserted then t.setDegraded true else t).judgeRecovery else t

/-- CHILLER_FAULT_INPUT_CHANGE (R98, R99). -/
def execChillerFaultInputChange (asserted : Bool) (s : State) : Host.Outcome State Fault Refusal :=
  (s.chillerFaultChange asserted).finish

/-- The heat-soak timer expires and sets COOLING_DEGRADED (R98). -/
def State.heatSoakExpire (s : State) : State := if s.thermal.soakTimer.isSome then s.setDegraded true else s

/-- HEAT_SOAK_EXPIRY (R98). -/
def execHeatSoakExpiry (s : State) : Host.Outcome State Fault Refusal := s.heatSoakExpire.finish

/-- The recovery timer expires and clears COOLING_DEGRADED (R99). -/
def State.recoveryExpire (s : State) : State := if s.thermal.recoveryTimer.isSome then s.setDegraded false else s

/-- RECOVERY_EXPIRY (R99). -/
def execRecoveryExpiry (s : State) : Host.Outcome State Fault Refusal := s.recoveryExpire.finish

end Sys2Proof.Machine
end

