-- ==== Sys2Proof/Machine/Chain.lean ====
section
/-! DEFINITION. The chain controller: transactions, scans and their completion (R1 to R15), with what a completion hands
on to the other blocks, and the commands SCAN_INTERVAL_EXPIRY, CHAIN_REPLY_ARRIVAL and CHAIN_REPLY_WAIT_EXPIRY. -/

namespace Sys2Proof.Machine

open Sys2Proof

/-! ### Transactions and scans -/

/-- The result of a try (R2). -/
inductive TryResult where
  | badCheck | wrongPosition | good | noReply
deriving DecidableEq, Repr

/-- The outcome of a transaction (R3). -/
inductive TransactionOutcome where
  | good | checkFail | noReply | wrongPosition
deriving DecidableEq, Repr

/-- A reply fits its position: the four rack sense values from position 0, exactly CELLS voltages and TSENS temperature
readings from a module (R2). -/
def replyFits (c : ConfigSet) (r : ChainReply) : Bool :=
  match r.body with
  | .module cells temps => r.position != 0 && cells.length == c.cells && temps.length == c.tsens
  | .rackSense _ _ _ _ => r.position == 0
  | .other _ => false

/-- The class of a reply (R2). -/
def classifyReply (c : ConfigSet) (p : Nat) (r : ChainReply) : TryResult :=
  if !r.checkOk || !replyFits c r then .badCheck
  else if r.position != p then .wrongPosition
  else .good

/-- The tries that a transaction may have (R3). -/
def maxTries (c : ConfigSet) : Nat := if c.retriesOff then 1 else 3

/-- A transaction to position p begins: its balance command is read from the record, empty for position 0 (R1, R3). -/
def State.beginTransaction (s : State) (p : Nat) (good bad : List Nat) : State :=
  { s with
    chain :=
      { s.chain with scan := some ⟨p, 1, false, if p = 0 then [] else (s.moduleRecord p).mask, good, bad⟩ } }

/-- A scan starts with position 0 (R5). -/
def State.startScan (s : State) : State := s.beginTransaction 0 [] []

/-- A request on the module chain (R1). -/
structure ChainRequest where
  position : Nat
  command : List Nat
  check : Word16
deriving DecidableEq, Repr

/-- The request to a position with a balance command: its check code is computed over its other bytes (R1), whose layout is a
free value (log 13). -/
def chainRequestOf (position : Nat) (command : List Nat) : ChainRequest :=
  ⟨position, command, crc16 (Config.chainRequestBytes position command)⟩

/-- The request of the try that waits for its reply: the station's output on the module chain (R1). -/
def State.chainRequest (s : State) : Option ChainRequest := s.chain.scan.map (fun r => chainRequestOf r.position r.command)

/-- The record of a position is updated from a GOOD reply (R7, R8). -/
def State.storeReply (s : State) (p : Nat) (body : ReplyBody) : State :=
  match body with
  | .module cells temps =>
    { s with
      chain :=
        { s.chain with
          modules := s.chain.modules.modify (p - 1) (fun r =>
            { r with cells := cells.map storeCell, temps := temps.map storeTemp, age := 0 }) } }
  | .rackSense current stringV busV inlet =>
    { s with
      chain :=
        { s.chain with
          sense := ⟨storeCurrent current, storeVoltage stringV, storeVoltage busV, storeTemp inlet, 0⟩ } }
  | .other _ => s

/-! ### Scan completion: the chain controller's own state -/

/-- An age after a completion: 0 when the position was read GOOD, else one more, up to 255 (R9). -/
def nextAge (good : Bool) (age : Nat) : Nat := if good then age else min (age + 1) 255

/-- The ages of positions 0 to M after a completion (R9). -/
def Chain.aged (ch : Chain) (m : Nat) (goods : List Nat) : Chain :=
  { ch with
    sense := { ch.sense with age := nextAge (goods.contains 0) ch.sense.age }
    modules := ch.modules.zipIdx.map (fun x =>
      if x.2 < m then { x.1 with age := nextAge (goods.contains (x.2 + 1)) x.1.age } else x.1) }

/-- The scan record of a completion; `stop` is the position at which the scan terminated, if it did (R6). -/
def nextRecord (old : ScanRecord) (m : Nat) (stop : Option Nat) (bad : List Nat) : ScanRecord where
  number := (old.number + 1) % 65536
  outcome := match stop with
    | some _ => .terminated
    | none => if bad = [] then .complete else .completeWithBad
  lastRead := match stop with
    | some 0 => none
    | some (p + 1) => some p
    | none => some m
  notRead := match stop with
    | some p => m + 1 - p
    | none => 0
  bad := bad

/-- The aggregates of a completion (R13): with TEMP_LOSS set and some sensor valid, Tmin and Tmax are computed from the valid
ones; R106 speaks of a kept Tmax under TEMP_LOSS, which is so here with no valid sensor only (log 36). -/
def Chain.aggregated (ch : Chain) (m : Nat) : Chain :=
  let volts := (ch.eligible m).flatMap (·.cells)
  let temps := ch.validTemps m
  { ch with
    vmin := minOr ch.vmin volts
    vmax := maxOr ch.vmax volts
    tmin := minOr ch.tmin temps
    tmax := maxOr ch.tmax temps }

/-- The flags and the stale-data condition of a completion (R10 to R12, R14). -/
def Chain.flagged (ch : Chain) (c : ConfigSet) (terminated : Bool) : Chain :=
  { ch with
    dataLoss := ch.dataLossNow c.modules
    tempLoss := ch.tempLossNow c.modules c.tsens
    chainBreak := terminated
    staleLeave := ch.staleNow c.modules }

/-- The chain controller's own state at a completion, in the order of R15; no scan is in flight after it. -/
def Chain.completed (ch : Chain) (c : ConfigSet) (stop : Option Nat) (goods bad : List Nat) : Chain :=
  let aged := ch.aged c.modules goods
  let recorded := { aged with record := nextRecord ch.record c.modules stop bad, scan := none }
  (recorded.aggregated c.modules).flagged c stop.isSome

/-! ### Scan completion: the connection sequencer -/

/-- The claim conditions other than the voltage condition (R129). -/
def State.claimConditions (s : State) : Bool :=
  s.svc.mode == .active && s.fire.state == .normal && !s.peers.containerFire && !s.svc.joinHeld
    && !s.env.trip && !s.chain.dataLoss && !s.fire.serviceKey && s.conn.failHold.isNone
    && s.claims.join.own == .notClaimed

/-- The voltage condition (R129). -/
def State.voltageCondition (s : State) (c : ConfigSet) : Bool :=
  s.chain.sense.busV < 500 || voltageGap s.chain.sense.stringV s.chain.sense.busV ≤ 10 * c.matchWindow

/-- VOLTAGE_MISMATCH. -/
def State.setMismatch (s : State) (b : Bool) : State := { s with conn := { s.conn with mismatch := b } }

/-- The claim conditions are judged in OPEN with proving complete (R129). WAIT_TOKEN is entered ahead of the claim request, so
that a restart which is pending is cancelled before the JOIN_CLAIM can displace its reply from a full queue: the model's choice
(log 40). -/
def State.judgeClaim (s : State) (c : ConfigSet) : State :=
  if s.conn.proving = .complete ∧ s.claimConditions = true then
    (if s.voltageCondition c then ((s.setMismatch false).setConn .waitToken).joinClaim else s.setMismatch true)
  else s

/-- The precharge match (R135). -/
def State.prechargeMatch (s : State) (c : ConfigSet) : Bool :=
  voltageGap s.chain.sense.stringV s.chain.sense.busV ≤ 10 * c.prechDone

/-- What a completion does to the sequencer, by its state: claims (R129), the precharge match (R135), the leave's
current test (R143). -/
def State.sequencerCompletion (s : State) (c : ConfigSet) (good0 : Bool) : State :=
  match s.conn.state with
  | .openRack => s.judgeClaim c
  | .precharge => if s.conn.window = none ∧ good0 = true ∧ s.prechargeMatch c = true then s.enterClosing else s
  | .leaving => if s.conn.leaveTimer.isSome ∧ good0 = true ∧ s.leaveCurrentMet c = true then s.leaveStep2 else s
  | .waitToken => s
  | .closing => s
  | .joined => s
  | .opening => s
  | .welded => s
  | .lockout => s
  | .outOfService => s

/-! ### The whole completion -/

/-- A scan that is owed starts at the completion of the running one (R4). -/
def State.startOwed (s : State) : State :=
  if s.chain.owed then ({ s with chain := { s.chain with owed := false } }).startScan else s

/-- A scan completes: the chain controller's own state (R15), then the trips and the envelope (R22), the balance set
(R47), the thermal controller (R91, R93), the forced-leave causes (R140) and the sequencer's tests, then an owed scan. -/
def State.completeScan (s : State) (c : ConfigSet) (stop : Option Nat) (goods bad : List Nat) : State :=
  let t := { s with chain := s.chain.completed c stop goods bad }
  let u := (((t.judgeTrips c goods).evaluatePair c).rebuildBalance c).thermalCompletion c
  (u.reviewForced.sequencerCompletion c (goods.contains 0)).startOwed

/-- The scan goes on behind position p, or completes after position M (R5). -/
def State.continueScan (s : State) (c : ConfigSet) (p : Nat) (goods bad : List Nat) : State :=
  if p < c.modules then s.beginTransaction (p + 1) goods bad else s.completeScan c none goods bad

/-- A transaction to the position of `r` ends (R3, R5). -/
def State.endTransaction (s : State) (c : ConfigSet) (r : ScanRun) (body : ReplyBody) : TransactionOutcome → State
  | .good => (s.storeReply r.position body).continueScan c r.position (r.good ++ [r.position]) r.bad
  | .checkFail => s.continueScan c r.position r.good (r.bad ++ [r.position])
  | .noReply => s.completeScan c (some r.position) r.good r.bad
  | .wrongPosition => s.completeScan c (some r.position) r.good r.bad

/-- A try ends without a good or wrong-position result: the next try, or the transaction's outcome (R3). -/
def State.endTry (s : State) (c : ConfigSet) (r : ScanRun) (replied : Bool) : State :=
  if r.tryNo < maxTries c then
    { s with chain := { s.chain with scan := some { r with tryNo := r.tryNo + 1, replied := replied } } }
  else s.endTransaction c r (.other 0) (if replied then .checkFail else .noReply)

/-- A try ends with a result (R3). -/
def State.tryResult (s : State) (c : ConfigSet) (r : ScanRun) (body : ReplyBody) : TryResult → State
  | .good => s.endTransaction c r body .good
  | .wrongPosition => s.endTransaction c r body .wrongPosition
  | .badCheck => s.endTry c r true
  | .noReply => s.endTry c r r.replied

/-! ### Commands -/

/-- The scan interval expires: a scan starts, or one becomes owed (R4). -/
def State.scanInterval (s : State) : State :=
  if s.chain.scanTimer.isSome then
    (if s.chain.scan.isSome then { s with chain := { s.chain with owed := true } } else s.startScan)
  else s

/-- SCAN_INTERVAL_EXPIRY (R4). -/
def execScanIntervalExpiry (s : State) : Host.Outcome State Fault Refusal := s.scanInterval.finish

/-- A complete reply arrives: outside a transaction it is discarded (R1, R4), else it ends the try (R2). -/
def State.replyArrives (s : State) (reply : ChainReply) : State :=
  match s.svc.config, s.chain.scan with
  | some c, some r => s.tryResult c r reply.body (classifyReply c r.position reply)
  | _, _ => s

/-- CHAIN_REPLY_ARRIVAL (R2). -/
def execChainReplyArrival (reply : ChainReply) (s : State) : Host.Outcome State Fault Refusal :=
  (s.replyArrives reply).finish

/-- The reply wait expires with no complete reply (R1). -/
def State.replyWaitExpires (s : State) : State :=
  match s.svc.config, s.chain.scan with
  | some c, some r => s.tryResult c r (.other 0) .noReply
  | _, _ => s

/-- CHAIN_REPLY_WAIT_EXPIRY (R1). -/
def execChainReplyWaitExpiry (s : State) : Host.Outcome State Fault Refusal := s.replyWaitExpires.finish

end Sys2Proof.Machine
end

