-- ==== Sys2Proof/Machine/Fire.lean ====
section
/-! DEFINITION. The commands of the fire unit: LOOP_SAMPLE, RUNAWAY_SAMPLE, RELEASE_COUNTDOWN_EXPIRY,
CENSUS_REPEAT_EXPIRY, ABORT_INPUT_CHANGE and MAINTENANCE_KEY_CHANGE. -/

namespace Sys2Proof.Machine

open Sys2Proof

/-- A loop record after a sample of a class (R104). -/
def LoopRecord.sampled (r : LoopRecord) (cls : LoopClass) : LoopRecord :=
  if cls = r.state then { r with pendingClass := none, count := 0 }
  else if r.pendingClass = some cls then
    (if r.count + 1 = 3 then ⟨cls, none, 0⟩ else { r with count := r.count + 1 })
  else { r with pendingClass := some cls, count := 1 }

/-- A loop in trouble: OPEN or SHORT (R105). -/
def LoopRecord.trouble (r : LoopRecord) : Bool := r.state == .openLoop || r.state == .short

/-- Both loop records after the samples of one expiry; LOOP_TROUBLE is written when a loop state changes (R103 to
R105). -/
def FireUnit.sampled (f : FireUnit) (clsS clsH : LoopClass) : FireUnit :=
  let rs := f.loopS.sampled clsS
  let rh := f.loopH.sampled clsH
  { f with
    loopS := rs
    loopH := rh
    loopTrouble := if rs.state ≠ f.loopS.state ∨ rh.state ≠ f.loopH.state then rs.trouble || rh.trouble else f.loopTrouble }

/-- The loop sampling timer expires: both loops are sampled, then the fire state is judged on all the changes together
(R103, R108). -/
def State.sampleLoops (s : State) (currentS currentH : Nat) : State :=
  if s.fire.loopTimer.isSome then
    ({ s with fire := s.fire.sampled (loopClass currentS) (loopClass currentH) }).judgeSources s.sources
  else s

/-- LOOP_SAMPLE (R103). -/
def execLoopSample (currentS currentH : Nat) (s : State) : Host.Outcome State Fault Refusal :=
  (s.sampleLoops currentS currentH).finish

/-- The ring with a new newest sample; of ten the oldest goes (R106). -/
def pushSample (ring : List Int) (t : Int) : List Int := (if ring.length < 10 then ring else ring.drop 1) ++ [t]

/-- The rise test: the newest sample stands RUNAWAY_RISE or more above the lowest (R107). -/
def riseTest (rise : Int) (ring : List Int) : Bool :=
  match ring.getLast? with
  | none => false
  | some newest => rise ≤ newest - minOr newest ring

/-- The runaway sample timer expires: unless DATA_LOSS is set, Tmax joins the ring and the rise test is judged; the
first judgement that holds sets the latch (R106, R107). -/
def State.sampleRunaway (s : State) : State :=
  match s.svc.config with
  | none => s
  | some c =>
    if s.env.runawayTimer.isSome ∧ s.chain.dataLoss = false then
      let ring := pushSample s.env.ring s.chain.tmax
      let rise := riseTest c.runawayRise ring
      ({ s with env := { s.env with ring := ring, riseFlag := rise, latch := s.env.latch || rise } }).judgeSources
        s.sources
    else s

/-- RUNAWAY_SAMPLE (R106). -/
def execRunawaySample (s : State) : Host.Outcome State Fault Refusal := s.sampleRunaway.finish

/-- The countdown expires in RELEASE_DELAY (R117). -/
def State.countdownExpires (s : State) : State :=
  if s.fire.state = .releaseDelay ∧ s.fire.countdown.isSome = true then s.enterReleased else s

/-- RELEASE_COUNTDOWN_EXPIRY (R117). -/
def execReleaseCountdownExpiry (s : State) : Host.Outcome State Fault Refusal := s.countdownExpires.finish

/-- The repeat timer expires in PRE_ALARM: it starts again and a call is queued (R111). -/
def State.repeatExpires (s : State) : State :=
  if s.fire.state = .preAlarm ∧ s.fire.repeatTimer.isSome = true then (s.setRepeat (some 2000)).queueCall else s

/-- CENSUS_REPEAT_EXPIRY (R111). -/
def execCensusRepeatExpiry (s : State) : Host.Outcome State Fault Refusal := s.repeatExpires.finish

/-- The abort input changes: it acts on the release countdown alone (R109, R116). -/
def State.abortChange (s : State) (asserted : Bool) : State :=
  let t := { s with lines := { s.lines with abort := asserted } }
  match t.fire.state with
  | .releaseDelay => if asserted then (t.setFire .releaseHeld).setCountdown none else t
  | .releaseHeld => if asserted then t else t.enterReleaseDelay
  | .normal => t
  | .preAlarm => t
  | .alarm => t
  | .released => t

/-- ABORT_INPUT_CHANGE (R116). -/
def execAbortInputChange (asserted : Bool) (s : State) : Host.Outcome State Fault Refusal :=
  (s.abortChange asserted).finish

/-- The maintenance key changes: SERVICE_KEY follows and the inhibit is judged again (R109, R116); its forced leave is
taken at the end of the step (R140). In LOADING only the line's level changes (R175). -/
def State.keyChange (s : State) (asserted : Bool) : State :=
  let t := { s with lines := { s.lines with key := asserted } }
  if t.svc.mode = .loading then t
  else ({ t with fire := { t.fire with serviceKey := asserted } }).reviewInhibit

/-- MAINTENANCE_KEY_CHANGE (R109). -/
def execMaintenanceKeyChange (asserted : Bool) (s : State) : Host.Outcome State Fault Refusal :=
  (s.keyChange asserted).finish

end Sys2Proof.Machine
end

