-- ==== Sys2Proof/Machine/Grid.lean ====
section
/-! DEFINITION. The commands of the grid unit: GRID_HEALTHY_CHANGE and RECONNECT_EXPIRY (R149 to R152). -/

namespace Sys2Proof.Machine

open Sys2Proof

/-- Another grid state and reconnect timer. -/
def State.setGrid (s : State) (st : GridState) (t : Timer) : State :=
  { s with grid := { s.grid with state := st, reconnect := t } }

/-- Grid-healthy asserted (R150): GRID_DOWN becomes GRID_RETURNING with the full delay. -/
def State.gridAsserted (s : State) (c : ConfigSet) : State :=
  match s.grid.state with
  | .down => s.setGrid .returning (some (reconnectDelayMs c))
  | .returning => s
  | .up => s

/-- Grid-healthy released (R150): GRID_DOWN; on leaving GRID_UP, L becomes HEAT_LIMIT_ISLAND (R152). -/
def State.gridReleased (s : State) (c : ConfigSet) : State :=
  match s.grid.state with
  | .down => s
  | .returning => s.setGrid .down none
  | .up => (s.setGrid .down none).setLimit c.heatLimitIsland

/-- The grid-healthy input changes: taken in LISTENING, ACTIVE and SAFE (R150, R158). -/
def State.gridChange (s : State) (asserted : Bool) : State :=
  let t := { s with lines := { s.lines with gridHealthy := asserted } }
  match t.svc.config with
  | none => t
  | some c =>
    if scanningMode t.svc.mode then (if asserted then t.gridAsserted c else t.gridReleased c) else t

/-- GRID_HEALTHY_CHANGE (R150). -/
def execGridHealthyChange (asserted : Bool) (s : State) : Host.Outcome State Fault Refusal :=
  (s.gridChange asserted).finish

/-- The reconnect timer expires: GRID_RETURNING becomes GRID_UP, and L becomes HEAT_LIMIT_GRID (R150, R152). -/
def State.reconnectExpires (s : State) : State :=
  match s.svc.config with
  | none => s
  | some c =>
    if s.grid.state = .returning ∧ s.grid.reconnect.isSome = true then (s.setGrid .up none).setLimit c.heatLimitGrid
    else s

/-- RECONNECT_EXPIRY (R150). -/
def execReconnectExpiry (s : State) : Host.Outcome State Fault Refusal := s.reconnectExpires.finish

end Sys2Proof.Machine
end

