-- ==== Sys2Proof/Machine/Image.lean ====
section
/-! DEFINITION. The configuration image (11.6): its fields, its checks (R175, R23, R50, R101, R124) and the corrections
made in place of refusal (R24, R25, R80). -/

namespace Sys2Proof.Machine

open Sys2Proof

/-- The unsigned byte at an offset of the image. -/
def imgU8 (b : List Byte) (off : Nat) : Nat := (b.getD off 0).toNat

/-- The signed byte at an offset. -/
def imgS8 (b : List Byte) (off : Nat) : Int := (b.getD off 0).toInt

/-- The unsigned 16-bit field at an offset, high byte first. -/
def imgU16 (b : List Byte) (off : Nat) : Nat := natOfBytes2 (b.getD off 0) (b.getD (off + 1) 0)

/-- The signed 16-bit field at an offset, high byte first, two's complement. -/
def imgS16 (b : List Byte) (off : Nat) : Int := (BitVec.ofNat 16 (imgU16 b off)).toInt

/-- Four table entries from an offset. -/
def imgRow (b : List Byte) (off : Nat) : BandRow :=
  ⟨imgU16 b off, imgU16 b (off + 2), imgU16 b (off + 4), imgU16 b (off + 6)⟩

/-- A current table from an offset: charge A to D, then discharge A to D. -/
def imgTable (b : List Byte) (off : Nat) : CurrentTable := ⟨imgRow b off, imgRow b (off + 8)⟩

/-- The image's fields as written, before any correction; `chTrim`, `tableR` and `heatLimitIsland` are the raw fields,
and L′ and P′ are not yet formed. -/
def imageFields (b : List Byte) : ConfigSet where
  modules := imgU8 b 0
  cells := imgU8 b 1
  tsens := imgU8 b 2
  vchLim := imgU16 b 3
  vchTap := imgU16 b 5
  chTrim := imgS16 b 7
  vdsLim := imgU16 b 9
  vdsTap := imgU16 b 11
  ta := imgS8 b 13
  tb := imgS8 b 14
  tc := imgS8 b 15
  tableN := imgTable b 16
  tableR := imgTable b 32
  irackMax := imgU16 b 48
  ramp := imgU8 b 50
  vtripHi := imgU16 b 51
  vtripLo := imgU16 b 53
  ttrip := imgU8 b 55
  thOn := imgS8 b 56
  thOff := imgS8 b 57
  tc1 := imgU8 b 58
  tc2 := imgU8 b 59
  tc3 := imgU8 b 60
  inletLim := imgU8 b 61
  heatLimitGrid := imgU8 b 62
  heatLimitIsland := imgU8 b 63
  heatHold := imgU8 b 64
  balWindow := imgU8 b 65
  balFloor := imgU16 b 66
  balCurrent := imgU8 b 68
  matchWindow := imgU8 b 69
  prechDone := imgU8 b 70
  prechMax := imgU8 b 71
  leaveCurrent := imgU8 b 72
  reconnect := imgU8 b 73
  releaseDelay := imgU8 b 74
  runawayRise := imgU8 b 75
  ap := imgU8 b 76
  retriesOff := (b.getD 77 0).getLsbD 0
  lPrime := 0
  pPrime := 0

/-- A value lies in a closed range. -/
def within {α : Type} [LE α] [DecidableLE α] (lo hi x : α) : Bool := lo ≤ x && x ≤ hi

/-- The four entries of a table row are 0 to 500 A (2.2). -/
def rowOk (r : BandRow) : Bool := r.a ≤ 500 && r.b ≤ 500 && r.c ≤ 500 && r.d ≤ 500

/-- The field checks of the image table, all of them but the flags byte (11.6, R23, R50, R101, R124). -/
def fieldsOk (f : ConfigSet) : Bool :=
  within 1 12 f.modules && within 8 16 f.cells && within 2 4 f.tsens
    && within 3000 4400 f.vchLim && within 2990 (f.vchLim - 10) f.vchTap && within (-255) 255 f.chTrim
    && within 2000 3400 f.vdsLim && within (f.vdsLim + 10) 3600 f.vdsTap
    && within (-40) 125 f.ta && within (-40) 125 f.tb && within (-40) 125 f.tc && f.ta < f.tb && f.tb < f.tc
    && rowOk f.tableN.charge && rowOk f.tableN.discharge && rowOk f.tableR.charge && rowOk f.tableR.discharge
    && within 1 500 f.irackMax && within 1 100 f.ramp
    && within (f.vchLim + 1) 4500 f.vtripHi && within 1500 (f.vdsLim - 1) f.vtripLo && within 40 90 f.ttrip
    && within (-40) 30 f.thOn && within (-40) 30 f.thOff && f.thOn < f.thOff
    && within 15 60 f.tc1 && within 15 60 f.tc2 && within 15 60 f.tc3 && f.tc1 < f.tc2 && f.tc2 < f.tc3
    && within 10 50 f.inletLim
    && f.heatLimitGrid ≤ 16 && f.heatLimitIsland ≤ 16 && within 1 60 f.heatHold
    && within 5 250 f.balWindow && within 2000 4400 f.balFloor && f.balCurrent ≤ 20
    && within 1 20 f.matchWindow && within 1 10 f.prechDone && within 1 20 f.prechMax && within 1 50 f.leaveCurrent
    && f.releaseDelay ≤ 60 && within 5 30 f.runawayRise && within 2 20 f.ap

/-- A TABLE_R row lowered to the TABLE_N row, value by value (R25). -/
def clampRow (n r : BandRow) : BandRow := ⟨min r.a n.a, min r.b n.b, min r.c n.c, min r.d n.d⟩

/-- TABLE_R lowered to TABLE_N (R25). -/
def clampTable (n r : CurrentTable) : CurrentTable := ⟨clampRow n.charge r.charge, clampRow n.discharge r.discharge⟩

/-- The effective trim: CH_TRIM clamped to the interval from 3000 − VCH_LIM to 4400 − VCH_LIM (R24). -/
def effectiveTrim (vchLim : Nat) (trim : Int) : Int := clampInt (3000 - vchLim) (4400 - vchLim) trim

/-- The configuration set of an accepted image: the three corrections and stage 0 (R24, R25, R80, R175). -/
def correctedSet (f : ConfigSet) : ConfigSet :=
  let trim := effectiveTrim f.vchLim f.chTrim
  { f with
    chTrim := trim
    tableR := clampTable f.tableN f.tableR
    heatLimitIsland := min f.heatLimitIsland f.heatLimitGrid
    lPrime := f.vchLim + trim
    pPrime := f.vchTap + trim }

/-- The sum of the field bytes modulo 65536 (R175). -/
def imageSum (b : List Byte) : Nat := ((b.take 78).map (·.toNat)).sum % 65536

/-- What the read of the configuration memory leads to (R175). The bytes are those that the memory acknowledged: fewer
than 80 mean that it failed to acknowledge. None is a refusal. -/
def loadImage (b : List Byte) : Option ConfigSet :=
  if b.length < 80 then none
  else if imgU16 b 78 ≠ imageSum b then none
  else if fieldsOk (imageFields b) && imgU8 b 77 ≤ 1 then some (correctedSet (imageFields b))
  else none

end Sys2Proof.Machine
end

