-- ==== Sys2Proof/Machine/Peers.lean ====
section
/-! DEFINITION. The peer view's commands: AP_EXPIRY (R53 to R59, R73, R76, R132, R164, R176), ANNOUNCE_ARRIVAL (R56,
R58, R60) and FIRE_NOTICE_ARRIVAL (R57, R60, R111, R113, R118). -/

namespace Sys2Proof.Machine

open Sys2Proof

/-! ### The peer table -/

/-- The record of a station number, if there is one (R55). -/
def PeerView.record (v : PeerView) (n : Nat) : Option PeerRecord := v.table.find? (fun r => r.number == n)

/-- A record put in its place: it replaces the one of its number, or joins in ascending order (R55). -/
def putRecord (r : PeerRecord) : List PeerRecord → List PeerRecord
  | [] => [r]
  | x :: xs =>
    if x.number = r.number then r :: xs
    else if r.number < x.number then r :: x :: xs
    else x :: putRecord r xs

/-- The peer table changed. -/
def State.setTable (s : State) (table : List PeerRecord) : State := { s with peers := { s.peers with table := table } }

/-- The record that an ANNOUNCE leaves (R56, R183): cooling level in bits 5 and 4 of payload byte 4, the key and claim
flags in the flags byte. The bits without a meaning are ignored (log 42). -/
def announcedRecord (n : Nat) (p : List Byte) : PeerRecord where
  number := n
  zone := zoneOfByte (p.getD 4 0)
  fire := fireOfByte (p.getD 2 0)
  key := (p.getD 5 0).getLsbD 2
  level := some ((p.getD 3 0).toNat / 16 % 4)
  joinFlag := some ((p.getD 5 0).getLsbD 0)
  heatFlag := some ((p.getD 5 0).getLsbD 1)
  age := 0
  presence := .present

/-- The record that a FIRE_NOTICE leaves: zone, fire state and key flag, on the old record or on a new one (R57, R183);
the bits without a meaning are ignored (log 42). -/
def noticedRecord (old : Option PeerRecord) (n : Nat) (p : List Byte) : PeerRecord :=
  let base := old.getD ⟨n, 0, .normal, false, none, none, none, 0, .present⟩
  { base with
    zone := zoneOfByte (p.getD 0 0)
    fire := fireOfByte (p.getD 1 0)
    key := (p.getD 2 0).getLsbD 3 }

/-! ### ANNOUNCE_ARRIVAL -/

/-- Repair of a list against an announced claim flag (R75). -/
def repairBy (flag : Bool) (n : Nat) (l : List Nat) : List Nat := if flag then appendAbsent n l else removeNumber n l

/-- In PRE_ALARM the zone peer alarm condition leads to ALARM (R113). -/
def State.confirmByPeer (s : State) : State :=
  if s.fire.state = .preAlarm ∧ s.zonePeerAlarm = true then s.enterAlarm else s

/-- A received fire state of ALARM or later sets the container fire flag (R60). -/
def State.fireReported (s : State) (f : FireState) : State := if fireAlarmed f then s.setContainerFire else s

/-- An ANNOUNCE of 24 bytes from a sender: the own number raises DUPLICATE_ID (R58), a peer's is recorded and its claim
flags repaired against (R56, R75); then the zone key check, the container fire flag and the fire unit (R65, R60, R113).
Senders 0 and 17 to 31 make no record (R55). -/
def State.takeAnnounce (s : State) (n : Nat) (p : List Byte) : State :=
  if s.isPeer n then
    let r := announcedRecord n p
    let t := ((s.setTable (putRecord r s.peers.table)).changeJoin (repairBy ((p.getD 5 0).getLsbD 0) n)).changeHeat
      (repairBy ((p.getD 5 0).getLsbD 1) n)
    ((t.reviewZoneKey).fireReported r.fire).confirmByPeer
  else if n = s.ownNumber then (s.fireReported (fireOfByte (p.getD 2 0))).setDuplicateId
  else s

/-- ANNOUNCE_ARRIVAL (R56). -/
def execAnnounceArrival (sender : BitVec 5) (payload : List Byte) (s : State) : Host.Outcome State Fault Refusal :=
  (s.receiveKind payload 24 (fun t => t.takeAnnounce sender.toNat payload)).finish

/-! ### FIRE_NOTICE_ARRIVAL -/

/-- The fire unit's part of a notice from a peer: in PRE_ALARM a zone peer alarm confirms (R113, R118) and a zone
PRE_ALARM asks for a call (R111); from ALARM to RELEASE_HELD a zone RELEASED is followed while the own key is released
(R118). -/
def State.noticeToFireUnit (s : State) (zone : Nat) (f : FireState) : State :=
  match s.fire.state with
  | .preAlarm =>
    if s.zonePeerAlarm then s.enterAlarm
    else if f = .preAlarm ∧ zone = s.ownZone then s.queueCall
    else s
  | .alarm => if f = .released ∧ zone = s.ownZone ∧ s.fire.serviceKey = false then s.enterReleased else s
  | .releaseDelay => if f = .released ∧ zone = s.ownZone ∧ s.fire.serviceKey = false then s.enterReleased else s
  | .releaseHeld => if f = .released ∧ zone = s.ownZone ∧ s.fire.serviceKey = false then s.enterReleased else s
  | .normal => s
  | .released => s

/-- A FIRE_NOTICE of three bytes from a sender: a peer's is recorded (R57) and goes to the fire unit; from every station
number, the own one included, it acts on the container fire flag (R60). -/
def State.takeFireNotice (s : State) (n : Nat) (p : List Byte) : State :=
  if s.isPeer n then
    let r := noticedRecord (s.peers.record n) n p
    let t := (s.setTable (putRecord r s.peers.table)).reviewZoneKey
    (t.fireReported r.fire).noticeToFireUnit r.zone r.fire
  else if n = s.ownNumber then s.fireReported (fireOfByte (p.getD 1 0))
  else s

/-- FIRE_NOTICE_ARRIVAL (R57). -/
def execFireNoticeArrival (sender : BitVec 5) (payload : List Byte) (s : State) : Host.Outcome State Fault Refusal :=
  (s.receiveKind payload 3 (fun t => t.takeFireNotice sender.toNat payload)).finish

/-! ### AP_EXPIRY -/

/-- A record one AP older, STALE from age 4 on (R59). -/
def agedRecord (r : PeerRecord) : PeerRecord :=
  { r with age := r.age + 1, presence := if r.age + 1 = 4 then .stale else r.presence }

/-- The table after an AP: every record older, those of age 12 removed (R59). -/
def agedTable (table : List PeerRecord) : List PeerRecord := (table.map agedRecord).filter (fun r => r.age < 12)

/-- The numbers whose records become STALE at this AP (R59). -/
def newlyStale (table : List PeerRecord) : List Nat := (table.filter (fun r => r.age + 1 == 4)).map (·.number)

/-- What staleness and the sweep leave of a list: the own number, and the peers that have a record and did not become
STALE at this AP (R76). -/
def State.sweptList (s : State) (stale : List Nat) (l : List Nat) : List Nat :=
  l.filter (fun n => n == s.ownNumber || (s.peers.table.any (fun r => r.number == n) && !stale.contains n))

/-- The aging and the sweep (R59, R65, R76). -/
def State.ageAndSweep (s : State) : State :=
  let t := (s.setTable (agedTable s.peers.table)).reviewZoneKey
  let stale := newlyStale s.peers.table
  (t.changeJoin (t.sweptList stale)).changeHeat (t.sweptList stale)

/-- A dropped JOIN_CLAIM or JOIN_DONE is queued again (R73). -/
def State.requeueJoin (s : State) : State :=
  if s.claims.join.requeue then
    let t := { s with claims := { s.claims with join := { s.claims.join with requeue := false } } }
    match t.claims.join.own with
    | .claimQueued _ => t.enqueue joinClaimFrame
    | .releaseQueued _ => t.enqueue (joinDoneFrame t.claims.doneResult)
    | .notClaimed => t
    | .listed => t
  else s

/-- A dropped HEAT_CLAIM or HEAT_RELEASE is queued again (R73). -/
def State.requeueHeat (s : State) : State :=
  if s.claims.heat.requeue then
    let t := { s with claims := { s.claims with heat := { s.claims.heat with requeue := false } } }
    match t.claims.heat.own with
    | .claimQueued _ => t.enqueue heatClaimFrame
    | .releaseQueued _ => t.enqueue heatReleaseFrame
    | .notClaimed => t
    | .listed => t
  else s

/-- A dropped JOINED call of the join check is queued again (R132). -/
def State.requeueCheck (s : State) : State :=
  if s.conn.check = .callPending true then s.startCheck else s

/-- The entries that the judgement of LINK_CONGESTION counts: all but an ANNOUNCE handed over at this expiry (R164). -/
def State.congestionCount (s : State) : Nat :=
  s.link.queue.length - (if s.link.queue.any waitingAnnounce then 1 else 0)

/-- The judgement of LINK_CONGESTION at an AP expiry (R164). -/
def State.judgeCongestion (s : State) : State :=
  if s.congestionCount ≤ 4 then { s with link := { s.link with congestion := false } } else s

/-- The contactors are proved at the entry to ACTIVE from LISTENING (R128). -/
def State.startProving (s : State) : State :=
  ({ s with conn := { s.conn with proving := .pending, window := some .proving } }).testWindow

/-- LISTENING becomes ACTIVE at the fourth AP expiry (R176, R90, R128); the count is kept in LISTENING alone. -/
def State.enterActive (s : State) : State :=
  (({ s with svc := { s.svc with mode := .active, apCount := 0 } }).startProving).thermalReview

/-- APs are counted in LISTENING (R176). -/
def State.countAp (s : State) : State :=
  if s.svc.mode = .listening then
    (if s.svc.apCount + 1 = 4 then s.enterActive
    else { s with svc := { s.svc with apCount := s.svc.apCount + 1 } })
  else s

/-- The announcement timer expires (R53). That a join frame owed is queued ahead of a heater frame owed is the model's choice (log
43). -/
def State.apExpires (s : State) : State :=
  if s.peers.apTimer.isSome then
    (((s.ageAndSweep.requeueJoin.requeueHeat.requeueCheck).enqueueAnnounce).judgeCongestion).countAp
  else s

/-- AP_EXPIRY (R53). -/
def execApExpiry (s : State) : Host.Outcome State Fault Refusal := s.apExpires.finish

end Sys2Proof.Machine
end

