-- ==== Sys2Proof/Machine/Startup.lean ====
section
/-! DEFINITION. The commands of start-up: POWER_ON_RESET (R174, R182) and CONFIG_LOAD (R175 to R177). -/

namespace Sys2Proof.Machine

open Sys2Proof

/-- The reset pin: every item of state at its reset value, with the strap pins read (R174, R182). The other input lines
and the waiting commands are outside the part. -/
def State.powerOn (s : State) (straps : StrapPins) : State :=
  State.resetWith { s.lines with straps := straps } s.pending

/-- POWER_ON_RESET (R182). -/
def execPowerOnReset (straps : StrapPins) (s : State) : Host.Outcome State Fault Refusal := (s.powerOn straps).finish

/-- What LISTENING and CONFIG_FAULT have in common on leaving LOADING: the announcement timer starts and hands over one
ANNOUNCE (R53, R54), loop sampling starts (R103), the key level is taken (R109), and the thermal controller enters
INHIBITED (R88). -/
def State.leaveLoading (s : State) (period : Nat) : State :=
  let t := { s with
    peers := { s.peers with apTimer := some period }
    fire := { s.fire with loopTimer := some 100, serviceKey := s.lines.key } }
  t.thermalReview.enqueueAnnounce

/-- An accepted image: LISTENING with the site cap at IRACK_MAX and L at HEAT_LIMIT_ISLAND (R26, R80, R175); the scan
interval timer, the first scan and the runaway sample timer start (R4, R106); the chiller-fault and grid-healthy levels
are taken (R98, R150). -/
def State.enterListening (s : State) (c : ConfigSet) : State :=
  let t := { s with
    svc := { s.svc with mode := .listening, config := some c, siteCap := c.irackMax, apCount := 0 }
    claims := { s.claims with limit := c.heatLimitIsland }
    chain := { s.chain with scanTimer := some 100 }
    env := { s.env with runawayTimer := some 1000 } }
  let u := (t.evalSlot.leaveLoading (c.ap * 50)).startScan
  let v := if u.lines.chillerFault then u.setDegraded true else u
  if v.lines.gridHealthy then v.gridAsserted c else v

/-- A refused image: CONFIG_FAULT, with an announcement period of 250 ms (R53, R175, R177). -/
def State.enterConfigFault (s : State) : State :=
  ({ s with svc := { s.svc with mode := .configFault, configFaultFlag := true } }).leaveLoading 250

/-- The read of the configuration image ends; it happens in LOADING alone (R175). -/
def State.loadConfig (s : State) (image : List Byte) : State :=
  if s.svc.mode = .loading then
    (match loadImage image with
    | some c => s.enterListening c
    | none => s.enterConfigFault)
  else s

/-- CONFIG_LOAD (R175). -/
def execConfigLoad (image : List Byte) (s : State) : Host.Outcome State Fault Refusal := (s.loadConfig image).finish

end Sys2Proof.Machine
end

