-- ==== Sys2Proof/Machine/Dispatch.lean ====
section
/-! DEFINITION. The dispatch: one arm per command, each one direct call of its meaning. -/

namespace Sys2Proof.Machine

open Sys2Proof

/-- The effect of a command on everything but the queue of waiting commands. -/
def exec (i : Instr) (s : State) : Host.Outcome State Fault Refusal :=
  match i with
  | .powerOnReset straps => Sys2Proof.Machine.execPowerOnReset straps s
  | .configLoad image => Sys2Proof.Machine.execConfigLoad image s
  | .scanIntervalExpiry => Sys2Proof.Machine.execScanIntervalExpiry s
  | .chainReplyArrival reply => Sys2Proof.Machine.execChainReplyArrival reply s
  | .chainReplyWaitExpiry => Sys2Proof.Machine.execChainReplyWaitExpiry s
  | .loopSample loopS loopH => Sys2Proof.Machine.execLoopSample loopS loopH s
  | .runawaySample => Sys2Proof.Machine.execRunawaySample s
  | .releaseCountdownExpiry => Sys2Proof.Machine.execReleaseCountdownExpiry s
  | .censusRepeatExpiry => Sys2Proof.Machine.execCensusRepeatExpiry s
  | .abortInputChange asserted => Sys2Proof.Machine.execAbortInputChange asserted s
  | .maintenanceKeyChange asserted => Sys2Proof.Machine.execMaintenanceKeyChange asserted s
  | .chillerFaultInputChange asserted => Sys2Proof.Machine.execChillerFaultInputChange asserted s
  | .heatSoakExpiry => Sys2Proof.Machine.execHeatSoakExpiry s
  | .recoveryExpiry => Sys2Proof.Machine.execRecoveryExpiry s
  | .apExpiry => Sys2Proof.Machine.execApExpiry s
  | .announceArrival sender payload => Sys2Proof.Machine.execAnnounceArrival sender payload s
  | .fireNoticeArrival sender payload => Sys2Proof.Machine.execFireNoticeArrival sender payload s
  | .joinClaimArrival sender payload => Sys2Proof.Machine.execJoinClaimArrival sender payload s
  | .joinDoneArrival sender payload => Sys2Proof.Machine.execJoinDoneArrival sender payload s
  | .heatClaimArrival sender payload => Sys2Proof.Machine.execHeatClaimArrival sender payload s
  | .heatReleaseArrival sender payload => Sys2Proof.Machine.execHeatReleaseArrival sender payload s
  | .censusCallArrival sender payload => Sys2Proof.Machine.execCensusCallArrival sender payload s
  | .censusWindowCompletion window => Sys2Proof.Machine.execCensusWindowCompletion window s
  | .linkIdleAttemptStart breakerClosed => Sys2Proof.Machine.execLinkIdleAttemptStart breakerClosed s
  | .lostArbitration => Sys2Proof.Machine.execLostArbitration s
  | .attemptBitError atByte => Sys2Proof.Machine.execAttemptBitError atByte s
  | .ownFrameCompletion => Sys2Proof.Machine.execOwnFrameCompletion s
  | .headTimerExpiry => Sys2Proof.Machine.execHeadTimerExpiry s
  | .holdTimerExpiry => Sys2Proof.Machine.execHoldTimerExpiry s
  | .auxInputChange posClosed negClosed => Sys2Proof.Machine.execAuxInputChange posClosed negClosed s
  | .auxWindowExpiry => Sys2Proof.Machine.execAuxWindowExpiry s
  | .prechargeTimerExpiry => Sys2Proof.Machine.execPrechargeTimerExpiry s
  | .leaveTimerExpiry => Sys2Proof.Machine.execLeaveTimerExpiry s
  | .failureHoldExpiry => Sys2Proof.Machine.execFailureHoldExpiry s
  | .gridHealthyChange asserted => Sys2Proof.Machine.execGridHealthyChange asserted s
  | .reconnectExpiry => Sys2Proof.Machine.execReconnectExpiry s
  | .readStatus sender payload => Sys2Proof.Machine.execReadStatus sender payload s
  | .readModule sender payload => Sys2Proof.Machine.execReadModule sender payload s
  | .setSiteCap sender payload => Sys2Proof.Machine.execSetSiteCap sender payload s
  | .holdJoin sender payload => Sys2Proof.Machine.execHoldJoin sender payload s
  | .resumeJoin sender payload => Sys2Proof.Machine.execResumeJoin sender payload s
  | .takeOut sender payload => Sys2Proof.Machine.execTakeOut sender payload s
  | .returnRack sender payload => Sys2Proof.Machine.execReturnRack sender payload s
  | .clearLockout sender payload => Sys2Proof.Machine.execClearLockout sender payload s
  | .fireReset sender payload => Sys2Proof.Machine.execFireReset sender payload s
  | .breakerHold sender payload => Sys2Proof.Machine.execBreakerHold sender payload s
  | .breakerRelease sender payload => Sys2Proof.Machine.execBreakerRelease sender payload s
  | .censusRequest sender payload => Sys2Proof.Machine.execCensusRequest sender payload s
  | .restart sender payload => Sys2Proof.Machine.execRestart sender payload s
  | .unknownRequest sender kind payload => Sys2Proof.Machine.execUnknownRequest sender kind payload s
  | .receivedFrameDiscard reason => Sys2Proof.Machine.execReceivedFrameDiscard reason s

end Sys2Proof.Machine
end

