-- ==== Sys2Proof/Safety.lean ====
section
/-! DEFINITION. What counts as a sound state: the conditions that the statements name as premises and as invariants, the
form of a gateway request, and the small state changes that the statements are written with. -/

namespace Sys2Proof.Machine

open Sys2Proof

/-! ### What every command leaves -/

/-- The connection states that a forced-leave cause acts on (R140). -/
def takesForcedLeave : ConnState → Bool
  | .waitToken => true
  | .precharge => true
  | .closing => true
  | .joined => true
  | .leaving => true
  | .openRack => false
  | .opening => false
  | .welded => false
  | .lockout => false
  | .outOfService => false

/-- The level-type outputs agree with what they are judged from: the close permit (R153), the container cooling level
(R64), the chiller lines (R97), the forced leave (R140); and no reset is owed inside a step (R181). -/
structure State.Steady (s : State) : Prop where
  permit : s.grid.permit = s.permitNow
  containerLevel : s.peers.containerLevel = s.containerLevelNow
  pump1 : s.thermal.pump1 = (s.svc.straps.chiller && s.svc.mode != .loading
    && (s.peers.containerLevel == 1 || s.peers.containerLevel == 3))
  pump2 : s.thermal.pump2 = (s.svc.straps.chiller && s.svc.mode != .loading
    && (s.peers.containerLevel == 2 || s.peers.containerLevel == 3))
  chillerRun : s.thermal.chillerRun = (s.svc.straps.chiller && s.svc.mode != .loading
    && s.peers.containerLevel != 0)
  forced : s.forcedCause = true → takesForcedLeave s.conn.state = false
  noDue : s.svc.restart ≠ .due

/-! ### Invariants -/

/-- What the claim unit last signalled is what holds: the token (R77) and the own slot (R81). The precharge relay and
the closing contactor are worked only under the token, the own entry being the head of the join list (R77, R126), and a
join check is pending only in WAIT_TOKEN under the token (R132). -/
structure State.SignalsCurrent (s : State) : Prop where
  token : s.claims.tokenHeld = s.tokenNow
  slot : s.claims.slotHeld = s.slotNow
  joining : s.conn.state = .precharge ∨ s.conn.state = .closing → s.claims.tokenHeld = true
  head : s.conn.state = .precharge ∨ s.conn.state = .closing → s.claims.join.entries.head? = some s.ownNumber
  check : s.conn.check ≠ .none → s.conn.state = .waitToken ∧ s.claims.tokenHeld = true

/-- The table of thermal states (R87, R89): outside LOADING each state is held exactly under its conditions, and the
heater and the valve follow the state. In LOADING the controller is IDLE at its reset values (R102). The heat-soak timer runs
exactly while COOLING_DEGRADED is clear and its condition holds as last judged, the recovery timer while the flag is set and its
condition holds (R98, R99). The last three lines are what keeps the table: the slot signal is current (R81), a standing heater claim has its demand (R94), and a
configuration set is held in the scanning modes alone (R175, R177). -/
structure State.ThermalTable (s : State) : Prop where
  heater : s.thermal.heater = (s.thermal.state == .heating)
  valve : s.thermal.valve = (s.thermal.state == .cooling || s.thermal.state == .inhibited)
  inhibited : s.svc.mode ≠ .loading → (s.thermal.state = .inhibited ↔ s.thermalInhibit = true)
  loading : s.svc.mode = .loading → s.thermal.state = .idle
  inhibitedLevel : s.thermal.state = .inhibited →
    s.thermal.level = if fireAlarmed s.fire.state || s.peers.containerFire then 3 else 0
  cooling : s.thermal.state = .cooling → 1 ≤ s.thermal.level ∧ s.thermal.level ≤ 3
  others : s.thermal.state = .idle ∨ s.thermal.state = .heatWait ∨ s.thermal.state = .heating → s.thermal.level = 0
  demand : s.thermal.demand = true ↔ s.thermal.state = .heatWait ∨ s.thermal.state = .heating
  slot : s.thermal.state = .heating → s.claims.slotHeld = true
  noSlot : s.thermal.state = .heatWait → s.claims.slotHeld = false
  soakTimer : s.thermal.soakTimer.isSome = (!s.thermal.degraded && s.thermal.soakCond)
  recoveryTimer : s.thermal.recoveryTimer.isSome = (s.thermal.degraded && s.thermal.recoveryCond)
  slotCurrent : s.claims.slotHeld = s.slotNow
  claim : s.claims.heat.own = .claimQueued false ∨ s.claims.heat.own = .listed ∨ s.claims.heat.own = .releaseQueued true →
    s.thermal.demand = true
  configSet : s.svc.config.isSome = scanningMode s.svc.mode

/-- The three contactor outputs follow the connection state (R126), each open window belongs to the state that opened it
(R127), the precharge and leave timers run only in theirs (R134, R143; that they stop at the entry to OPENING is log 39), and
OPENING alone has a destination (R138). -/
structure State.DrivesFollow (s : State) : Prop where
  preDrive : s.conn.preDrive = (s.conn.state == .precharge)
  negDrive : s.conn.state ≠ .leaving →
    s.conn.negDrive = (s.conn.state == .precharge || s.conn.state == .closing || s.conn.state == .joined)
  posDrive : s.conn.state ≠ .leaving → s.conn.posDrive = (s.conn.state == .closing || s.conn.state == .joined)
  leaving : s.conn.state = .leaving → s.conn.window = none → s.conn.leaveTimer.isSome = true
    ∧ s.conn.posDrive = true ∧ s.conn.negDrive = true
  leavePos : s.conn.window = some .leavePos → s.conn.state = .leaving ∧ s.conn.posDrive = false ∧ s.conn.negDrive = true
    ∧ s.conn.leaveTimer = none
  leaveNeg : s.conn.window = some .leaveNeg → s.conn.state = .leaving ∧ s.conn.posDrive = false ∧ s.conn.negDrive = false
    ∧ s.conn.leaveTimer = none
  provingWindow : s.conn.window = some .proving → s.conn.state = .openRack ∨ s.conn.state = .outOfService
  negWindow : s.conn.window = some .negClose → s.conn.state = .precharge
  posWindow : s.conn.window = some .posClose ↔ s.conn.state = .closing
  openWindow : s.conn.window = some .opening ↔ s.conn.state = .opening
  prechTimer : s.conn.prechTimer.isSome = (s.conn.state == .precharge)
  leaveTimer : s.conn.leaveTimer.isSome = true → s.conn.state = .leaving
  dest : s.conn.dest.isSome = (s.conn.state == .opening)
  destination : ∀ d, s.conn.dest = some d → d = .openRack ∨ d = .lockout ∨ d = .outOfService
  provingDone : takesForcedLeave s.conn.state = true ∨ s.conn.state = .opening ∨ s.conn.state = .lockout →
    s.conn.proving = .complete
  starting : s.svc.mode = .loading ∨ s.svc.mode = .listening ∨ s.svc.mode = .configFault →
    s.conn.state = .openRack ∧ s.conn.window = none
  provingPending : s.conn.proving = .pending ↔ s.conn.window = some .proving

/-- The fire unit's outputs and timers follow the fire state (the table of 7.4, R111, R115, R116), and an own alarm
holds the container fire flag (R60, R61). -/
structure State.FireOutputs (s : State) : Prop where
  release : s.fire.release = (s.fire.state == .released)
  fireLine : s.fire.fireLine = fireAlarmed s.fire.state
  tripLine : s.fire.tripLine = fireAlarmed s.fire.state
  countdown : s.fire.countdown.isSome = (s.fire.state == .releaseDelay)
  repeatTimer : s.fire.repeatTimer.isSome = (s.fire.state == .preAlarm)
  container : fireAlarmed s.fire.state = true → s.peers.containerFire = true

/-- Neither value of the pair exceeds the site cap, the site cap does not exceed IRACK_MAX (and is 0 without a
configuration set), and the pair is 0 whenever the mode is not ACTIVE, the fire state is ALARM or later or the container
fire flag is set (R26, R40). -/
structure State.EnvelopeWithin (s : State) : Prop where
  ec : s.env.ec ≤ s.svc.siteCap
  ed : s.env.ed ≤ s.svc.siteCap
  cap : ∀ c, s.svc.config = some c → s.svc.siteCap ≤ c.irackMax
  noSet : s.svc.config = none → s.svc.siteCap = 0
  forced : s.svc.mode ≠ .active ∨ fireAlarmed s.fire.state = true ∨ s.peers.containerFire = true →
    s.env.ec = 0 ∧ s.env.ed = 0

/-- The balance set holds at most 8 members, at most 2 of a module, none twice, and is empty unless balancing is eligible: in
ACTIVE, with fire state NORMAL, the container fire flag clear and the own level below 3, and on the current, Tmax and DATA_LOSS
taken at the last completion (R43, R45, R46). Every mask is the set's part of its module (R44). -/
structure State.BalanceSound (s : State) : Prop where
  size : s.balance.members.length ≤ 8
  perModule : ∀ p, (s.balance.members.filter (fun m => m.1 == p)).length ≤ 2
  once : s.balance.members.Nodup
  records : s.chain.modules.length = 12
  configured : ∀ c, s.svc.config = some c → c.modules ≤ 12
  positions : ∀ m ∈ s.balance.members, 1 ≤ m.1 ∧ m.1 ≤ 12 ∧ 1 ≤ m.2
  masks : ∀ p, 1 ≤ p → p ≤ 12 → (s.moduleRecord p).mask = maskOf s.balance.members p
  eligible : s.balance.members ≠ [] →
    s.svc.mode = .active ∧ s.fire.state = .normal ∧ s.peers.containerFire = false ∧ s.thermal.level < 3
      ∧ ∃ c x, s.svc.config = some c ∧ s.balance.taken = some x
        ∧ (x.current ≤ 10 * c.balCurrent ∧ -(10 * c.balCurrent : Int) ≤ x.current) ∧ x.tmax < c.tc ∧ x.dataLoss = false

/-- The zone key check holds exactly while a PRESENT record shows the own zone, the strap value plus 1, and a maintenance key
flag that is set (R65). -/
abbrev State.ZoneKeyCurrent (s : State) : Prop :=
  s.peers.zoneKey = true ↔ ∃ r ∈ s.peers.table, r.presence = .present ∧ r.zone = s.svc.straps.zone.toNat + 1 ∧ r.key = true

/-- The two claim lists hold station numbers, none twice, so that neither exceeds 16 entries (R68, R69); the peer table
holds peers in ascending order (R55), aged 0 to 11 (R59), and the zone key check follows it (R65). -/
structure State.ListsProper (s : State) : Prop where
  joinOnce : s.claims.join.entries.Nodup
  joinStations : ∀ n ∈ s.claims.join.entries, isStation n = true
  heatOnce : s.claims.heat.entries.Nodup
  heatStations : ∀ n ∈ s.claims.heat.entries, isStation n = true
  tableOrder : (s.peers.table.map (·.number)).Pairwise (· < ·)
  tablePeers : ∀ r ∈ s.peers.table, s.isPeer r.number = true
  tableAges : ∀ r ∈ s.peers.table, r.age ≤ 11
  tableStale : ∀ r ∈ s.peers.table, (r.presence = .stale ↔ 4 ≤ r.age)
  zoneKey : s.ZoneKeyCurrent

/-- The transmit queue holds at most 8 entries, in order of class, at most one of them on the line and at most one of them an
ANNOUNCE that waits, and no entry has more than 3 bit errors (R54, R163, R166). -/
structure State.QueueSound (s : State) : Prop where
  size : s.link.queue.length ≤ 8
  order : (s.link.queue.map (fun e => e.cls.rank)).Pairwise (· ≤ ·)
  onLine : (s.link.queue.filter (·.onLine)).length ≤ 1
  announces : (s.link.queue.filter waitingAnnounce).length ≤ 1
  errors : ∀ e ∈ s.link.queue, e.errors ≤ 3
  headerErrors : s.link.headerErrors ≤ 2

/-! ### What a command may reach -/

/-- Kinds of state: each is changed by the commands that the rules name, and by no other. -/
inductive Part where
  /-- The configuration set and its fault flag, and the timers that run from LOADING on (R175, R4, R53, R103, R106). -/
  | startup
  /-- The mode and the count of APs in LISTENING (R175 to R177). -/
  | mode
  /-- DUPLICATE_ID (R58, R167). -/
  | duplicateId
  /-- The scan in flight and the owed scan (R3, R5). -/
  | scan
  /-- The scan record, the rack sense and cell records, the extremes and flags judged from them, the trip counts, the
  balance inputs and the inlet temperature taken (R6 to R17, R45). -/
  | records
  /-- The pair in force and the balance set with its masks (R21, R43, R44); a rise of the own level to 3 empties the set (R46). -/
  | pair
  /-- PROTECTION_TRIP (R18, R19). -/
  | trip
  /-- The ring, the rise flag and the latch of the runaway source (R106, R107, R122). -/
  | runaway
  /-- The loop records and LOOP_TROUBLE (R104, R105). -/
  | loops
  /-- The fire state with its countdown, its repeat timer and its outputs (R110 to R122). -/
  | fireState
  /-- SERVICE_KEY (R109). -/
  | serviceKey
  /-- The container fire flag (R60, R61). -/
  | containerFire
  /-- The peer table and the zone key check (R55 to R59, R65). -/
  | peerTable
  /-- The entries of the join list and the head timer (R68 to R70, R75, R76, R78). -/
  | joinList
  /-- The entries of the heater list (R68 to R70, R75, R76). -/
  | heatList
  /-- The grid state, the reconnect timer and L (R149 to R152, R80). -/
  | grid
  /-- Breaker-hold (R156). -/
  | breakerHold
  /-- The site cap (R26, R27). -/
  | siteCap
  /-- JOIN_HELD (R180). -/
  | joinHeld
  /-- The thermal state, level, demand, heater and valve drives, and the hold timer (R82, R87 to R94). -/
  | thermal
  /-- COOLING_DEGRADED (R98, R99). -/
  | degraded
  /-- The connection state with its drives, window, timers and destination, the failure count and PRECHARGE_FAIL (R126
  to R145). -/
  | connection
  /-- The failure hold timer (R130, R137, R139). -/
  | failureHold
  /-- The proving of the contactors (R128). -/
  | proving
  /-- VOLTAGE_MISMATCH (R129, R133). -/
  | mismatch
  /-- The header error count (R167, R168). -/
  | headerErrors
deriving DecidableEq, Repr

/-- The kinds of state that a command may change. POWER_ON_RESET is not judged by it: it changes everything (R182). -/
def reaches : Instr → List Part
  | .powerOnReset _ =>
    [.startup, .mode, .duplicateId, .scan, .records, .pair, .trip, .runaway, .loops, .fireState, .serviceKey,
      .containerFire, .peerTable, .joinList, .heatList, .grid, .breakerHold, .siteCap, .joinHeld, .thermal, .degraded,
      .connection, .failureHold, .proving, .mismatch, .headerErrors]
  | .configLoad _ => [.startup, .mode, .scan, .pair, .serviceKey, .grid, .siteCap, .thermal, .degraded]
  | .scanIntervalExpiry => [.scan]
  | .chainReplyArrival _ => [.scan, .records, .pair, .trip, .thermal, .connection, .mismatch]
  | .chainReplyWaitExpiry => [.scan, .records, .pair, .trip, .thermal, .connection, .mismatch]
  | .loopSample _ _ => [.pair, .loops, .fireState, .containerFire, .thermal, .connection]
  | .runawaySample => [.pair, .runaway, .fireState, .containerFire, .thermal, .connection]
  | .releaseCountdownExpiry => [.fireState]
  | .censusRepeatExpiry => [.fireState]
  | .abortInputChange _ => [.fireState]
  | .maintenanceKeyChange _ => [.fireState, .serviceKey, .connection]
  | .chillerFaultInputChange _ => [.degraded]
  | .heatSoakExpiry => [.degraded]
  | .recoveryExpiry => [.degraded]
  | .apExpiry => [.mode, .pair, .fireState, .peerTable, .joinList, .heatList, .thermal, .connection, .proving]
  | .announceArrival _ _ =>
    [.mode, .duplicateId, .pair, .fireState, .containerFire, .peerTable, .joinList, .heatList, .thermal, .connection]
  | .fireNoticeArrival _ _ => [.pair, .fireState, .containerFire, .peerTable, .thermal, .connection]
  | .joinClaimArrival _ _ => [.joinList, .connection]
  | .joinDoneArrival _ _ => [.joinList, .connection]
  | .heatClaimArrival _ _ => [.heatList, .thermal]
  | .heatReleaseArrival _ _ => [.heatList, .thermal]
  | .censusCallArrival _ _ => []
  | .censusWindowCompletion _ => [.pair, .fireState, .containerFire, .thermal, .connection, .mismatch]
  | .linkIdleAttemptStart _ => []
  | .lostArbitration => []
  | .attemptBitError _ => [.mode, .duplicateId, .pair, .thermal, .connection, .headerErrors]
  | .ownFrameCompletion => [.joinList, .heatList, .thermal, .connection, .headerErrors]
  | .headTimerExpiry => [.joinList, .connection, .failureHold]
  | .holdTimerExpiry => [.thermal]
  | .auxInputChange _ _ => [.connection, .proving]
  | .auxWindowExpiry => [.connection, .failureHold, .proving]
  | .prechargeTimerExpiry => [.connection, .failureHold]
  | .leaveTimerExpiry => [.connection]
  | .failureHoldExpiry => [.failureHold]
  | .gridHealthyChange _ => [.grid, .thermal]
  | .reconnectExpiry => [.grid, .thermal]
  | .readStatus _ _ => []
  | .readModule _ _ => []
  | .setSiteCap _ _ => [.pair, .siteCap]
  | .holdJoin _ _ => [.joinHeld]
  | .resumeJoin _ _ => [.joinHeld]
  | .takeOut _ _ => [.connection]
  | .returnRack _ _ => [.connection]
  | .clearLockout _ _ => [.trip, .connection, .failureHold]
  | .fireReset _ _ => [.pair, .runaway, .fireState, .containerFire, .thermal]
  | .breakerHold _ _ => [.breakerHold]
  | .breakerRelease _ _ => [.breakerHold]
  | .censusRequest _ _ => []
  | .restart _ _ => []
  | .unknownRequest _ _ _ => []
  | .receivedFrameDiscard _ => []

/-- A kind of state stands as it stood. -/
def Part.kept (s t : State) : Part → Prop
  | .startup =>
    t.svc.config = s.svc.config ∧ t.svc.configFaultFlag = s.svc.configFaultFlag
      ∧ t.chain.scanTimer = s.chain.scanTimer ∧ t.env.runawayTimer = s.env.runawayTimer
      ∧ t.fire.loopTimer = s.fire.loopTimer ∧ t.peers.apTimer = s.peers.apTimer
  | .mode =>
    t.svc.mode = s.svc.mode ∧ t.svc.apCount = s.svc.apCount
  | .duplicateId =>
    t.svc.duplicateId = s.svc.duplicateId
  | .scan =>
    t.chain.scan = s.chain.scan ∧ t.chain.owed = s.chain.owed
  | .records =>
    t.chain.record = s.chain.record ∧ t.chain.sense = s.chain.sense
      ∧ t.chain.modules.map (fun r => (r.cells, r.temps, r.age)) = s.chain.modules.map (fun r => (r.cells, r.temps, r.age))
      ∧ t.chain.vmin = s.chain.vmin ∧ t.chain.vmax = s.chain.vmax ∧ t.chain.tmin = s.chain.tmin
      ∧ t.chain.tmax = s.chain.tmax ∧ t.chain.dataLoss = s.chain.dataLoss ∧ t.chain.tempLoss = s.chain.tempLoss
      ∧ t.chain.chainBreak = s.chain.chainBreak ∧ t.chain.staleLeave = s.chain.staleLeave
      ∧ t.env.cellTrips = s.env.cellTrips ∧ t.env.overCount = s.env.overCount ∧ t.balance.taken = s.balance.taken
      ∧ t.thermal.inlet = s.thermal.inlet
  | .pair =>
    t.env.ec = s.env.ec ∧ t.env.ed = s.env.ed ∧ t.balance.members = s.balance.members
      ∧ t.chain.modules.map (·.mask) = s.chain.modules.map (·.mask)
  | .trip =>
    t.env.trip = s.env.trip
  | .runaway =>
    t.env.ring = s.env.ring ∧ t.env.riseFlag = s.env.riseFlag ∧ t.env.latch = s.env.latch
  | .loops =>
    t.fire.loopS = s.fire.loopS ∧ t.fire.loopH = s.fire.loopH ∧ t.fire.loopTrouble = s.fire.loopTrouble
  | .fireState =>
    t.fire.state = s.fire.state ∧ t.fire.countdown = s.fire.countdown ∧ t.fire.repeatTimer = s.fire.repeatTimer
      ∧ t.fire.release = s.fire.release ∧ t.fire.fireLine = s.fire.fireLine ∧ t.fire.tripLine = s.fire.tripLine
  | .serviceKey =>
    t.fire.serviceKey = s.fire.serviceKey
  | .containerFire =>
    t.peers.containerFire = s.peers.containerFire
  | .peerTable =>
    t.peers.table = s.peers.table ∧ t.peers.zoneKey = s.peers.zoneKey
  | .joinList =>
    t.claims.join.entries = s.claims.join.entries ∧ t.claims.headTimer = s.claims.headTimer
  | .heatList =>
    t.claims.heat.entries = s.claims.heat.entries
  | .grid =>
    t.grid.state = s.grid.state ∧ t.grid.reconnect = s.grid.reconnect ∧ t.claims.limit = s.claims.limit
  | .breakerHold =>
    t.grid.breakerHold = s.grid.breakerHold
  | .siteCap =>
    t.svc.siteCap = s.svc.siteCap
  | .joinHeld =>
    t.svc.joinHeld = s.svc.joinHeld
  | .thermal =>
    t.thermal.state = s.thermal.state ∧ t.thermal.level = s.thermal.level ∧ t.thermal.demand = s.thermal.demand
      ∧ t.thermal.heater = s.thermal.heater ∧ t.thermal.valve = s.thermal.valve ∧ t.claims.hold = s.claims.hold
  | .degraded =>
    t.thermal.degraded = s.thermal.degraded
  | .connection =>
    t.conn.state = s.conn.state ∧ t.conn.posDrive = s.conn.posDrive ∧ t.conn.negDrive = s.conn.negDrive
      ∧ t.conn.preDrive = s.conn.preDrive ∧ t.conn.window = s.conn.window ∧ t.conn.prechTimer = s.conn.prechTimer
      ∧ t.conn.leaveTimer = s.conn.leaveTimer ∧ t.conn.dest = s.conn.dest ∧ t.conn.failCount = s.conn.failCount
      ∧ t.conn.prechFail = s.conn.prechFail
  | .failureHold =>
    t.conn.failHold = s.conn.failHold
  | .proving =>
    t.conn.proving = s.conn.proving
  | .mismatch =>
    t.conn.mismatch = s.conn.mismatch
  | .headerErrors =>
    t.link.headerErrors = s.link.headerErrors

/-! ### The words that statements are written with -/

/-- The station hears a frame: none of its own is on the line, and the mode is not LOADING (R168, R173). -/
structure State.Hears (s : State) : Prop where
  silent : s.onLine = none
  awake : s.svc.mode ≠ .loading

/-- The transmit queue has room for a frame (R163, R164). -/
def State.Room (s : State) : Prop := s.link.queue.length < 8

/-- The frame in reception is over. -/
def State.heard (s : State) : State := { s with link := { s.link with reception := .none } }

/-- A frame stands in the queue behind every entry of its own and higher-ranking classes (R163). -/
def State.queued (s : State) (e : Entry) : State :=
  { s with link := { s.link with queue := insertByClass e s.link.queue } }

/-- A frame has been heard and answered with a SERVICE_REPLY (R178). -/
def State.replied (s : State) (kind : Byte) (result : ReplyResult) (data : List Byte) : State :=
  s.heard.queued (serviceReply kind result data .plain)

/-- The frame on the line is gone: it has left the queue, and the header error count is 0 (R168). -/
def State.sent (s : State) : State :=
  { s with link := { s.link with queue := dropOnLine s.link.queue, reception := .none, headerErrors := 0 } }

/-- The sequencer has opened on a precharge failure while the contacts still show closed, and JOIN_DONE FAILED waits in the
queue (R137, R138, R72); the precharge and the leave timer have stopped (the model's choice, log 39). -/
def State.openedByFailure (s : State) : State :=
  ({ s with
    claims :=
      { s.claims with
        join := { s.claims.join with own := .releaseQueued false }
        doneResult := .failed
        tokenHeld := false }
    conn :=
      { s.conn with
        state := .opening
        negDrive := false
        preDrive := false
        posDrive := false
        prechTimer := none
        leaveTimer := none
        window := some .opening
        prechFail := true
        failCount := s.conn.failCount + 1
        failHold := some 60000
        dest := some (if s.conn.failCount + 1 = 3 then .lockout else .openRack) } }).queued (joinDoneFrame .failed)

/-- The same where both contacts show open at once: the opening has succeeded, and the state is the destination (R138). -/
def State.openedAtOnce (s : State) : State :=
  { s.openedByFailure with
    conn :=
      { s.openedByFailure.conn with
        state := if s.conn.failCount + 1 = 3 then .lockout else .openRack
        window := none
        dest := none } }

/-- WELDED, with every drive off and no window (R145); the permit is withheld (R153). -/
def State.welded (s : State) : State :=
  { s with
    conn := { s.conn with state := .welded, negDrive := false, preDrive := false, posDrive := false, window := none }
    grid := { s.grid with permit := false } }

/-! ### The zone key check and the pending restart -/

/-- The zone key check stands as the records show it, and a change of it has acted on the countdown: its beginning takes
RELEASE_DELAY and RELEASE_HELD back to ALARM, its end with the own key released takes ALARM on to RELEASE_DELAY with the full
countdown, to RELEASE_HELD under the abort input, and to RELEASED where the delay is 0 (R65, R109, R116, R117). -/
structure State.ZoneKeyActed (s t : State) : Prop where
  current : t.ZoneKeyCurrent
  begins : s.fire.state = .releaseDelay ∨ s.fire.state = .releaseHeld → s.peers.zoneKey = false → t.peers.zoneKey = true →
    t.fire.state = .alarm ∧ t.fire.countdown = none
  ends : s.fire.state = .alarm → s.fire.serviceKey = false → s.peers.zoneKey = true → t.peers.zoneKey = false →
    (s.lines.abort = true → t.fire.state = .releaseHeld ∧ t.fire.countdown = none)
    ∧ (s.lines.abort = false → s.releaseDelayMs ≠ 0 →
      t.fire.state = .releaseDelay ∧ t.fire.countdown = some s.releaseDelayMs)
    ∧ (s.lines.abort = false → s.releaseDelayMs = 0 → t.fire.state = .released ∧ t.fire.release = true)

/-! ### Own claims given up, container fire, ALARM -/

/-- A release request for both lists has been taken (R72, R83, R84): in each own claim state what the table of R72 gives, where
the queue had room for the frames of the command, and WAIT_TOKEN left for OPEN (R131). -/
structure State.ClaimsReleased (s t : State) : Prop where
  waiting : s.conn.state = .waitToken → t.conn.state = .openRack
  join : s.link.queue.length ≤ 3 →
    (s.claims.join.own = .notClaimed → t.claims.join.own = .notClaimed)
    ∧ (s.claims.join.own = .listed →
      t.claims.join.own = .releaseQueued false ∧ t.claims.doneResult = .failed ∧ joinDoneFrame .failed ∈ t.link.queue)
    ∧ ∀ mark, (s.claims.join.own = .claimQueued mark → t.claims.join.own = .claimQueued true)
      ∧ (s.claims.join.own = .releaseQueued mark → t.claims.join.own = .releaseQueued false)
  heat : s.link.queue.length ≤ 3 →
    (s.claims.heat.own = .notClaimed → t.claims.heat.own = .notClaimed)
    ∧ (s.claims.heat.own = .listed →
      t.claims.heat.own = .releaseQueued false ∧ t.claims.slotHeld = false ∧ heatReleaseFrame ∈ t.link.queue)
    ∧ ∀ mark, (s.claims.heat.own = .claimQueued mark → t.claims.heat.own = .claimQueued true)
      ∧ (s.claims.heat.own = .releaseQueued mark → t.claims.heat.own = .releaseQueued false)

/-- The container fire flag has gone from clear to set, and every block has taken it (the table of R60): the pair is 0 (R41), the
balance set empty (R46), the rack off the bus or leaving it (R140), both own claims released (R83), the thermal controller
INHIBITED at level 3 (R88), the permit withheld (R153). -/
structure State.FireHeard (s t : State) : Prop where
  flag : t.peers.containerFire = true
  pair : t.env.ec = 0 ∧ t.env.ed = 0
  members : t.balance.members = []
  leaves : takesForcedLeave t.conn.state = false
  claims : s.ClaimsReleased t
  inhibited : t.thermal.state = .inhibited ∧ t.thermal.level = 3
  permit : t.grid.permit = false

/-- The fire unit has entered ALARM from NORMAL or PRE_ALARM and judged the inhibit (R114, R116): the lines driven, the repeat
timer stopped, the notice of ALARM queued with the sources and the key as they stand (R121; its spare bits: log 42), no census
call and no notice of PRE_ALARM queued (R110), the countdown begun where release is not inhibited. The drops are those of the
container fire flag, and hold also where the flag was set before (R60, R41, R46). -/
structure State.AlarmEntered (s t : State) : Prop where
  alarmed : fireAlarmed t.fire.state = true
  lines : t.fire.fireLine = true ∧ t.fire.tripLine = true
  repeatTimer : t.fire.repeatTimer = none
  flag : t.peers.containerFire = true
  pair : t.env.ec = 0 ∧ t.env.ed = 0
  members : t.balance.members = []
  inhibited : t.thermal.state = .inhibited ∧ t.thermal.level = 3
  leaves : takesForcedLeave t.conn.state = false
  permit : t.grid.permit = false
  notice : s.Room → newEntry .fire 1 [byteOfNat s.ownZone, 2, byteOfNat
    ((if t.fire.loopS.state = .alarm then 1 else 0) + (if t.fire.loopH.state = .alarm then 2 else 0)
      + (if t.env.latch then 4 else 0) + (if s.fire.serviceKey then 8 else 0))] .plain ∈ t.link.queue
  direct : s.link.queue.length ≤ 4 →
    let asks := fun e : Entry => e.cls == .census || (e.cls == .fire && e.payload.getD 1 0 == 1)
    t.fire.census = s.fire.census ∧ (t.link.queue.filter asks).length = (s.link.queue.filter asks).length
  held : s.inhibited = true → t.fire.state = .alarm
  counts : s.inhibited = false → s.lines.abort = false → s.releaseDelayMs ≠ 0 →
    t.fire.state = .releaseDelay ∧ t.fire.countdown = some s.releaseDelayMs
  aborted : s.inhibited = false → s.lines.abort = true → t.fire.state = .releaseHeld ∧ t.fire.countdown = none
  atOnce : s.inhibited = false → s.lines.abort = false → s.releaseDelayMs = 0 →
    t.fire.state = .released ∧ t.fire.release = true
  heard : s.peers.containerFire = false → s.FireHeard t

/-- The connection and fire states from which a RESTART is accepted, and in which it stays pending (R181). -/
abbrev State.AllowsRestart (s : State) : Prop :=
  (s.conn.state = .openRack ∨ s.conn.state = .outOfService ∨ s.conn.state = .lockout) ∧ s.fire.state = .normal

/-! ### The codes and the class of a reply -/

/-- The codes that an ANNOUNCE carries (R183). -/
structure AnnounceCodes : Prop where
  mode : modeCode .listening = 1 ∧ modeCode .active = 2 ∧ modeCode .safe = 3 ∧ modeCode .configFault = 4
  conn : connCode .openRack = 0 ∧ connCode .waitToken = 1 ∧ connCode .precharge = 2 ∧ connCode .closing = 3
    ∧ connCode .joined = 4 ∧ connCode .leaving = 5 ∧ connCode .opening = 6 ∧ connCode .welded = 7 ∧ connCode .lockout = 8
    ∧ connCode .outOfService = 9
  fire : fireCode .normal = 0 ∧ fireCode .preAlarm = 1 ∧ fireCode .alarm = 2 ∧ fireCode .releaseDelay = 3
    ∧ fireCode .releaseHeld = 4 ∧ fireCode .released = 5
  thermal : thermalCode .idle = 0 ∧ thermalCode .cooling = 1 ∧ thermalCode .heatWait = 2 ∧ thermalCode .heating = 3
    ∧ thermalCode .inhibited = 4

/-- The codes that the replies carry beside them (R183). -/
structure ReplyCodes : Prop where
  outcome : outcomeCode .none = 0 ∧ outcomeCode .complete = 1 ∧ outcomeCode .completeWithBad = 2
    ∧ outcomeCode .terminated = 3
  result : resultCode .done = 0 ∧ resultCode .refusedState = 1 ∧ resultCode .refusedValue = 2 ∧ resultCode .unknown = 3

/-- The tries that a transaction has (R3). -/
def triesOf (c : ConfigSet) : Nat := if c.retriesOff then 1 else 3

/-- A reply is a bad check: its check code does not match its other bytes, or it does not carry the values of its responding
position (R2). -/
def badReply (c : ConfigSet) (reply : ChainReply) : Prop :=
  reply.check ≠ crc16 reply.bytes
    ∨ ¬((∃ cells temps, reply.body = .module cells temps ∧ reply.position ≠ 0 ∧ cells.length = c.cells ∧ temps.length = c.tsens)
      ∨ ∃ current stringV busV inlet, reply.body = .rackSense current stringV busV inlet ∧ reply.position = 0)

/-! ### What a scan completion leaves -/

/-- A cell voltage that the aggregates count: of a module of positions 1 to M with an age of 3 or less (R13). -/
def State.CountsCell (s : State) (m v : Nat) : Prop :=
  ∃ p, 1 ≤ p ∧ p ≤ m ∧ (s.moduleRecord p).age ≤ 3 ∧ v ∈ (s.moduleRecord p).cells

/-- A temperature that the aggregates count: valid, of a module of positions 1 to M with an age of 3 or less (R12, R13). -/
def State.CountsTemp (s : State) (m : Nat) (x : Int) : Prop :=
  ∃ p, 1 ≤ p ∧ p ≤ m ∧ (s.moduleRecord p).age ≤ 3 ∧ some x ∈ (s.moduleRecord p).temps

/-- A value is the lowest one counted, or the kept one where none is counted (R13). -/
def LowestOf {α : Type} [LE α] (counts : α → Prop) (kept x : α) : Prop :=
  ((∃ v, counts v) → counts x ∧ ∀ v, counts v → x ≤ v) ∧ ((∀ v, ¬counts v) → x = kept)

/-- A value is the highest one counted, or the kept one where none is counted (R13). -/
def HighestOf {α : Type} [LE α] (counts : α → Prop) (kept x : α) : Prop :=
  ((∃ v, counts v) → counts x ∧ ∀ v, counts v → v ≤ x) ∧ ((∀ v, ¬counts v) → x = kept)

/-- The chain controller's own state after the completion of a scan that read the positions `goods` GOOD, from the state `s`
that the scan's replies left (R4, R9 to R13). -/
structure State.ChainCompleted (s t : State) (c : ConfigSet) (goods : List Nat) : Prop where
  sense : t.chain.sense = { s.chain.sense with
    age := if 0 ∈ goods then s.chain.sense.age else min (s.chain.sense.age + 1) 255 }
  modules : ∀ p, 1 ≤ p → p ≤ c.modules → p ≤ s.chain.modules.length →
    (t.moduleRecord p).age = (if p ∈ goods then (s.moduleRecord p).age else min ((s.moduleRecord p).age + 1) 255)
      ∧ (t.moduleRecord p).cells = (s.moduleRecord p).cells ∧ (t.moduleRecord p).temps = (s.moduleRecord p).temps
  dataLoss : t.chain.dataLoss = true ↔ ∃ a ∈ t.chain.sense.age :: (t.chain.modules.take c.modules).map (·.age), 3 < a
  staleLeave : t.chain.staleLeave = true ↔ ∃ a ∈ t.chain.sense.age :: (t.chain.modules.take c.modules).map (·.age), 10 < a
  tempLoss : t.chain.tempLoss = true ↔
    2 * (((t.chain.modules.take c.modules).filter (·.age ≤ 3)).flatMap (fun r => r.temps.filterMap id)).length
      < c.modules * c.tsens
  vmin : LowestOf (t.CountsCell c.modules) s.chain.vmin t.chain.vmin
  vmax : HighestOf (t.CountsCell c.modules) s.chain.vmax t.chain.vmax
  tmin : LowestOf (t.CountsTemp c.modules) s.chain.tmin t.chain.tmin
  tmax : HighestOf (t.CountsTemp c.modules) s.chain.tmax t.chain.tmax
  owed : t.chain.owed = false
  scan : t.chain.scan = if s.chain.owed then
    some { position := 0, tryNo := 1, replied := false, command := [], good := [], bad := [] } else none

/-- The gap of the two voltages of the rack sense record is at most a number of volts (R129, R135). -/
def RackSense.gapWithin (v : RackSense) (volts : Nat) : Prop :=
  (v.stringV : Int) - v.busV ≤ 10 * volts ∧ (v.busV : Int) - v.stringV ≤ 10 * volts

/-- What the connection sequencer has done at a completion, where no forced-leave cause stands and the queue had room for two
frames: the claim conditions in OPEN (R129), the precharge match in PRECHARGE (R135, with R136 where the contact already shows
closed), the current test in LEAVING (R143, with its further steps where the contacts already show open). -/
structure State.SequencerActed (s t : State) (c : ConfigSet) (goods : List Nat) : Prop where
  claim : s.conn.state = .openRack →
    let conditions := s.conn.proving = .complete ∧ s.svc.mode = .active ∧ s.fire.state = .normal
      ∧ s.peers.containerFire = false ∧ s.svc.joinHeld = false ∧ t.env.trip = false ∧ t.chain.dataLoss = false
      ∧ s.fire.serviceKey = false ∧ s.conn.failHold = none ∧ s.claims.join.own = .notClaimed
    let voltages := t.chain.sense.busV < 500 ∨ t.chain.sense.gapWithin c.matchWindow
    (conditions → voltages → t.conn = { s.conn with state := .waitToken, mismatch := false }
      ∧ t.claims.join = { s.claims.join with own := .claimQueued false } ∧ joinClaimFrame ∈ t.link.queue)
    ∧ (conditions → ¬voltages → t.conn = { s.conn with mismatch := true } ∧ t.claims.join = s.claims.join)
    ∧ (¬conditions → t.conn = s.conn ∧ t.claims.join = s.claims.join)
  precharge : s.conn.state = .precharge →
    let matched := s.conn.window = none ∧ 0 ∈ goods ∧ t.chain.sense.gapWithin c.prechDone
    (matched → s.lines.auxPos = false → t.conn = { s.conn with
        state := .closing, prechTimer := none, negDrive := true, preDrive := false, posDrive := true
        window := some .posClose }
      ∧ t.claims.join = s.claims.join)
    ∧ (matched → s.lines.auxPos = true → t.conn = { s.conn with
        state := .joined, prechTimer := none, negDrive := true, preDrive := false, posDrive := true, window := none
        failCount := 0, prechFail := false }
      ∧ (s.claims.join.own = .listed →
        t.claims.join = { s.claims.join with own := .releaseQueued false } ∧ joinDoneFrame .ok ∈ t.link.queue))
    ∧ (¬matched → t.conn = s.conn ∧ t.claims.join = s.claims.join)
  leave : s.conn.state = .leaving →
    let low := s.conn.leaveTimer ≠ none ∧ 0 ∈ goods
      ∧ t.chain.sense.current ≤ 10 * c.leaveCurrent ∧ -(10 * c.leaveCurrent : Int) ≤ t.chain.sense.current
    (low → s.lines.auxPos = true → t.conn = { s.conn with leaveTimer := none, posDrive := false, window := some .leavePos })
    ∧ (low → s.lines.auxPos = false → s.lines.auxNeg = true → t.conn = { s.conn with
        leaveTimer := none, posDrive := false, negDrive := false, window := some .leaveNeg })
    ∧ (low → s.lines.auxPos = false → s.lines.auxNeg = false → t.conn = { s.conn with
        state := .outOfService, leaveTimer := none, posDrive := false, negDrive := false, window := none })
    ∧ (¬low → t.conn = s.conn)
  others : s.conn.state ≠ .openRack → s.conn.state ≠ .precharge → s.conn.state ≠ .leaving →
    t.conn = s.conn ∧ t.claims.join = s.claims.join

/-- What a completion hands on to the other blocks: the trips judged on the pair that was in force, the pair ramped to the new
targets (R16, R17, R22, R39), the balance inputs taken and the set rebuilt, emptied where the own level comes to 3 (R45 to R47),
the thermal controller's state after its completion but for the chiller lines (R91, R93, R98, R99) with its claim on the heater
list and, where the queue had room for two frames, the claim frame that it queued (R94), and the sequencer's work. -/
structure State.HandedOn (s t : State) (c : ConfigSet) (goods : List Nat) : Prop where
  trips : let judged := ({ s with chain := t.chain }).judgeTrips c goods
    t.env = { s.env with
      cellTrips := judged.env.cellTrips, overCount := judged.env.overCount, trip := judged.env.trip
      ec := rampTo c s.env.ec (judged.chargeTarget c), ed := rampTo c s.env.ed (judged.dischargeTarget c) }
  taken : t.balance.taken =
    some { current := t.chain.sense.current, tmax := t.chain.tmax, dataLoss := t.chain.dataLoss }
  members : let read := { s with chain := t.chain }
    t.balance.members = if s.thermal.state ≠ .inhibited ∧ read.nextLevel c = 3 then []
      else read.rebuilt c { current := t.chain.sense.current, tmax := t.chain.tmax, dataLoss := t.chain.dataLoss }
  thermal : t.thermal = { (({ s with chain := t.chain }).thermalCompletion c).thermal with
    pump1 := t.thermal.pump1, pump2 := t.thermal.pump2, chillerRun := t.thermal.chillerRun }
  heater : s.link.queue.length ≤ 6 →
    let read := (({ s with chain := t.chain }).thermalCompletion c)
    t.claims.heat = read.claims.heat ∧ t.claims.slotHeld = read.claims.slotHeld
      ∧ ∀ e ∈ read.link.queue, e = heatClaimFrame ∨ e = heatReleaseFrame → e ∈ t.link.queue
  sequencer : t.forcedCause = false → s.link.queue.length ≤ 6 → s.SequencerActed t c goods

/-- The sender, kind byte and payload of a gateway request command (R183). -/
def requestForm : Instr → Option (BitVec 5 × Byte × List Byte)
  | .readStatus sender p => some (sender, 1, p)
  | .readModule sender p => some (sender, 2, p)
  | .setSiteCap sender p => some (sender, 3, p)
  | .holdJoin sender p => some (sender, 4, p)
  | .resumeJoin sender p => some (sender, 5, p)
  | .takeOut sender p => some (sender, 6, p)
  | .returnRack sender p => some (sender, 7, p)
  | .clearLockout sender p => some (sender, 8, p)
  | .fireReset sender p => some (sender, 9, p)
  | .breakerHold sender p => some (sender, 10, p)
  | .breakerRelease sender p => some (sender, 11, p)
  | .censusRequest sender p => some (sender, 12, p)
  | .restart sender p => some (sender, 13, p)
  | .unknownRequest sender kind p => some (sender, kind, p)
  | .powerOnReset _ => none
  | .configLoad _ => none
  | .scanIntervalExpiry => none
  | .chainReplyArrival _ => none
  | .chainReplyWaitExpiry => none
  | .loopSample _ _ => none
  | .runawaySample => none
  | .releaseCountdownExpiry => none
  | .censusRepeatExpiry => none
  | .abortInputChange _ => none
  | .maintenanceKeyChange _ => none
  | .chillerFaultInputChange _ => none
  | .heatSoakExpiry => none
  | .recoveryExpiry => none
  | .apExpiry => none
  | .announceArrival _ _ => none
  | .fireNoticeArrival _ _ => none
  | .joinClaimArrival _ _ => none
  | .joinDoneArrival _ _ => none
  | .heatClaimArrival _ _ => none
  | .heatReleaseArrival _ _ => none
  | .censusCallArrival _ _ => none
  | .censusWindowCompletion _ => none
  | .linkIdleAttemptStart _ => none
  | .lostArbitration => none
  | .attemptBitError _ => none
  | .ownFrameCompletion => none
  | .headTimerExpiry => none
  | .holdTimerExpiry => none
  | .auxInputChange _ _ => none
  | .auxWindowExpiry => none
  | .prechargeTimerExpiry => none
  | .leaveTimerExpiry => none
  | .failureHoldExpiry => none
  | .gridHealthyChange _ => none
  | .reconnectExpiry => none
  | .receivedFrameDiscard _ => none

/-- The number of bytes behind the destination that a request kind carries; none for a value that is no request kind
(R183). -/
def requestLength (kind : Byte) : Option Nat :=
  if kind = 2 ∨ kind = 3 ∨ kind = 12 then some 2
  else if 1 ≤ kind.toNat ∧ kind.toNat ≤ 13 then some 0
  else none

/-- The modes in which a request kind is accepted (the table of R178). -/
def requestMode (kind : Byte) (m : Mode) : Bool :=
  if kind = 1 ∨ kind = 2 ∨ kind = 9 ∨ kind = 13 then m != .loading
  else if kind = 10 ∨ kind = 11 then m == .active || m == .safe || m == .configFault
  else if kind = 12 then m == .active || m == .listening
  else m == .active

/-- The commands that carry the level of an input line. -/
def movesLines : Instr → Bool
  | .powerOnReset _ => true
  | .abortInputChange _ => true
  | .maintenanceKeyChange _ => true
  | .chillerFaultInputChange _ => true
  | .linkIdleAttemptStart _ => true
  | .auxInputChange _ _ => true
  | .gridHealthyChange _ => true
  | .configLoad _ => false
  | .scanIntervalExpiry => false
  | .chainReplyArrival _ => false
  | .chainReplyWaitExpiry => false
  | .loopSample _ _ => false
  | .runawaySample => false
  | .releaseCountdownExpiry => false
  | .censusRepeatExpiry => false
  | .heatSoakExpiry => false
  | .recoveryExpiry => false
  | .apExpiry => false
  | .announceArrival _ _ => false
  | .fireNoticeArrival _ _ => false
  | .joinClaimArrival _ _ => false
  | .joinDoneArrival _ _ => false
  | .heatClaimArrival _ _ => false
  | .heatReleaseArrival _ _ => false
  | .censusCallArrival _ _ => false
  | .censusWindowCompletion _ => false
  | .lostArbitration => false
  | .attemptBitError _ => false
  | .ownFrameCompletion => false
  | .headTimerExpiry => false
  | .holdTimerExpiry => false
  | .auxWindowExpiry => false
  | .prechargeTimerExpiry => false
  | .leaveTimerExpiry => false
  | .failureHoldExpiry => false
  | .reconnectExpiry => false
  | .readStatus _ _ => false
  | .readModule _ _ => false
  | .setSiteCap _ _ => false
  | .holdJoin _ _ => false
  | .resumeJoin _ _ => false
  | .takeOut _ _ => false
  | .returnRack _ _ => false
  | .clearLockout _ _ => false
  | .fireReset _ _ => false
  | .breakerHold _ _ => false
  | .breakerRelease _ _ => false
  | .censusRequest _ _ => false
  | .restart _ _ => false
  | .unknownRequest _ _ _ => false
  | .receivedFrameDiscard _ => false

end Sys2Proof.Machine
end

