-- ==== Sys2Proof/Certificates/Slice0/Obligations.lean ====
section
/-! DEFINITION. The statements for the provers, by chapter of the manual. `Steady`, `Hears`, `Room` and the invariants that
stand among the premises are those of Sys2Proof/Safety.lean. -/

open Sys2Proof Sys2Proof.Machine

/-! ### The step and the whole machine -/

/-- A step runs the command that has waited longest on the state with the rest of the queue; with none waiting nothing
changes (the model's choice, log 11). -/
def Obligations.StepRunsFrontCommand : Prop :=
  (∀ (c : Instr) (rest : List Instr) (s : State), s.pending = c :: rest → step s = exec c { s with pending := rest })
  ∧ ∀ s : State, s.pending = [] → step s = .next s

/-- Every command answers a next state in every state: the spec gives every event an effect or says that it has none. That it
leaves the waiting commands, both resets included, and leaves the input lines unless it carries the level of one, is the model's
choice: the lines and the waiting commands are outside the part (log 32), and the queue is the model's own (log 12). -/
def Obligations.EveryCommandAnswersNext : Prop :=
  ∀ (c : Instr) (s : State), ∃ t, exec c s = .next t ∧ t.pending = s.pending ∧ (movesLines c = false → t.lines = s.lines)

/-- Every command leaves the close permit driven exactly under the seven conditions (R153), the container cooling level at
the highest level among the station and its records (R64), the chiller lines at its code (R97), and no forced-leave cause
together with a state that it acts on (R140). -/
def Obligations.EveryCommandSettles : Prop :=
  ∀ (c : Instr) (s t : State), exec c s = .next t → t.Steady

/-- R153: after every command the permit output is driven exactly when all seven conditions hold. -/
def Obligations.PermitExactlyUnderSevenConditions : Prop :=
  ∀ (c : Instr) (s t : State), exec c s = .next t →
    (t.grid.permit = true ↔
      t.grid.state = .up ∧ t.svc.mode = .active ∧ t.fire.state = .normal ∧ t.peers.containerFire = false
        ∧ t.claims.join.entries = [] ∧ t.conn.state ≠ .welded ∧ t.grid.breakerHold = false)

/-- A command changes only the kinds of state that it reaches (the table `reaches`): from a steady state with no restart
pending and the drives following the connection state (`DrivesFollowKept`), whatever stands outside them reads after it as
before, and so do the strap pins as read at reset. A RESTART is asked to find room in the queue, since the loss of its reply ends in the reset (R164, R181), and so is a reset (R182). -/
def Obligations.CommandsReachOnlyTheirParts : Prop :=
  ∀ (c : Instr) (s t : State), c.wf = true → s.Steady → s.DrivesFollow → s.svc.restart = .none →
    (∀ sender payload, c = .restart sender payload → s.Room) → (∀ straps, c ≠ .powerOnReset straps) →
    exec c s = .next t →
    t.svc.straps = s.svc.straps ∧ ∀ p : Part, p ∉ reaches c → p.kept s t

/-- What is latched stays so until the command that clears it: PROTECTION_TRIP, LOCKOUT and WELDED until CLEAR_LOCKOUT (R18,
R139, R145); a fire state of ALARM or later, RELEASED, the container fire flag and the runaway latch until FIRE_RESET (R114,
R117, R61, R107); OUT_OF_SERVICE until RETURN, or WELDED at a failed proving (R144, R128); the configuration set, CONFIG_FAULT, SAFE and
DUPLICATE_ID until a reset (R175, R177, R58); and neither value of the pair rises but at a scan completion (R39, R41). -/
def Obligations.LatchedUntilCleared : Prop :=
  ∀ (c : Instr) (s t : State), c.wf = true → s.Steady → s.DrivesFollow → s.svc.restart = .none →
    (∀ sender payload, c = .restart sender payload → s.Room) → (∀ straps, c ≠ .powerOnReset straps) →
    exec c s = .next t →
    ((∀ sender payload, c ≠ .clearLockout sender payload) →
      (s.env.trip = true → t.env.trip = true)
      ∧ (s.conn.state = .lockout → t.conn.state = .lockout) ∧ (s.conn.state = .welded → t.conn.state = .welded))
    ∧ ((∀ sender payload, c ≠ .fireReset sender payload) →
      (fireAlarmed s.fire.state = true → fireAlarmed t.fire.state = true)
      ∧ (s.fire.state = .released → t.fire.state = .released)
      ∧ (s.peers.containerFire = true → t.peers.containerFire = true) ∧ (s.env.latch = true → t.env.latch = true))
    ∧ ((∀ sender payload, c ≠ .returnRack sender payload) → s.conn.state = .outOfService →
      t.conn.state = .outOfService ∨ (c = .auxWindowExpiry ∧ t.conn.state = .welded))
    ∧ (s.svc.mode ≠ .loading → t.svc.config = s.svc.config)
    ∧ (s.svc.mode = .configFault → t.svc.mode = .configFault) ∧ (s.svc.mode = .safe → t.svc.mode = .safe)
    ∧ (s.svc.duplicateId = true → t.svc.duplicateId = true)
    ∧ ((∀ r, c ≠ .chainReplyArrival r) → c ≠ .chainReplyWaitExpiry → t.env.ec ≤ s.env.ec ∧ t.env.ed ≤ s.env.ed)

/-! ### Invariants that every step keeps -/

/-- A step keeps the thermal table: the states hold exactly under their conditions, heater and valve follow (R87), and the
heat-soak and recovery timers run exactly under theirs (R98, R99). -/
def Obligations.ThermalTableKept : Prop :=
  ∀ s t : State, s.ThermalTable → step s = .next t → t.ThermalTable

/-- A step keeps the contactor drives, windows and timers in line with the connection state (R126, R127). That the
precharge and the leave timer stop at the entry to OPENING is the model's choice (log 39). -/
def Obligations.DrivesFollowKept : Prop :=
  ∀ s t : State, s.DrivesFollow → step s = .next t → t.DrivesFollow

/-- A step keeps the claim unit's signals current, and precharges only under the token (R77, R81, R126). The premise
DrivesFollow is kept by `DrivesFollowKept`. -/
def Obligations.SignalsCurrentKept : Prop :=
  ∀ s t : State, s.SignalsCurrent → s.DrivesFollow → step s = .next t → t.SignalsCurrent

/-- A step keeps the fire unit's outputs and timers in line with the fire state, and the container fire flag set under an
own alarm (the table of 7.4, R115, R60, R61). -/
def Obligations.FireOutputsKept : Prop :=
  ∀ s t : State, s.FireOutputs → step s = .next t → t.FireOutputs

/-- A step keeps the pair within the site cap and IRACK_MAX, and at 0 outside ACTIVE and under fire (R40). -/
def Obligations.EnvelopeWithinKept : Prop :=
  ∀ s t : State, s.EnvelopeWithin → step s = .next t → t.EnvelopeWithin

/-- A step keeps the balance set within its limits and empty unless balancing is eligible, so outside ACTIVE and NORMAL, under
container fire and at own level 3 (R43, R45, R46), with every mask the set's part of its module (R44). -/
def Obligations.BalanceSoundKept : Prop :=
  ∀ s t : State, s.BalanceSound → step s = .next t → t.BalanceSound

/-- A step keeps the claim lists and the peer table proper (R68, R55, R59), and the zone key check as the records show it
(R65). -/
def Obligations.ListsProperKept : Prop :=
  ∀ s t : State, s.ListsProper → step s = .next t → t.ListsProper

/-- A step keeps the transmit queue at 8 entries or fewer, in class order, with one entry on the line at most and one waiting
ANNOUNCE at most (R54, R163). Which of two waiting ANNOUNCE entries goes where one leaves the line is the model's choice
(log 14). -/
def Obligations.QueueSoundKept : Prop :=
  ∀ s t : State, s.QueueSound → step s = .next t → t.QueueSound

/-- The state after reset meets every invariant. -/
def Obligations.ResetMeetsInvariants : Prop :=
  State.reset.Steady ∧ State.reset.ThermalTable ∧ State.reset.DrivesFollow ∧ State.reset.SignalsCurrent
    ∧ State.reset.FireOutputs ∧ State.reset.EnvelopeWithin ∧ State.reset.BalanceSound ∧ State.reset.ListsProper
    ∧ State.reset.QueueSound

/-! ### The frame layer -/

/-- The bytes of the frame that a well-formed link command stands for are received as that command: class, sender, kind,
length, payload and check sequence are all read back (R161, R169, R183); and so are its levels on the line: ten bits a byte with
a dominant start and a recessive stop bit, header byte 1 most significant bit first and every other byte least significant bit
first (R160). -/
def Obligations.FramesReceivedAsSent : Prop :=
  ∀ (i : Instr) (f : Frame), i.wf = true → commandFrame i = some f →
    decodeReceived (encodeFrame f) = i ∧ decodeLevels (frameLevels (encodeFrame f)) = i

/-! ### Reset and configuration -/

/-- POWER_ON_RESET leaves every item at the value that the reset tables give (R20, R52, R67, R86, R102, R125, R148, R159,
R173, R182), with the strap pins read (R174) and reception waiting for the next idle (R173). The model's own are: the result
held for a repeated JOIN_DONE (log 6), the 16 cells and 4 temperatures that stand in every record (log 29), the two cleared
thermal conditions (log 28), the invalid inlet temperature taken (log 37), and that the other input lines and the waiting commands stay (log 32). -/
def Obligations.PowerOnResetValues : Prop :=
  ∀ (straps : StrapPins) (s : State), exec (.powerOnReset straps) s = .next
    { lines := { s.lines with straps := straps }
      chain :=
        { scanTimer := none, owed := false, scan := none
          record := { number := 0, outcome := .none, lastRead := none, notRead := 0, bad := [] }
          sense := { current := 0, stringV := 0, busV := 0, inlet := none, age := 255 }
          modules := List.replicate 12
            { cells := List.replicate 16 0, temps := List.replicate 4 none, age := 255, mask := [] }
          vmin := 0, vmax := 0, tmin := 0, tmax := 0
          dataLoss := true, tempLoss := true, chainBreak := false, staleLeave := true }
      env :=
        { ec := 0, ed := 0, cellTrips := List.replicate 12 0, overCount := 0, trip := false, runawayTimer := none
          ring := [], riseFlag := false, latch := false }
      balance := { members := [], taken := none }
      peers := { apTimer := none, table := [], containerFire := false, containerLevel := 0, zoneKey := false }
      claims :=
        { join := { entries := [], own := .notClaimed, requeue := false }
          heat := { entries := [], own := .notClaimed, requeue := false }
          doneResult := .ok, tokenHeld := false, slotHeld := false, headTimer := none, hold := .stopped, limit := 0 }
      thermal :=
        { state := .idle, level := 0, demand := false, heater := false, valve := false, pump1 := false, pump2 := false
          chillerRun := false, degraded := false, inlet := none, soakCond := false, recoveryCond := false, soakTimer := none
          recoveryTimer := none }
      fire :=
        { loopTimer := none, loopS := { state := .normal, pendingClass := none, count := 0 }
          loopH := { state := .normal, pendingClass := none, count := 0 }, loopTrouble := false, serviceKey := false
          state := .normal, countdown := none, census := .idle, repeatTimer := none, release := false, fireLine := false
          tripLine := false }
      conn :=
        { state := .openRack, posDrive := false, negDrive := false, preDrive := false, proving := .notDone, failCount := 0
          failHold := none, prechTimer := none, leaveTimer := none, window := none, check := .none, dest := none
          mismatch := false, prechFail := false }
      grid := { state := .down, reconnect := none, breakerHold := false, permit := false }
      link := { queue := [], headerErrors := 0, reception := .untilIdle, census := none, congestion := false }
      svc :=
        { mode := .loading, straps := straps, config := none, apCount := 0, joinHeld := false, gatewayCensus := none
          restart := .none, duplicateId := false, configFaultFlag := false, siteCap := 0 }
      pending := s.pending }

/-- CONFIG_LOAD from LOADING with an image that passes: LISTENING, the set held, the site cap at IRACK_MAX, L at
HEAT_LIMIT_ISLAND, the first scan started, the timers of R4, R53, R103 and R106 running, the key, chiller-fault and
grid-healthy levels taken (R109, R98, R150), the thermal controller INHIBITED (R88) and one ANNOUNCE queued (R54). -/
def Obligations.ConfigLoadAccepted : Prop :=
  ∀ (lines : Lines) (waiting : List Instr) (r : Reception) (image : List Byte) (c : ConfigSet),
    loadImage image = some c →
    let s := { State.resetWith lines waiting with
      link := { queue := [], headerErrors := 0, reception := r, census := none, congestion := false } }
    exec (.configLoad image) s = .next
      { s with
        svc := { s.svc with mode := .listening, config := some c, siteCap := c.irackMax }
        claims := { s.claims with limit := c.heatLimitIsland }
        chain := { s.chain with
          scanTimer := some 100
          scan := some { position := 0, tryNo := 1, replied := false, command := [], good := [], bad := [] } }
        env := { s.env with runawayTimer := some 1000 }
        peers := { s.peers with apTimer := some (c.ap * 50) }
        fire := { s.fire with loopTimer := some 100, serviceKey := lines.key }
        thermal := { s.thermal with state := .inhibited, valve := true, degraded := lines.chillerFault }
        grid := { s.grid with
          state := if lines.gridHealthy then .returning else .down
          reconnect := if lines.gridHealthy then some (if c.reconnect = 0 then 1800000 else c.reconnect * 5000) else none }
        link := { s.link with queue := [announceFrame] } }

/-- CONFIG_LOAD from LOADING with an image that is refused: CONFIG_FAULT with its flag set, the announcement period 250 ms
(R53, R175, R177). That in every other mode CONFIG_LOAD has no effect is the model's choice (log 23). -/
def Obligations.ConfigLoadRefused : Prop :=
  (∀ (lines : Lines) (waiting : List Instr) (r : Reception) (image : List Byte), loadImage image = none →
    let s := { State.resetWith lines waiting with
      link := { queue := [], headerErrors := 0, reception := r, census := none, congestion := false } }
    exec (.configLoad image) s = .next
      { s with
        svc := { s.svc with mode := .configFault, configFaultFlag := true }
        peers := { s.peers with apTimer := some 250 }
        fire := { s.fire with loopTimer := some 100, serviceKey := lines.key }
        thermal := { s.thermal with state := .inhibited, valve := true }
        link := { s.link with queue := [announceFrame] } })
  ∧ ∀ (s : State) (image : List Byte), s.Steady → s.svc.mode ≠ .loading → exec (.configLoad image) s = .next s

/-- An image is accepted exactly when it was acknowledged whole, its checksum matches and every field meets its range and order
(R175, R23, R50, R101, R124), and the set it leaves holds each field as read from its offset in the table of 11.6, with the
three corrections: CH_TRIM clamped to the interval from 3000 − VCH_LIM to 4400 − VCH_LIM (R24), TABLE_R lowered to TABLE_N value by
value (R25), HEAT_LIMIT_ISLAND lowered to HEAT_LIMIT_GRID (R80); L′ and P′ are the trimmed limit and taper start (R24). So the
trimmed ceiling of an accepted image lies between 3000 and 4400 mV, and its taper keeps its width of 10 mV or more (R24). -/
def Obligations.AcceptedImageValues : Prop :=
  (∀ image : List Byte,
    let u8 := fun o : Nat => (image.getD o 0).toNat
    let s8 := fun o : Nat => (image.getD o 0).toInt
    let u16 := fun o : Nat => 256 * u8 o + u8 (o + 1)
    let s16 := fun o : Nat => if u16 o < 32768 then (u16 o : Int) else (u16 o : Int) - 65536
    let row := fun o : Nat => BandRow.mk (u16 o) (u16 (o + 2)) (u16 (o + 4)) (u16 (o + 6))
    let lowered := fun n r : BandRow => BandRow.mk (min r.a n.a) (min r.b n.b) (min r.c n.c) (min r.d n.d)
    let trim : Int := max (3000 - (u16 3 : Int)) (min (4400 - (u16 3 : Int)) (s16 7))
    let ok := 80 ≤ image.length ∧ u16 78 = ((image.take 78).map (·.toNat)).sum % 65536
      ∧ (1 ≤ u8 0 ∧ u8 0 ≤ 12) ∧ (8 ≤ u8 1 ∧ u8 1 ≤ 16) ∧ (2 ≤ u8 2 ∧ u8 2 ≤ 4)
      ∧ (3000 ≤ u16 3 ∧ u16 3 ≤ 4400) ∧ (2990 ≤ u16 5 ∧ u16 5 ≤ u16 3 - 10) ∧ (-255 ≤ s16 7 ∧ s16 7 ≤ 255)
      ∧ (2000 ≤ u16 9 ∧ u16 9 ≤ 3400) ∧ (u16 9 + 10 ≤ u16 11 ∧ u16 11 ≤ 3600)
      ∧ (-40 ≤ s8 13 ∧ s8 13 < s8 14 ∧ s8 14 < s8 15 ∧ s8 15 ≤ 125)
      ∧ (∀ k, k < 16 → u16 (16 + 2 * k) ≤ 500)
      ∧ (1 ≤ u16 48 ∧ u16 48 ≤ 500) ∧ (1 ≤ u8 50 ∧ u8 50 ≤ 100)
      ∧ (u16 3 + 1 ≤ u16 51 ∧ u16 51 ≤ 4500) ∧ (1500 ≤ u16 53 ∧ u16 53 ≤ u16 9 - 1) ∧ (40 ≤ u8 55 ∧ u8 55 ≤ 90)
      ∧ (-40 ≤ s8 56 ∧ s8 56 < s8 57 ∧ s8 57 ≤ 30)
      ∧ (15 ≤ u8 58 ∧ u8 58 < u8 59 ∧ u8 59 < u8 60 ∧ u8 60 ≤ 60) ∧ (10 ≤ u8 61 ∧ u8 61 ≤ 50)
      ∧ u8 62 ≤ 16 ∧ u8 63 ≤ 16 ∧ (1 ≤ u8 64 ∧ u8 64 ≤ 60)
      ∧ (5 ≤ u8 65 ∧ u8 65 ≤ 250) ∧ (2000 ≤ u16 66 ∧ u16 66 ≤ 4400) ∧ u8 68 ≤ 20
      ∧ (1 ≤ u8 69 ∧ u8 69 ≤ 20) ∧ (1 ≤ u8 70 ∧ u8 70 ≤ 10) ∧ (1 ≤ u8 71 ∧ u8 71 ≤ 20) ∧ (1 ≤ u8 72 ∧ u8 72 ≤ 50)
      ∧ u8 74 ≤ 60 ∧ (5 ≤ u8 75 ∧ u8 75 ≤ 30) ∧ (2 ≤ u8 76 ∧ u8 76 ≤ 20) ∧ u8 77 ≤ 1
    (¬ok → loadImage image = none)
    ∧ (ok → loadImage image = some
      { modules := u8 0, cells := u8 1, tsens := u8 2, vchLim := u16 3, vchTap := u16 5, chTrim := trim
        vdsLim := u16 9, vdsTap := u16 11, ta := s8 13, tb := s8 14, tc := s8 15
        tableN := { charge := row 16, discharge := row 24 }
        tableR := { charge := lowered (row 16) (row 32), discharge := lowered (row 24) (row 40) }
        irackMax := u16 48, ramp := u8 50, vtripHi := u16 51, vtripLo := u16 53, ttrip := u8 55
        thOn := s8 56, thOff := s8 57, tc1 := u8 58, tc2 := u8 59, tc3 := u8 60, inletLim := u8 61
        heatLimitGrid := u8 62, heatLimitIsland := min (u8 63) (u8 62), heatHold := u8 64
        balWindow := u8 65, balFloor := u16 66, balCurrent := u8 68, matchWindow := u8 69, prechDone := u8 70
        prechMax := u8 71, leaveCurrent := u8 72, reconnect := u8 73, releaseDelay := u8 74, runawayRise := u8 75
        ap := u8 76, retriesOff := u8 77 == 1, lPrime := u16 3 + trim, pPrime := u16 5 + trim }))
  ∧ ∀ (image : List Byte) (c : ConfigSet), loadImage image = some c →
    80 ≤ image.length
    ∧ imgU16 image 78 = ((image.take 78).map (·.toNat)).sum % 65536
    ∧ (1 ≤ c.modules ∧ c.modules ≤ 12) ∧ (8 ≤ c.cells ∧ c.cells ≤ 16) ∧ (2 ≤ c.tsens ∧ c.tsens ≤ 4)
    ∧ (c.lPrime = c.vchLim + c.chTrim ∧ c.pPrime = c.vchTap + c.chTrim)
    ∧ (3000 ≤ c.lPrime ∧ c.lPrime ≤ 4400 ∧ 10 ≤ c.lPrime - c.pPrime)
    ∧ c.vdsLim + 10 ≤ c.vdsTap
    ∧ (c.ta < c.tb ∧ c.tb < c.tc) ∧ (c.tc1 < c.tc2 ∧ c.tc2 < c.tc3) ∧ c.thOn < c.thOff
    ∧ (c.tableR.charge.a ≤ c.tableN.charge.a ∧ c.tableR.charge.b ≤ c.tableN.charge.b
      ∧ c.tableR.charge.c ≤ c.tableN.charge.c ∧ c.tableR.charge.d ≤ c.tableN.charge.d
      ∧ c.tableR.discharge.a ≤ c.tableN.discharge.a ∧ c.tableR.discharge.b ≤ c.tableN.discharge.b
      ∧ c.tableR.discharge.c ≤ c.tableN.discharge.c ∧ c.tableR.discharge.d ≤ c.tableN.discharge.d)
    ∧ c.heatLimitIsland ≤ c.heatLimitGrid ∧ c.heatLimitGrid ≤ 16
    ∧ (1 ≤ c.irackMax ∧ c.irackMax ≤ 500) ∧ (1 ≤ c.ramp ∧ c.ramp ≤ 100)

/-! ### The module chain -/

/-- SCAN_INTERVAL_EXPIRY with the timer running starts a scan at position 0 when none runs, and owes one when one runs
(R4, R5). That with the timer stopped it has no effect is the model's choice (log 1). -/
def Obligations.ScanIntervalStartsOrOwes : Prop :=
  ∀ s : State, s.Steady →
    (s.chain.scanTimer ≠ none → s.chain.scan = none →
      exec .scanIntervalExpiry s = .next { s with chain := { s.chain with
        scan := some { position := 0, tryNo := 1, replied := false, command := [], good := [], bad := [] } } })
    ∧ (s.chain.scanTimer ≠ none → s.chain.scan ≠ none →
      exec .scanIntervalExpiry s = .next { s with chain := { s.chain with owed := true } })
    ∧ (s.chain.scanTimer = none → exec .scanIntervalExpiry s = .next s)

/-- CHAIN_REPLY_ARRIVAL with a good reply ahead of the last position, its check code computed over its other bytes (R1): the
record is replaced whole with its age 0, and the transaction to the next position begins with the mask in force of that position
(R2, R3, R7, R8). What is stored saturates: temperatures to −40 to +125 °C, the current to −500.0 to +500.0 A, a voltage to 0 to
1500.0 V; an open or shorted sensor is invalid (R7, R8). What values the bytes stand for is the command's operand (log 13). -/
def Obligations.GoodReplyStored : Prop :=
  (∀ (s : State) (c : ConfigSet) (r : ScanRun) (bytes : List Byte) (cells : List Nat) (temps : List TempReading), s.Steady →
    s.svc.config = some c → s.chain.scan = some r → r.position ≠ 0 → r.position < c.modules →
    cells.length = c.cells → temps.length = c.tsens →
    exec (.chainReplyArrival
        { check := crc16 bytes, bytes := bytes, position := r.position, body := .module cells temps }) s = .next
      { s with chain := { s.chain with
        modules := s.chain.modules.modify (r.position - 1) (fun m =>
          { m with cells := cells.map (fun v => min v 5000), temps := temps.map storeTemp, age := 0 })
        scan := some
          { position := r.position + 1, tryNo := 1, replied := false
            command := (s.moduleRecord (r.position + 1)).mask, good := r.good ++ [r.position], bad := r.bad } } })
  ∧ (∀ (s : State) (c : ConfigSet) (r : ScanRun) (bytes : List Byte) (current stringV busV : Int) (inlet : TempReading),
    s.Steady → s.svc.config = some c → s.chain.scan = some r → r.position = 0 → 0 < c.modules →
    exec (.chainReplyArrival
        { check := crc16 bytes, bytes := bytes, position := 0, body := .rackSense current stringV busV inlet }) s = .next
      { s with chain := { s.chain with
        sense :=
          { current := storeCurrent current, stringV := storeVoltage stringV, busV := storeVoltage busV
            inlet := storeTemp inlet, age := 0 }
        scan := some
          { position := 1, tryNo := 1, replied := false, command := (s.moduleRecord 1).mask
            good := r.good ++ [0], bad := r.bad } } })
  ∧ (∀ x : Int, storeTemp (.value x) = some (max (-40) (min 125 x)))
  ∧ storeTemp .openSensor = none ∧ storeTemp .shortedSensor = none
  ∧ (∀ i : Int, storeCurrent i = max (-5000) (min 5000 i))
  ∧ ∀ v : Int, (storeVoltage v : Int) = max 0 (min 15000 v)

/-- A try that ends with a bad check or with no reply is followed by the next try while the transaction has tries left
(three, or one with RETRIES_OFF); a bad check marks that a reply came. A reply is a bad check when its check code does not match
or it has not the number of values of its position (R2; that this is judged by the responding position is an inference, log 13). When the last try is spent and a reply came in it or in an earlier one,
the position is entered as bad and the scan goes on (R3). Each try's request carries the position, the balance command and the
check code over its other bytes (R1), whose layout is free (log 13). -/
def Obligations.FailedTriesRetried : Prop :=
  ∀ (s : State) (c : ConfigSet) (r : ScanRun), s.Steady → s.svc.config = some c → s.chain.scan = some r →
    s.chainRequest = some { position := r.position, command := r.command,
                            check := crc16 (Config.chainRequestBytes r.position r.command) }
    ∧ (r.tryNo < triesOf c →
      exec .chainReplyWaitExpiry s =
          .next { s with chain := { s.chain with scan := some { r with tryNo := r.tryNo + 1 } } }
      ∧ ∀ reply : ChainReply, badReply c reply →
        exec (.chainReplyArrival reply) s =
          .next { s with chain := { s.chain with scan := some { r with tryNo := r.tryNo + 1, replied := true } } })
    ∧ (triesOf c ≤ r.tryNo → r.position < c.modules →
      let next := { s with chain := { s.chain with
        scan := some
          { position := r.position + 1, tryNo := 1, replied := false
            command := (s.moduleRecord (r.position + 1)).mask, good := r.good, bad := r.bad ++ [r.position] } } }
      (r.replied = true → exec .chainReplyWaitExpiry s = .next next)
      ∧ ∀ reply : ChainReply, badReply c reply → exec (.chainReplyArrival reply) s = .next next)

/-- A transaction whose last try ends with no reply at all, and a fitting reply from another position, end the scan TERMINATED
at its position p: the scan record is written whole (R6), the age of a position read GOOD stays and any other rises to at
most 255 (R9), CHAIN_BREAK is set (R14), DATA_LOSS and the stale-data leave condition follow the ages (R10, R11), TEMP_LOSS the
valid sensors (R12), the aggregates the records of age 3 or less (R13), and an owed scan starts (R4). It is handed on like any
completion: trips and pair (R22), the balance set (R47), the thermal controller (R91), the sequencer's tests (R129, R135, R143).
That a reply fits by its responding position is an inference (log 13); that Tmin and Tmax follow the valid sensors under TEMP_LOSS
too, as R13 has it against R45, R91 and R106, is the model's choice (log 36). -/
def Obligations.TerminatedScanRecord : Prop :=
  ∀ (s : State) (c : ConfigSet) (r : ScanRun) (i : Instr), s.svc.config = some c → s.chain.scan = some r →
    s.svc.restart = .none → r.position ≤ c.modules →
    (i = .chainReplyWaitExpiry ∧ triesOf c ≤ r.tryNo ∧ r.replied = false
      ∨ ∃ reply : ChainReply, i = .chainReplyArrival reply ∧ ¬badReply c reply ∧ reply.position ≠ r.position) →
    ∃ t, exec i s = .next t
      ∧ t.chain.record =
        { number := (s.chain.record.number + 1) % 65536
          outcome := .terminated
          lastRead := if r.position = 0 then none else some (r.position - 1)
          notRead := c.modules + 1 - r.position
          bad := r.bad }
      ∧ t.chain.chainBreak = true
      ∧ s.ChainCompleted t c r.good ∧ s.HandedOn t c r.good

/-- The transaction to the last position completes the scan, by its good reply or by a last try that leaves it CHECK_FAIL:
COMPLETE, or COMPLETE_WITH_BAD with a bad position (R3, R5, R6), CHAIN_BREAK clear (R14); ages, flags and aggregates follow
the replies (R9 to R13). The trips are judged against the pair that was in force (R16, R17, R22), the new pair is the ramp from it
to the targets of this completion (R22, R39, R40), the balance set is rebuilt (R47), the thermal controller takes the completion
(R91, R93), and the sequencer makes its tests (R129, R135, R143), in the order of R15.
That a reply fits by its responding position is an inference (log 13); that Tmin and Tmax follow the valid sensors under TEMP_LOSS
too, as R13 has it against R45, R91 and R106, is the model's choice (log 36). -/
def Obligations.CompletedScanEvaluates : Prop :=
  ∀ (s u : State) (c : ConfigSet) (r : ScanRun) (i : Instr) (goods bad : List Nat), s.svc.config = some c →
    s.chain.scan = some r → s.svc.restart = .none → r.position = c.modules →
    ((∃ reply : ChainReply, i = .chainReplyArrival reply ∧ ¬badReply c reply ∧ reply.position = r.position
        ∧ u = s.storeReply r.position reply.body ∧ goods = r.good ++ [r.position] ∧ bad = r.bad)
      ∨ triesOf c ≤ r.tryNo ∧ u = s ∧ goods = r.good ∧ bad = r.bad ++ [r.position]
        ∧ (i = .chainReplyWaitExpiry ∧ r.replied = true ∨ ∃ reply, i = .chainReplyArrival reply ∧ badReply c reply)) →
    ∃ t, exec i s = .next t
      ∧ t.chain.record =
        { number := (s.chain.record.number + 1) % 65536
          outcome := if bad = [] then .complete else .completeWithBad
          lastRead := some c.modules, notRead := 0, bad := bad }
      ∧ t.chain.chainBreak = false
      ∧ u.ChainCompleted t c goods ∧ u.HandedOn t c goods

/-! ### The envelope -/

/-- R28: a temperature exactly at a threshold belongs to the band above it, and the entry is that of the band. -/
def Obligations.BandOfTemperature : Prop :=
  ∀ (c : ConfigSet) (row : BandRow) (t : Int), c.ta < c.tb → c.tb < c.tc →
    (t < c.ta → bandEntry c row t = row.a)
    ∧ (c.ta ≤ t ∧ t < c.tb → bandEntry c row t = row.b)
    ∧ (c.tb ≤ t ∧ t < c.tc → bandEntry c row t = row.c)
    ∧ (c.tc ≤ t → bandEntry c row t = row.d)

/-- R32 and R33: the charge taper between P′ and L′ and the discharge taper between VDS_LIM and VDS_TAP, each rounded
down. A reading saturated at 5000 mV lies above any L′ and gives 0. -/
def Obligations.TapersRoundDown : Prop :=
  (∀ (c : ConfigSet) (base vmax : Nat), c.pPrime < c.lPrime →
    ((vmax : Int) ≤ c.pPrime → taperCharge c base vmax = base)
    ∧ (c.lPrime ≤ (vmax : Int) → taperCharge c base vmax = 0)
    ∧ (c.pPrime < (vmax : Int) ∧ (vmax : Int) < c.lPrime →
      (taperCharge c base vmax : Int) = (base : Int) * (c.lPrime - vmax) / (c.lPrime - c.pPrime))
    ∧ (c.lPrime ≤ 4400 → taperCharge c base 5000 = 0))
  ∧ ∀ (c : ConfigSet) (base vmin : Nat), c.vdsLim < c.vdsTap →
    (c.vdsTap ≤ vmin → taperDischarge c base vmin = base)
    ∧ (vmin ≤ c.vdsLim → taperDischarge c base vmin = 0)
    ∧ (c.vdsLim < vmin ∧ vmin < c.vdsTap →
      (taperDischarge c base vmin : Int) = (base : Int) * (vmin - c.vdsLim) / (c.vdsTap - c.vdsLim))

/-- The targets: the base of the two bands under the selected table (R29 to R31), tapered, capped by IRACK_MAX and the site
cap (R34), forced to 0 (R35, R36) or halved, rounded down, in PRE_ALARM (R37). -/
def Obligations.TargetsOfAnEvaluation : Prop :=
  ∀ (s : State) (c : ConfigSet),
    let table := if s.thermal.degraded = true then c.tableR else c.tableN
    let xc := min (taperCharge c (min (bandEntry c table.charge s.chain.tmin) (bandEntry c table.charge s.chain.tmax))
      s.chain.vmax) (min c.irackMax s.svc.siteCap)
    let xd := min (taperDischarge c
      (min (bandEntry c table.discharge s.chain.tmin) (bandEntry c table.discharge s.chain.tmax)) s.chain.vmin)
      (min c.irackMax s.svc.siteCap)
    let forced := s.svc.mode ≠ .active ∨ fireAlarmed s.fire.state = true ∨ s.peers.containerFire = true
      ∨ s.chain.dataLoss = true ∨ s.chain.tempLoss = true ∨ s.env.trip = true
    (forced → s.chargeTarget c = 0 ∧ s.dischargeTarget c = 0)
    ∧ (¬forced → s.fire.state = .preAlarm → s.chargeTarget c = xc / 2 ∧ s.dischargeTarget c = xd / 2)
    ∧ (¬forced → s.fire.state = .normal → s.chargeTarget c = xc ∧ s.dischargeTarget c = xd)

/-- R39: a value rises by at most RAMP toward its target and falls to it at once, charge and discharge each from its own
previous value. -/
def Obligations.RampRisesSlowlyFallsAtOnce : Prop :=
  ∀ (s : State) (c : ConfigSet),
    (s.env.ec < s.chargeTarget c → (s.evaluatePair c).env.ec = min (s.chargeTarget c) (s.env.ec + c.ramp))
    ∧ (s.chargeTarget c ≤ s.env.ec → (s.evaluatePair c).env.ec = s.chargeTarget c)
    ∧ (s.env.ed < s.dischargeTarget c → (s.evaluatePair c).env.ed = min (s.dischargeTarget c) (s.env.ed + c.ramp))
    ∧ (s.dischargeTarget c ≤ s.env.ed → (s.evaluatePair c).env.ed = s.dischargeTarget c)

/-- The trips at a completion: the overcurrent count against 11 × Ed + 50 and 11 × Ec + 50 (R17), a module's cell trip count
(R16), PROTECTION_TRIP set exactly when it was set or a count reaches its limit, 3 or 30, at this completion (R16 to R18); the
pair and the records are not touched. -/
def Obligations.TripCountsJudged : Prop :=
  ∀ (s : State) (c : ConfigSet) (goods : List Nat),
    let exceeds := 11 * (s.env.ed : Int) + 50 < s.chain.sense.current ∨ 11 * (s.env.ec : Int) + 50 < -s.chain.sense.current
    let beyond := fun p : Nat => (∃ v ∈ (s.moduleRecord p).cells, c.vtripHi < v ∨ v < c.vtripLo)
      ∨ ∃ x, some x ∈ (s.moduleRecord p).temps ∧ c.ttrip ≤ x
    let t := s.judgeTrips c goods
    (0 ∉ goods → t.env.overCount = s.env.overCount)
    ∧ (0 ∈ goods → exceeds → t.env.overCount = min (s.env.overCount + 1) 30)
    ∧ (0 ∈ goods → ¬exceeds → t.env.overCount = 0)
    ∧ (∀ p n, 1 ≤ p → p ≤ c.modules → s.env.cellTrips[p - 1]? = some n →
      (p ∉ goods → t.env.cellTrips[p - 1]? = some n)
      ∧ (p ∈ goods → beyond p → t.env.cellTrips[p - 1]? = some (min (n + 1) 3))
      ∧ (p ∈ goods → ¬beyond p → t.env.cellTrips[p - 1]? = some 0))
    ∧ (∀ p, c.modules < p → t.env.cellTrips[p - 1]? = s.env.cellTrips[p - 1]?)
    ∧ (t.env.trip = true ↔ s.env.trip = true ∨ (s.env.overCount ≠ 30 ∧ t.env.overCount = 30)
      ∨ ∃ k n : Nat, s.env.cellTrips[k]? = some n ∧ n ≠ 3 ∧ t.env.cellTrips[k]? = some 3)
    ∧ t.env.ec = s.env.ec ∧ t.env.ed = s.env.ed ∧ t.chain = s.chain

/-! ### Balancing -/

/-- The rebuild of the balance set. Eligible means the seven conditions of R45; not eligible, the set is empty (R47). Eligible, a
member stays whose module has age 0 and whose V − Vmin is at least BAL_WINDOW − 3 (R48), and every other member is a cell whose
module has age 0, V − Vmin at least BAL_WINDOW and V at least BAL_FLOOR (R49). The limits of R43 hold. A cell that could join is
left out only where the set holds 8, or its module 2, members that each stayed or come before it: by higher V, then by lower
position, then by lower cell index (R49). -/
def Obligations.BalanceRebuild : Prop :=
  ∀ (s : State) (c : ConfigSet) (x : BalanceInputs),
    let eligible := s.svc.mode = .active ∧ s.fire.state = .normal ∧ s.peers.containerFire = false ∧ s.thermal.level < 3
      ∧ (x.current ≤ 10 * c.balCurrent ∧ -(10 * c.balCurrent : Int) ≤ x.current) ∧ x.tmax < c.tc ∧ x.dataLoss = false
    let volts := fun m : Nat × Nat => (s.moduleRecord m.1).cells.getD (m.2 - 1) 0
    let above := fun m : Nat × Nat => (volts m : Int) - s.chain.vmin
    let isCell := fun m : Nat × Nat => 1 ≤ m.1 ∧ m.1 ≤ c.modules ∧ 1 ≤ m.2 ∧ m.2 ≤ c.cells
    let stays := fun m : Nat × Nat => m ∈ s.balance.members ∧ (s.moduleRecord m.1).age = 0 ∧ (c.balWindow : Int) - 3 ≤ above m
    let joins := fun m : Nat × Nat => isCell m ∧ (s.moduleRecord m.1).age = 0 ∧ (c.balWindow : Int) ≤ above m
      ∧ c.balFloor ≤ volts m
    let before := fun y m : Nat × Nat => volts m < volts y ∨ (volts m = volts y ∧ (y.1 < m.1 ∨ (y.1 = m.1 ∧ y.2 < m.2)))
    let t := s.rebuilt c x
    (¬eligible → t = [])
    ∧ (eligible → s.balance.members.Nodup → s.balance.members.length ≤ 8 →
      (∀ p, (s.balance.members.filter (fun m => m.1 == p)).length ≤ 2) → (∀ m ∈ s.balance.members, isCell m) →
      (∀ m, stays m → m ∈ t)
      ∧ (∀ m ∈ t, stays m ∨ joins m)
      ∧ t.Nodup ∧ t.length ≤ 8
      ∧ (∀ p, (t.filter (fun m => m.1 == p)).length ≤ 2)
      ∧ ∀ m, joins m → m ∉ t →
        (t.length = 8 ∧ ∀ y ∈ t, stays y ∨ before y m)
        ∨ ((t.filter (fun y => y.1 == m.1)).length = 2 ∧ ∀ y ∈ t, y.1 = m.1 → stays y ∨ before y m))

/-! ### Thermal control -/

/-- R91: the new level is the highest k that qualifies, with a hysteresis of 2 °C for a level already held; with TEMP_LOSS
set the level may rise by the same test and does not fall. At a scan completion outside INHIBITED: the level of R91; level 1 or
more gives COOLING and ends demand (R92, R93); level 0 judges demand (R93) and gives IDLE without it, HEAT_WAIT where it
begins, and the same state where it goes on (R94). In INHIBITED level, demand and state stay (R89). Where demand begins or goes
on, the own heater claim is asked for, and where it ends it is given back: HEAT_CLAIM is queued from NOT_CLAIMED and HEAT_RELEASE
from LISTED, and the marks follow in the other own claim states (R94, R71, R72). The completion takes the inlet temperature (R15,
log 37), judges the heat-soak and the recovery condition, and starts, keeps or stops their timers (R98, R99). -/
def Obligations.LevelAndDemandAtCompletion : Prop :=
  (∀ (s : State) (c : ConfigSet), c.tc1 < c.tc2 → c.tc2 < c.tc3 → s.thermal.level ≤ 3 →
      let qualifies := fun (k : Nat) (threshold : Int) =>
        threshold ≤ s.chain.tmax ∨ (k ≤ s.thermal.level ∧ threshold - 2 ≤ s.chain.tmax)
      (s.chain.tempLoss = false →
        (qualifies 3 c.tc3 → s.nextLevel c = 3)
        ∧ (¬qualifies 3 c.tc3 → qualifies 2 c.tc2 → s.nextLevel c = 2)
        ∧ (¬qualifies 3 c.tc3 → ¬qualifies 2 c.tc2 → qualifies 1 c.tc1 → s.nextLevel c = 1)
        ∧ (¬qualifies 3 c.tc3 → ¬qualifies 2 c.tc2 → ¬qualifies 1 c.tc1 → s.nextLevel c = 0))
      ∧ (s.chain.tempLoss = true →
        (qualifies 3 c.tc3 → s.nextLevel c = 3)
        ∧ (¬qualifies 3 c.tc3 → qualifies 2 c.tc2 → s.nextLevel c = max s.thermal.level 2)
        ∧ (¬qualifies 3 c.tc3 → ¬qualifies 2 c.tc2 → qualifies 1 c.tc1 → s.nextLevel c = max s.thermal.level 1)
        ∧ (¬qualifies 3 c.tc3 → ¬qualifies 2 c.tc2 → ¬qualifies 1 c.tc1 → s.nextLevel c = s.thermal.level)))
  ∧ ∀ (s : State) (c : ConfigSet), s.ThermalTable →
      let t := s.thermalCompletion c
      let begins := s.chain.tempLoss = false ∧ s.chain.tmin < c.thOn ∧ s.chain.tmax < c.tc1
      let ends := c.thOff ≤ s.chain.tmin ∨ s.chain.tempLoss = true
      (s.thermal.state = .inhibited →
        t.thermal.state = .inhibited ∧ t.thermal.level = s.thermal.level ∧ t.thermal.demand = false)
      ∧ (s.thermal.state ≠ .inhibited → t.thermal.level = s.nextLevel c
        ∧ (s.nextLevel c ≠ 0 → t.thermal.state = .cooling ∧ t.thermal.demand = false ∧ t.thermal.heater = false
          ∧ t.thermal.valve = true)
        ∧ (s.nextLevel c = 0 →
          (s.thermal.demand = true → ends → t.thermal.state = .idle ∧ t.thermal.demand = false)
          ∧ (s.thermal.demand = true → ¬ends → t.thermal.state = s.thermal.state ∧ t.thermal.demand = true)
          ∧ (s.thermal.demand = false → begins → t.thermal.state = .heatWait ∧ t.thermal.demand = true)
          ∧ (s.thermal.demand = false → ¬begins → t.thermal.state = .idle ∧ t.thermal.demand = false)))
      ∧ (let asks := s.thermal.state ≠ .inhibited ∧ s.nextLevel c = 0
            ∧ ((s.thermal.demand = true ∧ ¬ends) ∨ (s.thermal.demand = false ∧ begins))
        let gives := s.thermal.state ≠ .inhibited ∧ s.thermal.demand = true ∧ (s.nextLevel c ≠ 0 ∨ ends)
        let own := s.claims.heat.own
        let becomes := fun o : OwnClaim => t.claims.heat = { s.claims.heat with own := o }
        (asks → s.svc.mode = .active → s.Room →
          (own = .notClaimed → becomes (.claimQueued false) ∧ t.link.queue = insertByClass heatClaimFrame s.link.queue)
          ∧ (own = .listed → becomes .listed ∧ t.link = s.link)
          ∧ ∀ mark, (own = .claimQueued mark → becomes (.claimQueued false) ∧ t.link = s.link)
            ∧ (own = .releaseQueued mark → becomes (.releaseQueued true) ∧ t.link = s.link))
        ∧ (gives → s.Room →
          (own = .notClaimed → becomes .notClaimed ∧ t.link = s.link)
          ∧ (own = .listed → becomes (.releaseQueued false) ∧ t.claims.slotHeld = false
            ∧ t.link.queue = insertByClass heatReleaseFrame s.link.queue)
          ∧ ∀ mark, (own = .claimQueued mark → becomes (.claimQueued true) ∧ t.link = s.link)
            ∧ (own = .releaseQueued mark → becomes (.releaseQueued false) ∧ t.link = s.link))
        ∧ (¬asks → ¬gives → t.claims = s.claims ∧ t.link = s.link))
      ∧ t.thermal.inlet = s.chain.sense.inlet ∧ t.thermal.degraded = s.thermal.degraded
      ∧ (s.svc.config = some c →
        let soak := t.thermal.level = 3 ∧ ∃ x, s.chain.sense.inlet = some x ∧ c.inletLim ≤ x
        let recovers := s.lines.chillerFault = false ∧ ∃ x, s.chain.sense.inlet = some x ∧ x < c.inletLim - 3
        (t.thermal.soakCond = true ↔ soak) ∧ (t.thermal.recoveryCond = true ↔ recovers)
        ∧ (s.thermal.degraded = false → soak → t.thermal.soakTimer = some (s.thermal.soakTimer.getD 600000))
        ∧ (s.thermal.degraded = true ∨ ¬soak → t.thermal.soakTimer = none)
        ∧ (s.thermal.degraded = true → recovers → t.thermal.recoveryTimer = some (s.thermal.recoveryTimer.getD 300000))
        ∧ (s.thermal.degraded = false ∨ ¬recovers → t.thermal.recoveryTimer = none))

/-- CHILLER_FAULT_INPUT_CHANGE, HEAT_SOAK_EXPIRY and RECOVERY_EXPIRY: an assertion sets COOLING_DEGRADED and clears both
timers; a release starts the recovery timer (5 min) or leaves it running while the valid inlet that the last completion took
stands below INLET_LIM − 3 (log 37); the heat-soak expiry sets the flag and the recovery expiry clears it; outside the
scanning modes only the line's level changes (R98 to R100). A timer that starts where the flag changes follows its condition
as last judged (an inference, log 28), and that an expiry without its timer has no effect is the model's choice (log 1). -/
def Obligations.DegradedCoolingEvents : Prop :=
  ∀ s : State, s.Steady →
    (∀ c, s.svc.config = some c → scanningMode s.svc.mode = true →
      exec (.chillerFaultInputChange true) s = .next { s with
        lines := { s.lines with chillerFault := true }
        thermal := { s.thermal with degraded := true, recoveryCond := false, soakTimer := none, recoveryTimer := none } }
      ∧ let cool := s.thermal.inlet.any (fun t => t < c.inletLim - 3)
        exec (.chillerFaultInputChange false) s = .next { s with
          lines := { s.lines with chillerFault := false }
          thermal := { s.thermal with
            recoveryCond := cool
            soakTimer := if !s.thermal.degraded && s.thermal.soakCond then some (s.thermal.soakTimer.getD 600000) else none
            recoveryTimer := if s.thermal.degraded && cool then some (s.thermal.recoveryTimer.getD 300000) else none } })
    ∧ (∀ b, scanningMode s.svc.mode = false →
      exec (.chillerFaultInputChange b) s = .next { s with lines := { s.lines with chillerFault := b } })
    ∧ (s.thermal.soakTimer ≠ none → exec .heatSoakExpiry s = .next { s with
        thermal := { s.thermal with
          degraded := true, soakTimer := none
          recoveryTimer := if s.thermal.recoveryCond then some (s.thermal.recoveryTimer.getD 300000) else none } })
    ∧ (s.thermal.soakTimer = none → exec .heatSoakExpiry s = .next s)
    ∧ (s.thermal.recoveryTimer ≠ none → exec .recoveryExpiry s = .next { s with
        thermal := { s.thermal with
          degraded := false, recoveryTimer := none
          soakTimer := if s.thermal.soakCond then some (s.thermal.soakTimer.getD 600000) else none } })
    ∧ (s.thermal.recoveryTimer = none → exec .recoveryExpiry s = .next s)

/-! ### Fire -/

/-- LOOP_SAMPLE where it moves no fire state: in NORMAL with no loop that comes into ALARM, in PRE_ALARM with a source left and no
second one joining, and in ALARM or later whatever the loops show (R108, R113, R114). Both records take their samples together,
LOOP_TROUBLE is written where a loop state changes, and nothing else changes (R103 to R105). A current at a threshold has the class above it
(R103; the operand's unit, microamperes, is log 20), and a loop record changes its state at the third consecutive sample of one
new class (R104). That with the timer stopped it has no effect is the model's choice (log 1). -/
def Obligations.LoopSampleWithoutAlarm : Prop :=
  (∀ i, (i < 2000 → loopClass i = .openLoop) ∧ (2000 ≤ i ∧ i < 12000 → loopClass i = .normal)
    ∧ (12000 ≤ i ∧ i < 35000 → loopClass i = .alarm) ∧ (35000 ≤ i → loopClass i = .short))
  ∧ (∀ (r : LoopRecord) (cls : LoopClass),
    (cls = r.state → r.sampled cls = { r with pendingClass := none, count := 0 })
    ∧ (cls ≠ r.state → r.pendingClass = some cls → r.count ≠ 2 → r.sampled cls = { r with count := r.count + 1 })
    ∧ (cls ≠ r.state → r.pendingClass = some cls → r.count = 2 →
      r.sampled cls = { state := cls, pendingClass := none, count := 0 })
    ∧ (cls ≠ r.state → r.pendingClass ≠ some cls → r.sampled cls = { r with pendingClass := some cls, count := 1 }))
  ∧ ∀ (s : State) (iS iH : Nat), s.Steady →
    let recS := s.fire.loopS.sampled (loopClass iS)
    let recH := s.fire.loopH.sampled (loopClass iH)
    let joins := (recS.state = .alarm ∧ s.fire.loopS.state ≠ .alarm) ∨ (recH.state = .alarm ∧ s.fire.loopH.state ≠ .alarm)
    let two := (recS.state = .alarm ∧ recH.state = .alarm)
      ∨ (s.env.latch = true ∧ (recS.state = .alarm ∨ recH.state = .alarm))
    (s.fire.loopTimer ≠ none →
      (s.fire.state = .normal ∧ ¬joins
        ∨ s.fire.state = .preAlarm ∧ (recS.state = .alarm ∨ recH.state = .alarm ∨ s.env.latch = true) ∧ ¬(joins ∧ two)
        ∨ fireAlarmed s.fire.state = true) →
      exec (.loopSample iS iH) s = .next { s with fire := { s.fire with
        loopS := recS
        loopH := recH
        loopTrouble :=
          if recS.state ≠ s.fire.loopS.state ∨ recH.state ≠ s.fire.loopH.state then
            recS.state == .openLoop || recS.state == .short || recH.state == .openLoop || recH.state == .short
          else s.fire.loopTrouble } })
    ∧ (s.fire.loopTimer = none → exec (.loopSample iS iH) s = .next s)

/-- LOOP_SAMPLE and PRE_ALARM. A loop that comes into ALARM as the one source of a station in NORMAL, with no zone peer in alarm,
raises PRE_ALARM, with its notice and a census call queued, the repeat timer at 2 s, the balance set emptied and the permit
withheld; no output is driven (R110, R111, R121, R46; the bits of the notice without a meaning are 0, log 42). In PRE_ALARM, samples that leave no source return the station to NORMAL: the
repeat timer stops and a notice of NORMAL is queued (R113); the permit follows R153. -/
def Obligations.FirstSourceRaisesPreAlarm : Prop :=
  ∀ (s : State) (iS iH : Nat), s.Steady → s.fire.loopTimer ≠ none → s.svc.restart = .none →
    let recS := s.fire.loopS.sampled (loopClass iS)
    let recH := s.fire.loopH.sampled (loopClass iH)
    let first := fun (old new other : LoopRecord) => old.state ≠ .alarm ∧ new.state = .alarm ∧ other.state ≠ .alarm
    let keyBit := if s.fire.serviceKey then 8 else 0
    (s.fire.state = .normal → s.fire.census = .idle → s.link.queue.length ≤ 6 → s.zonePeerAlarm = false →
      first s.fire.loopS recS recH ∨ first s.fire.loopH recH recS → s.env.latch = false →
      ∃ t, exec (.loopSample iS iH) s = .next t
        ∧ t.fire.state = .preAlarm ∧ t.fire.repeatTimer = some 2000 ∧ t.fire.census = .callPending
        ∧ t.fire.loopS = recS ∧ t.fire.loopH = recH
        ∧ t.link.queue = insertByClass (censusCall 1 (byteOfNat s.ownZone) .fireCall)
            (insertByClass (newEntry .fire 1
              [byteOfNat s.ownZone, 1, byteOfNat ((if recS.state = .alarm then 1 else 2) + keyBit)] .plain) s.link.queue)
        ∧ t.balance.members = [] ∧ t.grid.permit = false
        ∧ t.fire.release = s.fire.release ∧ t.fire.fireLine = s.fire.fireLine ∧ t.fire.tripLine = s.fire.tripLine
        ∧ t.env = s.env ∧ t.conn = s.conn ∧ t.thermal = s.thermal ∧ t.claims = s.claims)
    ∧ (s.fire.state = .preAlarm → s.Room → recS.state ≠ .alarm → recH.state ≠ .alarm → s.env.latch = false →
      exec (.loopSample iS iH) s = .next (({ s with
        fire := { s.fire with
          loopS := recS
          loopH := recH
          loopTrouble :=
            if recS.state ≠ s.fire.loopS.state ∨ recH.state ≠ s.fire.loopH.state then
              recS.state == .openLoop || recS.state == .short || recH.state == .openLoop || recH.state == .short
            else s.fire.loopTrouble
          state := .normal
          repeatTimer := none }
        grid := { s.grid with permit := s.grid.state == .up && s.svc.mode == .active && !s.peers.containerFire
          && s.claims.join.entries.isEmpty && s.conn.state != .welded && !s.grid.breakerHold } } : State).queued
        (newEntry .fire 1 [byteOfNat s.ownZone, 0, byteOfNat keyBit] .plain)))

/-- LOOP_SAMPLE that brings a second sign (R110, R113): a loop that comes into ALARM beside the other loop, both at one sample
included, or beside the runaway latch, from NORMAL or PRE_ALARM; or in NORMAL a loop that comes into ALARM while a record of the
own zone, PRESENT or STALE, shows ALARM or later. The fire unit enters ALARM, with all that this does (R114, R116, R121; the bits
of the notice without a meaning are 0, log 42), and directly so: no census call and no notice of PRE_ALARM is queued (R110). The
loop records are those of the samples, and of the envelope unit's state the pair alone changes (R41, R104, R105). -/
def Obligations.SecondSourceRaisesAlarm : Prop :=
  ∀ (s : State) (iS iH : Nat), s.fire.loopTimer ≠ none → s.svc.mode ≠ .loading → s.svc.restart = .none →
    s.fire.state = .normal ∨ s.fire.state = .preAlarm →
    let recS := s.fire.loopS.sampled (loopClass iS)
    let recH := s.fire.loopH.sampled (loopClass iH)
    (recS.state = .alarm ∧ s.fire.loopS.state ≠ .alarm) ∨ (recH.state = .alarm ∧ s.fire.loopH.state ≠ .alarm) →
    (recS.state = .alarm ∧ recH.state = .alarm) ∨ s.env.latch = true
      ∨ (s.fire.state = .normal ∧ ∃ r ∈ s.peers.table, r.zone = s.ownZone ∧ fireAlarmed r.fire = true) →
    ∃ t, exec (.loopSample iS iH) s = .next t
      ∧ t.fire.loopS = recS ∧ t.fire.loopH = recH
      ∧ (t.fire.loopTrouble = true ↔
        recS.state = .openLoop ∨ recS.state = .short ∨ recH.state = .openLoop ∨ recH.state = .short)
      ∧ t.env = { s.env with ec := 0, ed := 0 }
      ∧ s.AlarmEntered t

/-- RUNAWAY_SAMPLE: with DATA_LOSS set no sample is taken; else Tmax joins the ring of ten and the rise flag says whether
the newest stands RUNAWAY_RISE or more above some sample (R106, R107). A rise sets the latch (R108). In NORMAL as the only sign it
raises PRE_ALARM, with its notice and a census call queued (R110, R111, R121; the bits of the notice without a meaning are 0, log
42); beside a loop in ALARM, from NORMAL or PRE_ALARM, or in NORMAL while a record of the own zone shows ALARM or later, it raises
ALARM (R110, R113, R114). Elsewhere the ring, the flag and the latch alone change: where the latch was set or the rise test fails,
in PRE_ALARM with no second source, and in ALARM or later. That Tmax may rise under TEMP_LOSS is the model's choice (log 36), and so
is that the command has no effect with the timer stopped (log 1). -/
def Obligations.RunawaySampleJudged : Prop :=
  ∀ (s : State), s.Steady →
    (s.env.runawayTimer = none → exec .runawaySample s = .next s)
    ∧ ∀ c, s.svc.config = some c → s.env.runawayTimer ≠ none →
      let ring := (if s.env.ring.length < 10 then s.env.ring else s.env.ring.drop 1) ++ [s.chain.tmax]
      let rise := ring.any (fun x => c.runawayRise ≤ s.chain.tmax - x)
      let sampled := { s.env with ring := ring, riseFlag := rise, latch := s.env.latch || rise }
      let loop := s.fire.loopS.state = .alarm ∨ s.fire.loopH.state = .alarm
      (s.chain.dataLoss = true → exec .runawaySample s = .next s)
      ∧ (s.chain.dataLoss = false →
        (s.fire.state = .normal ∧ (rise = true → s.env.latch = true)
          ∨ s.fire.state = .preAlarm ∧ (loop ∨ s.env.latch = true ∨ rise = true)
            ∧ ¬(rise = true ∧ s.env.latch = false ∧ loop)
          ∨ fireAlarmed s.fire.state = true) →
        exec .runawaySample s = .next { s with env := sampled })
      ∧ (s.chain.dataLoss = false → rise = true → s.env.latch = false → s.svc.restart = .none →
        (s.fire.state = .normal → ¬loop → s.zonePeerAlarm = false →
          ∃ t, exec .runawaySample s = .next t ∧ t.env = sampled ∧ t.fire.state = .preAlarm
            ∧ t.fire.repeatTimer = some 2000 ∧ t.balance.members = [] ∧ t.grid.permit = false
            ∧ (s.fire.census = .idle → s.link.queue.length ≤ 6 → t.fire.census = .callPending
              ∧ t.link.queue = insertByClass (censusCall 1 (byteOfNat s.ownZone) .fireCall)
                (insertByClass (newEntry .fire 1
                  [byteOfNat s.ownZone, 1, byteOfNat (4 + (if s.fire.serviceKey then 8 else 0))] .plain) s.link.queue)))
        ∧ (s.svc.mode ≠ .loading →
          (s.fire.state = .normal ∨ s.fire.state = .preAlarm) ∧ loop
            ∨ (s.fire.state = .normal ∧ ∃ r ∈ s.peers.table, r.zone = s.ownZone ∧ fireAlarmed r.fire = true) →
          ∃ t, exec .runawaySample s = .next t ∧ t.env = { sampled with ec := 0, ed := 0 }
            ∧ t.fire.loopS = s.fire.loopS ∧ t.fire.loopH = s.fire.loopH ∧ t.fire.loopTrouble = s.fire.loopTrouble
            ∧ s.AlarmEntered t))

/-- RELEASE_COUNTDOWN_EXPIRY in RELEASE_DELAY: RELEASED, the release output driven and the notice queued (R117, R121; its bits
without a meaning are 0, log 42).
CENSUS_REPEAT_EXPIRY in PRE_ALARM: the repeat timer starts again for 2 s, and a call is queued unless one is pending (R111). In
every other state, and with the countdown or the repeat timer stopped, there is no such expiry (R111, R119); that the command has
then no effect is the model's choice (log 1). -/
def Obligations.FireTimersExpire : Prop :=
  ∀ s : State, s.Steady → s.Room →
    (s.fire.state = .releaseDelay → s.fire.countdown ≠ none → s.svc.restart = .none →
      exec .releaseCountdownExpiry s = .next (({ s with fire := { s.fire with
        state := .released, countdown := none, release := true, fireLine := true, tripLine := true } }).queued
          (newEntry .fire 1 [byteOfNat s.ownZone, 5,
            byteOfNat (natOfFlags [s.sources.s, s.sources.h, s.sources.runaway, s.fire.serviceKey])] .plain)))
    ∧ (s.fire.state ≠ .releaseDelay ∨ s.fire.countdown = none → exec .releaseCountdownExpiry s = .next s)
    ∧ (s.fire.state = .preAlarm → s.fire.repeatTimer ≠ none → s.fire.census = .idle →
      exec .censusRepeatExpiry s = .next (({ s with fire := { s.fire with
        repeatTimer := some 2000, census := .callPending } }).queued (censusCall 1 (byteOfNat s.ownZone) .fireCall)))
    ∧ (s.fire.state = .preAlarm → s.fire.repeatTimer ≠ none → s.fire.census = .callPending →
      exec .censusRepeatExpiry s = .next { s with fire := { s.fire with repeatTimer := some 2000 } })
    ∧ (s.fire.state ≠ .preAlarm ∨ s.fire.repeatTimer = none → exec .censusRepeatExpiry s = .next s)

/-- ABORT_INPUT_CHANGE: asserted in RELEASE_DELAY it holds the countdown, released in RELEASE_HELD it gives the full delay
again; in any other fire state it changes the line's level alone (R109, R116). -/
def Obligations.AbortHoldsCountdown : Prop :=
  ∀ (s : State) (b : Bool), s.Steady → s.svc.restart = .none →
    (s.fire.state = .releaseDelay → b = true → exec (.abortInputChange b) s = .next { s with
      lines := { s.lines with abort := true }, fire := { s.fire with state := .releaseHeld, countdown := none } })
    ∧ (s.fire.state = .releaseHeld → b = false → s.releaseDelayMs ≠ 0 → exec (.abortInputChange b) s = .next { s with
      lines := { s.lines with abort := false }
      fire := { s.fire with state := .releaseDelay, countdown := some s.releaseDelayMs } })
    ∧ (s.fire.state = .releaseHeld → b = false → s.releaseDelayMs = 0 →
      ∃ t, exec (.abortInputChange b) s = .next t ∧ t.fire.state = .released ∧ t.fire.release = true)
    ∧ (s.fire.state ≠ .releaseDelay ∧ s.fire.state ≠ .releaseHeld ∨ s.fire.state = .releaseDelay ∧ b = false
        ∨ s.fire.state = .releaseHeld ∧ b = true →
      exec (.abortInputChange b) s = .next { s with lines := { s.lines with abort := b } })

/-- MAINTENANCE_KEY_CHANGE: SERVICE_KEY follows the line (R109). Asserted, it takes RELEASE_DELAY and RELEASE_HELD back to
ALARM; released, with no key of a zone peer and the abort input released, it starts the full countdown from ALARM (R116).
In the other fire states it changes the flag alone, unless it makes a joined rack leave the bus (R140); that the precharge
and the leave timer stand stopped in OPENING is then the model's choice (log 39). -/
def Obligations.KeyInhibitsRelease : Prop :=
  ∀ (s : State) (b : Bool), s.Steady → s.svc.mode ≠ .loading → s.svc.restart = .none →
    (s.fire.state = .releaseDelay ∨ s.fire.state = .releaseHeld → b = true →
      exec (.maintenanceKeyChange b) s = .next { s with
        lines := { s.lines with key := true }
        fire := { s.fire with serviceKey := true, state := .alarm, countdown := none } })
    ∧ (s.fire.state = .alarm → b = false → s.peers.zoneKey = false → s.lines.abort = false → s.releaseDelayMs ≠ 0 →
      exec (.maintenanceKeyChange b) s = .next { s with
        lines := { s.lines with key := false }
        fire := { s.fire with serviceKey := false, state := .releaseDelay, countdown := some s.releaseDelayMs } })
    ∧ (s.fire.state = .normal ∨ s.fire.state = .preAlarm ∨ s.fire.state = .released →
      b = false ∨ takesForcedLeave s.conn.state = false →
      exec (.maintenanceKeyChange b) s = .next { s with
        lines := { s.lines with key := b }, fire := { s.fire with serviceKey := b } })
    ∧ (s.fire.state = .normal → b = true → s.conn.state = .joined → s.claims.join.own = .notClaimed →
      s.claims.tokenHeld = false → s.lines.auxPos = true →
      exec (.maintenanceKeyChange b) s = .next { s with
        lines := { s.lines with key := true }
        fire := { s.fire with serviceKey := true }
        conn := { s.conn with
          state := .opening, negDrive := false, preDrive := false, posDrive := false, prechTimer := none
          leaveTimer := none, window := some .opening, dest := some .openRack } })

/-! ### Peer view -/

/-- AP_EXPIRY answers a next state in every state. Every record is one AP older, STALE at age 4, removed at age 12 (R59);
then from both lists go the peers that became STALE or have no record, and the own number stays (R76; the aging ahead of
the sweep is log 16); the zone key check follows what is left, and acts on the countdown (R65, R109, R116); in LISTENING
the fourth expiry gives ACTIVE, an earlier one is counted (R176). Where the aging changes nothing that other blocks
follow, and room is left: an own claim or release frame, and a JOINED call, that was dropped is queued again (R73, R132);
one ANNOUNCE is handed over, in place of a waiting one or behind the queue (R54, R163; that a replacement starts without
bit errors is the model's choice, log 14); and LINK_CONGESTION is cleared if the queue holds 4 entries or fewer without it
(R164; the moment is log 15). In a full queue with no ANNOUNCE waiting the new one is dropped, and LINK_CONGESTION is set
(R164). That the zone key check stands as the records show it, a premise, is kept by `ListsProperKept`. That nothing
happens with the timer stopped is the model's choice (log 1), and so is that a join frame owed goes out ahead of a heater frame owed (log 43). -/
def Obligations.ApExpiryAgesAndSweeps : Prop :=
  ∀ s : State, (∃ t, exec .apExpiry s = .next t)
    ∧ (s.Steady → s.svc.restart = .none →
      let aged := s.peers.table.map (fun r =>
        { r with age := r.age + 1, presence := if r.age + 1 = 4 then .stale else r.presence })
      (s.peers.apTimer = none → exec .apExpiry s = .next s)
      ∧ (s.peers.apTimer ≠ none → ∃ t, exec .apExpiry s = .next t
        ∧ t.peers.table = aged.filter (fun r => decide (r.age < 12))
        ∧ (∀ n, n ∈ t.claims.join.entries ↔ n ∈ s.claims.join.entries ∧ (n = s.ownNumber
            ∨ ((∃ r ∈ t.peers.table, r.number = n) ∧ ¬∃ r ∈ s.peers.table, r.number = n ∧ r.age = 3)))
        ∧ (∀ n, n ∈ t.claims.heat.entries ↔ n ∈ s.claims.heat.entries ∧ (n = s.ownNumber
            ∨ ((∃ r ∈ t.peers.table, r.number = n) ∧ ¬∃ r ∈ s.peers.table, r.number = n ∧ r.age = 3)))
        ∧ (s.svc.mode = .listening → s.svc.apCount = 3 → t.svc.mode = .active ∧ t.conn.proving ≠ .notDone)
        ∧ (s.svc.mode = .listening → s.svc.apCount ≠ 3 → t.svc.mode = .listening ∧ t.svc.apCount = s.svc.apCount + 1)
        ∧ (s.svc.mode ≠ .listening → t.svc.mode = s.svc.mode ∧ t.svc.apCount = s.svc.apCount)
        ∧ s.ZoneKeyActed t
        ∧ t.chain.record = s.chain.record ∧ t.grid.state = s.grid.state ∧ t.svc.config = s.svc.config)
      ∧ (s.peers.apTimer ≠ none → s.svc.mode ≠ .listening → s.SignalsCurrent → s.rotationDue = false →
        s.ZoneKeyCurrent → (∀ r ∈ s.peers.table, r.age ≠ 3 ∧ r.age < 11) →
        (∀ n ∈ s.claims.join.entries ++ s.claims.heat.entries, n = s.ownNumber ∨ ∃ r ∈ s.peers.table, r.number = n) →
        let waits := fun e : Entry => e.cls == .announce && !e.onLine
        let repeats :=
          (if s.claims.join.requeue then
            (match s.claims.join.own with
            | .claimQueued _ => [newEntry .claim 1 [] .plain]
            | .releaseQueued _ => [newEntry .claim 2 [if s.claims.doneResult = .ok then 0 else 1] .plain]
            | .notClaimed => []
            | .listed => [])
          else [])
          ++ (if s.claims.heat.requeue then
            (match s.claims.heat.own with
            | .claimQueued _ => [newEntry .claim 3 [] .plain]
            | .releaseQueued _ => [newEntry .claim 4 [] .plain]
            | .notClaimed => []
            | .listed => [])
          else [])
          ++ (if s.conn.check = .callPending true then [censusCall 2 0 .joinCheckCall] else [])
        let queue := repeats.foldl (fun q e => insertByClass e q) s.link.queue
        let others := queue.length - (if queue.any waits then 1 else 0)
        (s.link.queue.length + repeats.length < 8 → (s.link.queue.filter waits).length ≤ 1 →
          exec .apExpiry s = .next { s with
            peers := { s.peers with table := aged }
            claims := { s.claims with
              join := { s.claims.join with requeue := false }, heat := { s.claims.heat with requeue := false } }
            conn := { s.conn with check := if s.conn.check = .callPending true then .callPending false else s.conn.check }
            link := { s.link with
              queue := if queue.any waits then queue.map (fun e => if waits e then newEntry .announce 1 [] .plain else e)
                else insertByClass (newEntry .announce 1 [] .plain) queue
              congestion := if others ≤ 4 then false else s.link.congestion } })
        ∧ (s.link.queue.length = 8 → (∀ e ∈ s.link.queue, waits e = false) → repeats = [] →
          exec .apExpiry s = .next { s with
            peers := { s.peers with table := aged }
            claims := { s.claims with
              join := { s.claims.join with requeue := false }, heat := { s.claims.heat with requeue := false } }
            link := { s.link with congestion := true } })))

/-- ANNOUNCE_ARRIVAL from a peer: its record is replaced whole with age 0 and PRESENT, every other record stays (R56); both
lists are repaired against the claim flags (R75); a fire state of ALARM or later sets the container fire flag (R60), which has
every block take it, the own claims of both lists released among them (R83, `FireHeard`), and in PRE_ALARM one of the own zone
raises ALARM (R113); that bits without a meaning are ignored is the model's choice (log 42);
the zone key check follows the records, and a change of it acts on the countdown (R65, R109, R116). -/
def Obligations.AnnounceRecordedAndRepaired : Prop :=
  ∀ (s : State) (sender : BitVec 5) (p : List Byte), s.Hears → s.svc.restart = .none → announcePayloadOk p = true →
    s.isPeer sender.toNat = true →
    ∃ t, exec (.announceArrival sender p) s = .next t
      ∧ t.peers.record sender.toNat = some
        { number := sender.toNat, zone := (p.getD 4 0).toNat, fire := fireOfByte (p.getD 2 0)
          key := (p.getD 5 0).getLsbD 2, level := some ((p.getD 3 0).toNat / 16 % 4)
          joinFlag := some ((p.getD 5 0).getLsbD 0), heatFlag := some ((p.getD 5 0).getLsbD 1), age := 0
          presence := .present }
      ∧ (∀ n, n ≠ sender.toNat → t.peers.record n = s.peers.record n)
      ∧ t.claims.join.entries =
        (if (p.getD 5 0).getLsbD 0 then
          (if sender.toNat ∈ s.claims.join.entries then s.claims.join.entries else s.claims.join.entries ++ [sender.toNat])
        else s.claims.join.entries.filter (fun n => n != sender.toNat))
      ∧ t.claims.heat.entries =
        (if (p.getD 5 0).getLsbD 1 then
          (if sender.toNat ∈ s.claims.heat.entries then s.claims.heat.entries else s.claims.heat.entries ++ [sender.toNat])
        else s.claims.heat.entries.filter (fun n => n != sender.toNat))
      ∧ (2 ≤ (p.getD 2 0).toNat → t.peers.containerFire = true ∧ (s.peers.containerFire = false → s.FireHeard t))
      ∧ (2 ≤ (p.getD 2 0).toNat → (p.getD 4 0).toNat = s.ownZone → s.fire.state = .preAlarm →
        fireAlarmed t.fire.state = true)
      ∧ s.ZoneKeyActed t
      ∧ t.svc.mode = s.svc.mode ∧ t.chain.record = s.chain.record ∧ t.grid.state = s.grid.state

/-- ANNOUNCE_ARRIVAL under the own number: DUPLICATE_ID is set, LISTENING and ACTIVE go to SAFE with the pair at 0 and the
balance set empty and both own claims released (R84), the other modes stay; no record is made and no list is repaired (R58,
R177, R41, R46). A fire state of ALARM or later sets the container fire flag here too (R58, R60). -/
def Obligations.OwnNumberAnnounceMakesSafe : Prop :=
  ∀ (s : State) (sender : BitVec 5) (p : List Byte), s.Hears → s.svc.restart = .none → announcePayloadOk p = true →
    sender.toNat = s.ownNumber →
    ∃ t, exec (.announceArrival sender p) s = .next t
      ∧ t.svc.duplicateId = true
      ∧ (s.svc.mode = .listening ∨ s.svc.mode = .active →
        t.svc.mode = .safe ∧ t.env.ec = 0 ∧ t.env.ed = 0 ∧ t.balance.members = [] ∧ t.grid.permit = false
          ∧ takesForcedLeave t.conn.state = false ∧ s.ClaimsReleased t)
      ∧ (s.svc.mode ≠ .listening → s.svc.mode ≠ .active → t.svc.mode = s.svc.mode)
      ∧ (2 ≤ (p.getD 2 0).toNat → t.peers.containerFire = true ∧ (s.peers.containerFire = false → s.FireHeard t))
      ∧ ((p.getD 2 0).toNat < 2 → t.peers.containerFire = s.peers.containerFire)
      ∧ t.peers.table = s.peers.table ∧ t.claims.join.entries = s.claims.join.entries
      ∧ t.claims.heat.entries = s.claims.heat.entries

/-- FIRE_NOTICE_ARRIVAL from a peer: zone, fire state and key flag of its record are replaced, its other fields stay, and a
new record starts at age 0, PRESENT, without level and flags (R57); a state of ALARM or later sets the container fire flag,
which has every block take it, the own claims released among them (R60, R83, `FireHeard`), and in PRE_ALARM one of the own zone
raises ALARM (R113, R118). In PRE_ALARM a notice of PRE_ALARM of the own zone queues a census call unless one is pending; any
other notice that shows no alarm does not (R111). A notice under the own number makes no record, moves no fire state, and sets
the container fire flag alike (R57, R60). RELEASED of the own zone is followed from ALARM,
RELEASE_DELAY and RELEASE_HELD while the own key is released (R118). The zone key check follows the records, and a change of
it acts on the countdown where the notice shows no RELEASED (R65, R109, R116). -/
def Obligations.FireNoticeRecorded : Prop :=
  (∀ (s : State) (sender : BitVec 5) (p : List Byte), s.Steady → s.Hears → s.Room → s.svc.restart = .none →
    s.FireOutputs → fireNoticePayloadOk p = true → s.isPeer sender.toNat = true →
    (p.getD 0 0).toNat = s.ownZone → (p.getD 1 0).toNat = 5 →
    s.fire.state = .alarm ∨ s.fire.state = .releaseDelay ∨ s.fire.state = .releaseHeld →
    ∃ t, exec (.fireNoticeArrival sender p) s = .next t
      ∧ (s.fire.serviceKey = false → t.fire.state = .released ∧ t.fire.release = true)
      ∧ (s.fire.serviceKey = true → s.fire.state = .alarm → t.fire = s.fire))
  ∧ (∀ (s : State) (sender : BitVec 5) (p : List Byte), s.Steady → s.Hears → s.Room → s.svc.restart = .none →
    s.ListsProper → fireNoticePayloadOk p = true → s.isPeer sender.toNat = true → s.fire.state = .preAlarm →
    (∀ r ∈ s.peers.table, r.number ≠ sender.toNat → r.zone = s.ownZone → fireAlarmed r.fire = false) →
    (p.getD 1 0).toNat < 2 →
    let zonePreAlarm := (p.getD 0 0).toNat = s.ownZone ∧ (p.getD 1 0).toNat = 1
    ∃ t, exec (.fireNoticeArrival sender p) s = .next t
      ∧ (zonePreAlarm → s.fire.census = .idle → t.fire = { s.fire with census := .callPending }
        ∧ t.link = (s.heard.queued (censusCall 1 (byteOfNat s.ownZone) .fireCall)).link)
      ∧ (¬zonePreAlarm ∨ s.fire.census = .callPending → t.fire = s.fire ∧ t.link = s.heard.link)
      ∧ t.conn = s.conn ∧ t.claims = s.claims ∧ t.env = s.env ∧ t.balance = s.balance)
  ∧ (∀ (s : State) (sender : BitVec 5) (p : List Byte), s.Hears → s.svc.restart = .none → fireNoticePayloadOk p = true →
    sender.toNat = s.ownNumber →
    ((p.getD 1 0).toNat < 2 ∨ s.peers.containerFire = true → s.Steady →
      exec (.fireNoticeArrival sender p) s = .next s.heard)
    ∧ (2 ≤ (p.getD 1 0).toNat → s.peers.containerFire = false →
      ∃ t, exec (.fireNoticeArrival sender p) s = .next t ∧ s.FireHeard t ∧ t.peers.table = s.peers.table
        ∧ t.fire.state = s.fire.state ∧ t.svc.mode = s.svc.mode))
  ∧ ∀ (s : State) (sender : BitVec 5) (p : List Byte), s.Hears → s.svc.restart = .none → fireNoticePayloadOk p = true →
    s.isPeer sender.toNat = true →
    ∃ t, exec (.fireNoticeArrival sender p) s = .next t
      ∧ (∀ r, s.peers.record sender.toNat = some r → t.peers.record sender.toNat = some
        { r with zone := (p.getD 0 0).toNat, fire := fireOfByte (p.getD 1 0), key := (p.getD 2 0).getLsbD 3 })
      ∧ (s.peers.record sender.toNat = none → t.peers.record sender.toNat = some
        { number := sender.toNat, zone := (p.getD 0 0).toNat, fire := fireOfByte (p.getD 1 0)
          key := (p.getD 2 0).getLsbD 3, level := none, joinFlag := none, heatFlag := none, age := 0
          presence := .present })
      ∧ (∀ n, n ≠ sender.toNat → t.peers.record n = s.peers.record n)
      ∧ (2 ≤ (p.getD 1 0).toNat → t.peers.containerFire = true ∧ (s.peers.containerFire = false → s.FireHeard t))
      ∧ (2 ≤ (p.getD 1 0).toNat → (p.getD 0 0).toNat = s.ownZone → s.fire.state = .preAlarm →
        fireAlarmed t.fire.state = true)
      ∧ t.ZoneKeyCurrent ∧ ((p.getD 1 0).toNat ≠ 5 → s.ZoneKeyActed t)
      ∧ t.claims.join.entries = s.claims.join.entries ∧ t.claims.heat.entries = s.claims.heat.entries
      ∧ t.svc.mode = s.svc.mode ∧ t.chain.record = s.chain.record ∧ t.grid.state = s.grid.state

/-! ### Claim lists -/

/-- JOIN_CLAIM_ARRIVAL and JOIN_DONE_ARRIVAL from a peer (R69): a claim is appended at the tail if absent, which withholds
the permit (R153) and starts the head timer of a first entry (R78); a JOIN_DONE removes its sender, a new head starting
its timer, and the token passing to this station in WAIT_TOKEN starting the join check (R77, R132). -/
def Obligations.PeerJoinFramesKeepTheList : Prop :=
  ∀ (s : State) (sender : BitVec 5) (result : Byte), s.Steady → s.SignalsCurrent → s.Hears →
    s.isPeer sender.toNat = true →
    let n := sender.toNat
    let h := s.heard
    (n ∉ s.claims.join.entries → exec (.joinClaimArrival sender []) s = .next { h with
      claims := { h.claims with
        join := { h.claims.join with entries := s.claims.join.entries ++ [n] }
        headTimer := if s.claims.join.entries = [] then some (s.prechMaxMs + 3000) else s.claims.headTimer }
      grid := { h.grid with permit := false } })
    ∧ (n ∈ s.claims.join.entries → exec (.joinClaimArrival sender []) s = .next h)
    ∧ (n ∉ s.claims.join.entries → exec (.joinDoneArrival sender [result]) s = .next h)
    ∧ (∀ m rest, s.claims.join.entries = m :: rest → m ≠ n → exec (.joinDoneArrival sender [result]) s = .next { h with
      claims := { h.claims with join := { h.claims.join with entries := m :: rest.filter (fun x => x != n) } } })
    ∧ (s.claims.join.entries = [n] → exec (.joinDoneArrival sender [result]) s = .next { h with
      claims := { h.claims with join := { h.claims.join with entries := [] }, headTimer := none }
      grid := { h.grid with permit :=
        s.grid.state == .up && s.svc.mode == .active && s.fire.state == .normal && !s.peers.containerFire
          && s.conn.state != .welded && !s.grid.breakerHold } })
    ∧ (∀ m rest, s.claims.join.entries = n :: m :: rest → n ∉ m :: rest → m ≠ s.ownNumber →
      exec (.joinDoneArrival sender [result]) s = .next { h with
        claims := { h.claims with
          join := { h.claims.join with entries := m :: rest }, headTimer := some (s.prechMaxMs + 3000) } })
    ∧ (∀ rest, s.claims.join.entries = n :: s.ownNumber :: rest → n ∉ rest → s.claims.join.own = .listed →
      s.conn.state = .waitToken → s.Room →
      exec (.joinDoneArrival sender [result]) s = .next ({ h with
        claims := { h.claims with
          join := { h.claims.join with entries := s.ownNumber :: rest }, tokenHeld := true
          headTimer := some (s.prechMaxMs + 2000) }
        conn := { h.conn with check := .callPending false } }.queued (censusCall 2 0 .joinCheckCall)))

/-- HEAT_CLAIM_ARRIVAL and HEAT_RELEASE_ARRIVAL from a peer (R69): appended at the tail if absent, removed if present; the
own slot, HEATING and the hold timer follow where a removal brings a LISTED own entry to a position of L or less, and stand
where it held its slot before or is still behind position L (R81, R82, R94).
Where the list grows beyond L with the hold time served, the own entry rotates (R82). -/
def Obligations.PeerHeatFramesKeepTheList : Prop :=
  ∀ (s : State) (sender : BitVec 5), s.Steady → s.SignalsCurrent → s.Hears → s.isPeer sender.toNat = true →
    let n := sender.toNat
    let h := s.heard
    let entries := s.claims.heat.entries
    (n ∉ entries → s.claims.slotHeld = false ∨ s.claims.hold ≠ .served →
      exec (.heatClaimArrival sender []) s = .next { h with
        claims := { h.claims with heat := { h.claims.heat with entries := entries ++ [n] } } })
    ∧ (n ∉ entries → s.claims.slotHeld = true → s.claims.hold = .served → s.claims.limit ≤ entries.length →
      s.thermal.state = .heating → s.Room →
      exec (.heatClaimArrival sender []) s = .next ({ h with
        claims := { h.claims with
          heat := { h.claims.heat with entries := entries ++ [n], own := .releaseQueued s.thermal.demand }
          slotHeld := false, hold := .stopped }
        thermal := { h.thermal with state := .heatWait, heater := false, valve := false } }.queued heatReleaseFrame))
    ∧ (n ∈ entries → s.rotationDue = false → exec (.heatClaimArrival sender []) s = .next h)
    ∧ (s.claims.heat.own ≠ .listed → exec (.heatReleaseArrival sender []) s = .next { h with
      claims := { h.claims with heat := { h.claims.heat with entries := entries.filter (fun x => x != n) } } })
    ∧ (s.claims.heat.own = .listed →
      s.claims.slotHeld = true ∧ (s.claims.hold ≠ .served ∨ (entries.filter (fun x => x != n)).length ≤ s.claims.limit)
        ∨ s.ownNumber ∉ (entries.filter (fun x => x != n)).take s.claims.limit →
      exec (.heatReleaseArrival sender []) s = .next { h with
        claims := { h.claims with heat := { h.claims.heat with entries := entries.filter (fun x => x != n) } } })
    ∧ (∀ c, s.svc.config = some c → s.claims.heat.own = .listed → s.claims.slotHeld = false →
      s.ownNumber ∈ (entries.filter (fun x => x != n)).take s.claims.limit →
      let claims := { h.claims with
        heat := { h.claims.heat with entries := entries.filter (fun x => x != n) }
        slotHeld := true, hold := .running (c.heatHold * 60000) }
      (s.thermal.state = .heatWait → exec (.heatReleaseArrival sender []) s = .next { h with
        claims := claims, thermal := { h.thermal with state := .heating, heater := true, valve := false } })
      ∧ (s.thermal.state ≠ .heatWait → exec (.heatReleaseArrival sender []) s = .next { h with claims := claims }))

/-- HOLD_TIMER_EXPIRY: the hold time is served; with a list of L entries or fewer the slot is kept, with a longer one the
own entry rotates, heating demand setting the reclaim mark (R82). HEAD_TIMER_EXPIRY (R78): a peer at the head is removed
and the next head, a peer or the own number, starts its timer, the own number taking the token (R77, R132); the own number
at the head, LISTED, gives up: JOIN_DONE FAILED is queued, which in PRECHARGE and CLOSING is a precharge failure (R135 to
R137) and takes WAIT_TOKEN to OPEN (R131); the own number in RELEASE_QUEUED stays. That the precharge timer stops at the
entry to OPENING is the model's choice (log 39). That a stopped timer does nothing is the model's choice (log 1), and
without a configuration set PRECH_MAX is a free value (log 5). -/
def Obligations.ClaimTimersExpire : Prop :=
  ∀ s : State, s.Steady → s.SignalsCurrent →
    ((∀ ms, s.claims.hold = .running ms → s.claims.heat.entries.length ≤ s.claims.limit →
        exec .holdTimerExpiry s = .next { s with claims := { s.claims with hold := .served } })
      ∧ (∀ ms, s.claims.hold = .running ms → s.claims.limit < s.claims.heat.entries.length → s.claims.slotHeld = true →
        s.thermal.state = .heating → s.Room →
        exec .holdTimerExpiry s = .next ({ s with
          claims := { s.claims with
            heat := { s.claims.heat with own := .releaseQueued s.thermal.demand }, slotHeld := false, hold := .stopped }
          thermal := { s.thermal with state := .heatWait, heater := false, valve := false } }.queued heatReleaseFrame))
      ∧ (s.claims.hold = .stopped ∨ s.claims.hold = .served → exec .holdTimerExpiry s = .next s))
    ∧ (s.claims.headTimer = none → exec .headTimerExpiry s = .next s)
    ∧ (s.claims.headTimer ≠ none →
      (∀ n, s.claims.join.entries = [n] → n ≠ s.ownNumber → exec .headTimerExpiry s = .next { s with
        claims := { s.claims with join := { s.claims.join with entries := [] }, headTimer := none }
        grid := { s.grid with permit :=
          s.grid.state == .up && s.svc.mode == .active && s.fire.state == .normal && !s.peers.containerFire
            && s.conn.state != .welded && !s.grid.breakerHold } })
      ∧ (∀ n m rest, s.claims.join.entries = n :: m :: rest → n ∉ m :: rest → n ≠ s.ownNumber → m ≠ s.ownNumber →
        exec .headTimerExpiry s = .next { s with claims := { s.claims with
          join := { s.claims.join with entries := m :: rest }, headTimer := some (s.prechMaxMs + 3000) } })
      ∧ (∀ n rest, s.claims.join.entries = n :: s.ownNumber :: rest → n ∉ s.ownNumber :: rest →
        let next := { s.claims with
          join := { s.claims.join with entries := s.ownNumber :: rest }, headTimer := some (s.prechMaxMs + 2000) }
        (s.claims.join.own ≠ .listed → exec .headTimerExpiry s = .next { s with claims := next })
        ∧ (s.claims.join.own = .listed → s.conn.state ≠ .waitToken →
          exec .headTimerExpiry s = .next { s with claims := { next with tokenHeld := true } })
        ∧ (s.claims.join.own = .listed → s.conn.state = .waitToken → s.Room →
          exec .headTimerExpiry s = .next ({ s with
            claims := { next with tokenHeld := true }
            conn := { s.conn with check := .callPending false } }.queued (censusCall 2 0 .joinCheckCall))))
      ∧ (s.claims.join.entries.head? = some s.ownNumber → s.claims.join.own ≠ .listed →
        exec .headTimerExpiry s = .next { s with claims := { s.claims with headTimer := none } })
      ∧ (s.claims.join.entries.head? = some s.ownNumber → s.claims.join.own = .listed → s.Room → s.svc.restart = .none →
        (s.conn.state = .precharge ∨ s.conn.state = .closing → s.lines.auxNeg = true →
          exec .headTimerExpiry s =
            .next ({ s with claims := { s.claims with headTimer := none } }).openedByFailure)
        ∧ (s.conn.state = .waitToken → ∃ t, exec .headTimerExpiry s = .next t
          ∧ t.conn = { s.conn with state := .openRack, check := .none }
          ∧ t.claims = { s.claims with
            join := { s.claims.join with own := .releaseQueued false }
            doneResult := .failed, tokenHeld := false, headTimer := none }
          ∧ joinDoneFrame .failed ∈ t.link.queue
          ∧ t.fire = s.fire ∧ t.thermal = s.thermal ∧ t.grid = s.grid ∧ t.svc = s.svc ∧ t.peers = s.peers)))

/-! ### Connection sequencer -/

/-- AUX_INPUT_CHANGE (R127): with no window open, or one whose contacts do not yet show what it waits for, the levels alone
change; the confirmation of a window takes the sequencer on: proving complete (R128), PRECHARGE goes on (R134), JOINED with
JOIN_DONE OK (R136), the destination of an opening (R138), the steps of a leave to OUT_OF_SERVICE (R143). -/
def Obligations.AuxContactsConfirmWindows : Prop :=
  ∀ (s : State) (p n : Bool), s.Steady → s.svc.restart = .none →
    let u := { s with lines := { s.lines with auxPos := p, auxNeg := n } }
    (s.conn.window = none → exec (.auxInputChange p n) s = .next u)
    ∧ (s.conn.window = some .proving ∨ s.conn.window = some .opening → p = true ∨ n = true →
      exec (.auxInputChange p n) s = .next u)
    ∧ (s.conn.window = some .negClose → n = false → exec (.auxInputChange p n) s = .next u)
    ∧ (s.conn.window = some .posClose → p = false → exec (.auxInputChange p n) s = .next u)
    ∧ (s.conn.window = some .leavePos → p = true → exec (.auxInputChange p n) s = .next u)
    ∧ (s.conn.window = some .leaveNeg → n = true → exec (.auxInputChange p n) s = .next u)
    ∧ (s.conn.window = some .proving → p = false → n = false →
      exec (.auxInputChange p n) s = .next { u with conn := { u.conn with window := none, proving := .complete } })
    ∧ (s.conn.window = some .negClose → n = true →
      exec (.auxInputChange p n) s = .next { u with conn := { u.conn with window := none } })
    ∧ (s.conn.window = some .posClose → s.conn.state = .closing → p = true → s.claims.join.own = .listed → s.Room →
      exec (.auxInputChange p n) s = .next ({ u with
        conn := { u.conn with state := .joined, window := none, failCount := 0, prechFail := false }
        claims := { u.claims with
          join := { u.claims.join with own := .releaseQueued false }, doneResult := .ok, tokenHeld := false } }.queued
        (joinDoneFrame .ok)))
    ∧ (∀ d, s.conn.window = some .opening → s.conn.state = .opening → s.conn.dest = some d →
      d = .openRack ∨ d = .lockout ∨ d = .outOfService → p = false → n = false →
      exec (.auxInputChange p n) s =
        .next { u with conn := { u.conn with state := d, window := none, dest := none } })
    ∧ (s.conn.window = some .leavePos → p = false → n = true →
      exec (.auxInputChange p n) s =
        .next { u with conn := { u.conn with negDrive := false, window := some .leaveNeg } })
    ∧ (s.conn.window = some .leavePos → s.conn.state = .leaving → p = false → n = false →
      exec (.auxInputChange p n) s =
        .next { u with conn := { u.conn with state := .outOfService, negDrive := false, window := none } })
    ∧ (s.conn.window = some .leaveNeg → s.conn.state = .leaving → n = false →
      exec (.auxInputChange p n) s =
        .next { u with conn := { u.conn with state := .outOfService, window := none } })

/-- AUX_WINDOW_EXPIRY: a failed proving, opening or leave is WELDED with every drive off (R128, R138, R143, R145), a
failed closing of either contactor a precharge failure (R134, R136, R137), whose opening waits for its window or, where
both contacts show open, succeeds at once (R127, R138). PRECHARGE_TIMER_EXPIRY in PRECHARGE is a precharge failure (R135):
the failure count rises, the third giving LOCKOUT as the destination, and the failure hold runs for 60 s (R137).
LEAVE_TIMER_EXPIRY in LEAVING releases the positive contactor with the current still flowing, and with it the negative one
where the positive contact shows open, and is OUT_OF_SERVICE where both do (R143). FAILURE_HOLD_EXPIRY ends the hold
(R130). That a failed proving counts as complete is an inference (log 24); that a window on both contacts fails where each has shown
its position, but not both at once (log 41), that the precharge and the leave timer stop at
the entry to OPENING (log 39), and that an expiry without its window or timer has no effect (log 1), are the model's
choices. -/
def Obligations.ConnectionExpiries : Prop :=
  ∀ s : State, s.Steady → s.svc.restart = .none →
    (s.conn.window = none → exec .auxWindowExpiry s = .next s)
    ∧ (s.conn.window = some .proving → exec .auxWindowExpiry s =
      .next ({ s with conn := { s.conn with proving := .complete } }).welded)
    ∧ (s.conn.window = some .opening → exec .auxWindowExpiry s =
      .next ({ s with conn := { s.conn with dest := none } }).welded)
    ∧ (s.conn.window = some .leavePos ∨ s.conn.window = some .leaveNeg → exec .auxWindowExpiry s = .next s.welded)
    ∧ (s.conn.window = some .negClose ∧ s.conn.state = .precharge
        ∨ s.conn.window = some .posClose ∧ s.conn.state = .closing → s.claims.join.own = .listed → s.Room →
      s.lines.auxPos = true ∨ s.lines.auxNeg = true → s.SignalsCurrent →
      exec .auxWindowExpiry s = .next s.openedByFailure)
    ∧ (s.conn.window = some .negClose ∧ s.conn.state = .precharge
        ∨ s.conn.window = some .posClose ∧ s.conn.state = .closing → s.claims.join.own = .listed → s.Room →
      s.lines.auxPos = false → s.lines.auxNeg = false → s.SignalsCurrent →
      exec .auxWindowExpiry s = .next s.openedAtOnce)
    ∧ (s.conn.state = .precharge → s.conn.prechTimer ≠ none → s.claims.join.own = .listed → s.Room → s.SignalsCurrent →
      (s.lines.auxPos = true ∨ s.lines.auxNeg = true → exec .prechargeTimerExpiry s = .next s.openedByFailure)
      ∧ (s.lines.auxPos = false → s.lines.auxNeg = false → exec .prechargeTimerExpiry s = .next s.openedAtOnce))
    ∧ (s.conn.state ≠ .precharge ∨ s.conn.prechTimer = none → exec .prechargeTimerExpiry s = .next s)
    ∧ (s.conn.state = .leaving → s.conn.leaveTimer ≠ none →
      (s.lines.auxPos = true → exec .leaveTimerExpiry s =
        .next { s with conn := { s.conn with leaveTimer := none, posDrive := false, window := some .leavePos } })
      ∧ (s.lines.auxPos = false → s.lines.auxNeg = true → exec .leaveTimerExpiry s = .next { s with conn := { s.conn with
          leaveTimer := none, posDrive := false, negDrive := false, window := some .leaveNeg } })
      ∧ (s.lines.auxPos = false → s.lines.auxNeg = false → exec .leaveTimerExpiry s = .next { s with conn := { s.conn with
          state := .outOfService, leaveTimer := none, posDrive := false, negDrive := false, window := none } }))
    ∧ (s.conn.state ≠ .leaving ∨ s.conn.leaveTimer = none → exec .leaveTimerExpiry s = .next s)
    ∧ exec .failureHoldExpiry s = .next { s with conn := { s.conn with failHold := none } }

/-! ### Grid -/

/-- GRID_HEALTHY_CHANGE and RECONNECT_EXPIRY: asserted, GRID_DOWN becomes GRID_RETURNING with the reconnect delay; released,
GRID_RETURNING and GRID_UP become GRID_DOWN at once (R149, R150); the delay's end gives GRID_UP and the permit of R153. L is
HEAT_LIMIT_ISLAND outside GRID_UP and HEAT_LIMIT_GRID in it, and the own slot follows it, or stays as it is (R80, R81, R152). Outside
the scanning modes the level alone changes (R158). That RECONNECT_EXPIRY without its timer has no effect is the model's choice
(log 1). -/
def Obligations.GridFollowsHealthyInput : Prop :=
  ∀ (s : State) (b : Bool), s.Steady → s.SignalsCurrent →
    let u := { s with lines := { s.lines with gridHealthy := b } }
    let up := s.svc.mode == .active && s.fire.state == .normal && !s.peers.containerFire
      && s.claims.join.entries.isEmpty && s.conn.state != .welded && !s.grid.breakerHold
    let slotStays := fun l : Nat =>
      (s.claims.slotHeld = true ↔ s.claims.heat.own = .listed ∧ s.ownNumber ∈ s.claims.heat.entries.take l)
        ∧ (s.claims.slotHeld = true → s.claims.hold ≠ .served ∨ s.claims.heat.entries.length ≤ l)
    (scanningMode s.svc.mode = false → exec (.gridHealthyChange b) s = .next u)
    ∧ (s.grid.reconnect = none ∨ s.grid.state ≠ .returning → exec .reconnectExpiry s = .next s)
    ∧ ∀ c, s.svc.config = some c → scanningMode s.svc.mode = true →
      (s.grid.state = .down → b = true → exec (.gridHealthyChange b) s = .next { u with grid := { u.grid with
        state := .returning, reconnect := some (if c.reconnect = 0 then 1800000 else c.reconnect * 5000) } })
      ∧ (s.grid.state = .down → b = false → exec (.gridHealthyChange b) s = .next u)
      ∧ (s.grid.state = .returning ∨ s.grid.state = .up → b = true → exec (.gridHealthyChange b) s = .next u)
      ∧ (s.grid.state = .returning → b = false →
        exec (.gridHealthyChange b) s = .next { u with grid := { u.grid with state := .down, reconnect := none } })
      ∧ (s.grid.state = .up → b = false → s.claims.heat.own ≠ .listed ∨ slotStays c.heatLimitIsland →
        exec (.gridHealthyChange b) s = .next { u with
          grid := { u.grid with state := .down, reconnect := none, permit := false }
          claims := { u.claims with limit := c.heatLimitIsland } })
      ∧ (s.grid.state = .up → b = false → s.claims.slotHeld = true → s.thermal.state = .heating →
        s.ownNumber ∉ s.claims.heat.entries.take c.heatLimitIsland →
        exec (.gridHealthyChange b) s = .next { u with
          grid := { u.grid with state := .down, reconnect := none, permit := false }
          claims := { u.claims with limit := c.heatLimitIsland, slotHeld := false, hold := .stopped }
          thermal := { u.thermal with state := .heatWait, heater := false, valve := false } })
      ∧ (s.grid.state = .returning → s.grid.reconnect ≠ none →
        s.claims.heat.own ≠ .listed ∨ slotStays c.heatLimitGrid →
        exec .reconnectExpiry s = .next { s with
          grid := { s.grid with state := .up, reconnect := none, permit := up }
          claims := { s.claims with limit := c.heatLimitGrid } })
      ∧ (s.grid.state = .returning → s.grid.reconnect ≠ none → s.claims.heat.own = .listed → s.claims.slotHeld = false →
        s.thermal.state = .heatWait → s.ownNumber ∈ s.claims.heat.entries.take c.heatLimitGrid →
        exec .reconnectExpiry s = .next { s with
          grid := { s.grid with state := .up, reconnect := none, permit := up }
          claims := { s.claims with limit := c.heatLimitGrid, slotHeld := true, hold := .running (c.heatHold * 60000) }
          thermal := { s.thermal with state := .heating, heater := true, valve := false } })

/-! ### The link controller -/

/-- CENSUS_CALL_ARRIVAL: the answer of the moment is frozen with the question and the zone (R171): to ZONE_SOURCE, yes in the
own zone with a source; to JOINED, yes from PRECHARGE to WELDED (R146); to HEATING, yes in HEATING; to PRESENT, yes. A call
under a sender that is no station number only ends its reception. -/
def Obligations.CensusCallFreezesAnswer : Prop :=
  ∀ (s : State) (sender : BitVec 5) (q z : Byte), s.Steady → s.Hears →
    (isStation sender.toNat = false → exec (.censusCallArrival sender [q, z]) s = .next s.heard)
    ∧ (isStation sender.toNat = true → ∃ yes : Bool,
      exec (.censusCallArrival sender [q, z]) s = .next { s.heard with link := { s.heard.link with
        census := some { question := q, zone := z, answer := yes, own := none } } }
      ∧ (q = 1 → (yes = true ↔ z.toNat = s.ownZone
        ∧ (s.fire.loopS.state = .alarm ∨ s.fire.loopH.state = .alarm ∨ s.env.latch = true)))
      ∧ (q = 2 → (yes = true ↔ s.conn.state = .precharge ∨ s.conn.state = .closing ∨ s.conn.state = .joined
        ∨ s.conn.state = .leaving ∨ s.conn.state = .opening ∨ s.conn.state = .welded))
      ∧ (q = 3 → (yes = true ↔ s.thermal.state = .heating))
      ∧ (q = 4 → yes = true))

/-- CENSUS_WINDOW_COMPLETION (R172). The window's 20 levels: the caller drives the start bit of each answer byte, a station that
answers yes its data bit n − 1, and nothing else (R160, R171); a yes is the bit read 0 (log 9). The join check: a bus of 50 V or
more within MATCH_WINDOW gives PRECHARGE, as does a bus below 50 V with no other rack joined; a gap beyond the window, or another
rack joined on a dead bus, gives OPEN with VOLTAGE_MISMATCH, and DATA_LOSS gives OPEN (R133, R134). ZONE_SOURCE of the own zone:
another station's yes raises ALARM from PRE_ALARM (R112). Every good window takes the identical own calls out of the queue (R172),
and then a pending gateway census of the same question is answered DONE with the answer bytes (R180). A failed window of an own
call is called again (R112, R132), or ends the gateway's census (R180); one of a peer has no effect. -/
def Obligations.CensusWindowJudged : Prop :=
  (∀ (w : WindowRead) (n : Nat), 1 ≤ n → n ≤ 16 →
    (windowYes w n = true ↔ if n ≤ 8 then w.answer1.getLsbD (n - 1) = false else w.answer2.getLsbD (n - 9) = false))
  ∧ (∀ s : State, s.windowLevels = s.link.census.map (windowDrive s.ownNumber))
  ∧ (∀ (caller peer : CensusAnswer) (i j : Nat), 1 ≤ i → i ≤ 16 → 1 ≤ j → j ≤ 16 → i ≠ j → caller.own ≠ none →
    peer.own = none →
    let w := readWindow (wired (windowDrive i caller) (windowDrive j peer))
    w.start1Dominant = true ∧ w.start2Dominant = true ∧ w.stop1Dominant = false ∧ w.stop2Dominant = false
      ∧ (readWindow (windowDrive j peer)).start1Dominant = false ∧ (readWindow (windowDrive j peer)).start2Dominant = false
      ∧ ∀ n, 1 ≤ n → n ≤ 16 →
        (windowYes w n = true ↔ n = i ∧ caller.answer = true ∨ n = j ∧ peer.answer = true))
  ∧ ∀ (s : State) (w : WindowRead) (a : CensusAnswer), s.Steady → s.svc.restart = .none → s.Room →
    let good := w.start1Dominant = true ∧ w.start2Dominant = true ∧ w.stop1Dominant = false ∧ w.stop2Dominant = false
    let otherYes := ∃ n, 1 ≤ n ∧ n ≤ 16 ∧ n ≠ s.ownNumber ∧ windowYes w n = true
    let closed := { s with link := { s.link with census := none } }
    let identical := fun e : Entry => e.cls == .census && !e.onLine && e.payload.getD 0 0 == a.question
      && (a.question != 1 || e.payload.getD 1 0 == a.zone)
    let callTaken := a.own = some .fireCall ∨ ∃ e ∈ s.link.queue, identical e = true ∧ e.purpose = .fireCall
    let removed := { closed with
      link := { closed.link with queue := s.link.queue.filter (fun e => !identical e) }
      fire := { closed.fire with census := if callTaken then .idle else s.fire.census } }
    (s.link.census = none → exec (.censusWindowCompletion w) s = .next s)
    ∧ (s.link.census = some a → ¬good →
      (a.own = none → exec (.censusWindowCompletion w) s = .next closed)
      ∧ (a.own = some .fireCall → s.fire.state = .preAlarm →
        exec (.censusWindowCompletion w) s = .next (closed.queued (censusCall 1 (byteOfNat s.ownZone) .fireCall)))
      ∧ (a.own = some .fireCall → s.fire.state ≠ .preAlarm →
        exec (.censusWindowCompletion w) s = .next { closed with fire := { closed.fire with census := .idle } })
      ∧ (a.own = some .joinCheckCall → s.conn.check ≠ .none → exec (.censusWindowCompletion w) s =
        .next (({ closed with conn := { closed.conn with check := .callPending false } }).queued
          (censusCall 2 0 .joinCheckCall)))
      ∧ (a.own = some .gatewayCall → exec (.censusWindowCompletion w) s =
        .next (({ closed with svc := { closed.svc with gatewayCensus := none } }).queued
          (serviceReply 12 .refusedState [] .plain))))
    ∧ (s.link.census = some a → good →
      (a.question = 1 → a.zone.toNat = s.ownZone → s.fire.state = .preAlarm → ¬otherYes) →
      (a.question = 2 → s.conn.check = .none) →
      (∀ q z, s.svc.gatewayCensus = some (q, z) → q = a.question → (q = 1 → z = a.zone) →
        exec (.censusWindowCompletion w) s = .next (({ removed with svc := { removed.svc with gatewayCensus := none } }).queued
          (serviceReply 12 .done [w.answer1, w.answer2] .plain)))
      ∧ ((∀ q z, s.svc.gatewayCensus = some (q, z) → ¬(q = a.question ∧ (q = 1 → z = a.zone))) →
        exec (.censusWindowCompletion w) s = .next removed))
    ∧ (s.link.census = some a → good → a.question = 1 → a.zone.toNat = s.ownZone → s.fire.state = .preAlarm →
      ∃ t, exec (.censusWindowCompletion w) s = .next t
        ∧ (otherYes → fireAlarmed t.fire.state = true)
        ∧ (¬otherYes → t.fire.state = .preAlarm ∧ t.fire.repeatTimer = s.fire.repeatTimer
          ∧ (a.own = some .fireCall → t.fire.census = .idle)))
    ∧ (∀ c r, s.link.census = some a → good → a.question = 2 → s.svc.config = some c →
      s.conn.check = .callPending r → s.conn.state = .waitToken → s.claims.join.own = .listed →
      s.svc.gatewayCensus = none → s.lines.auxNeg = false →
      let v := s.chain.sense
      let near := (v.stringV : Int) - v.busV ≤ 10 * c.matchWindow ∧ (v.busV : Int) - v.stringV ≤ 10 * c.matchWindow
      ∃ t, exec (.censusWindowCompletion w) s = .next t
        ∧ (s.chain.dataLoss = false → (v.busV < 500 ∧ ¬otherYes ∨ 500 ≤ v.busV ∧ near) →
          t.conn = { s.conn with state := .precharge, check := .none, negDrive := true, preDrive := true, posDrive := false,
                                 prechTimer := some s.prechMaxMs, window := some .negClose }
          ∧ t.claims = s.claims)
        ∧ (s.chain.dataLoss = true ∨ (v.busV < 500 ∧ otherYes) ∨ (500 ≤ v.busV ∧ ¬near) →
          t.conn.state = .openRack ∧ t.conn.check = .none ∧ t.claims.join.own = .releaseQueued false
          ∧ t.claims.doneResult = .failed ∧ t.claims.tokenHeld = false
          ∧ t.conn.mismatch = (if s.chain.dataLoss then s.conn.mismatch else true)))

/-- LINK_IDLE_ATTEMPT_START: the head of the queue goes on the line, an ANNOUNCE with its payload formed from the values
as they stand (R165, R163); LOST_ARBITRATION takes it off the line again, in its place, and reception goes on (R165), with
the frame that won in it (an inference, log 38). At most one ANNOUNCE waits (R54): where the one off the line meets
another, the first stays (the model's choice, log 14). The bytes of the ANNOUNCE payload are laid out as R183 gives them,
with the codes of its table; the bits it gives no meaning are 0 (the model's choice, log 42). What the line carries is the frame of the entry, bit by bit (R160, R161). When an attempt
starts, and with what breaker level, the command says (log 18). -/
def Obligations.AttemptAndArbitration : Prop :=
  AnnounceCodes
  ∧ (∀ q : List Entry, (q.filter (fun e => e.cls == .announce && !e.onLine)).length ≤ 1 → oneAnnounce q = q)
  ∧ (∀ (pre post : List Entry) (e : Entry), (∀ x ∈ pre, x.cls ≠ .announce ∨ x.onLine = true) → e.cls = .announce →
    e.onLine = false →
    oneAnnounce (pre ++ e :: post) = pre ++ e :: post.filter (fun x => !(x.cls == .announce && !x.onLine)))
  ∧ ∀ (s : State) (b : Bool), s.Steady →
    (∀ e q, s.link.queue = e :: q → e.onLine = true →
      s.sendingLevels = some (frameLevels (encodeFrame
        { cls := e.cls.code, sender := BitVec.ofNat 5 s.ownNumber, kind := e.kind, payload := e.payload })))
    ∧
    let u := { s with lines := { s.lines with breakerClosed := b } }
    (s.onLine = none → s.link.census = none → ∀ e q, s.link.queue = e :: q →
      exec (.linkIdleAttemptStart b) s = .next { u with link := { u.link with
        queue := { e with onLine := true, payload := if e.cls = .announce then u.announcePayload else e.payload } :: q
        reception := .none } })
    ∧ (s.onLine = none → s.link.census = none → s.link.queue = [] →
      exec (.linkIdleAttemptStart b) s = .next { u with link := { u.link with reception := .none } })
    ∧ (s.onLine ≠ none ∨ s.link.census ≠ none → exec (.linkIdleAttemptStart b) s = .next u)
    ∧ (s.onLine = none → exec .lostArbitration s = .next s)
    ∧ (s.onLine ≠ none → exec .lostArbitration s = .next { s with link := { s.link with
        queue := oneAnnounce (s.link.queue.map (fun e => if e.onLine then
          { e with onLine := false, payload := if e.cls = .announce then [] else e.payload } else e))
        reception := .frame } })
    ∧ (let p := u.announcePayload
      p.length = 24 ∧ (p.getD 0 0).toNat = modeCode s.svc.mode ∧ (p.getD 1 0).toNat = connCode s.conn.state
      ∧ (p.getD 2 0).toNat = fireCode s.fire.state
      ∧ (s.thermal.level ≤ 3 → (p.getD 3 0).toNat = thermalCode s.thermal.state + 16 * s.thermal.level)
      ∧ (p.getD 4 0).toNat = s.ownZone
      ∧ ((p.getD 5 0).getLsbD 0 = decide (s.claims.join.own = .listed))
      ∧ ((p.getD 5 0).getLsbD 1 = decide (s.claims.heat.own = .listed))
      ∧ (p.getD 5 0).getLsbD 2 = s.fire.serviceKey ∧ (p.getD 5 0).getLsbD 3 = b
      ∧ (p.getD 5 0).getLsbD 4 = s.grid.permit ∧ (p.getD 5 0).toNat < 32
      ∧ (p.getD 6 0 ++ p.getD 7 0 : BitVec 16) = s.conditionWord
      ∧ natOfBytes2 (p.getD 8 0) (p.getD 9 0) = s.env.ec % 65536
      ∧ natOfBytes2 (p.getD 10 0) (p.getD 11 0) = s.env.ed % 65536
      ∧ natOfBytes2 (p.getD 12 0) (p.getD 13 0) = s.chain.sense.stringV % 65536
      ∧ natOfBytes2 (p.getD 14 0) (p.getD 15 0) = s.chain.sense.busV % 65536
      ∧ (p.getD 16 0 ++ p.getD 17 0 : BitVec 16) = BitVec.ofInt 16 s.chain.sense.current
      ∧ natOfBytes2 (p.getD 18 0) (p.getD 19 0) = s.chain.vmin % 65536
      ∧ natOfBytes2 (p.getD 20 0) (p.getD 21 0) = s.chain.vmax % 65536
      ∧ p.getD 22 0 = BitVec.ofInt 8 s.chain.tmin ∧ p.getD 23 0 = BitVec.ofInt 8 s.chain.tmax)

/-- ATTEMPT_BIT_ERROR: the entry waits again with one more error, and after its fourth attempt it is dropped and its loss
reported to the block that queued it (R166); errors in the first two bytes are counted, one further on clears the count,
and the third sets DUPLICATE_ID, with which LISTENING and ACTIVE go to SAFE (R167, R177). That the receiver then waits for
the next idle is an inference (log 38; R168 says that the station receives the rest of the traffic). At most one ANNOUNCE
waits (R54; which one stays is log 14). That nothing happens with nothing on the line (log 18), and that byte 0 counts
among the first two and a byte above 29 among the further ones (log 33), are the model's choices. -/
def Obligations.BitErrorsDropTheFrame : Prop :=
  ∀ (s : State) (k : Nat), s.Steady → s.svc.restart = .none →
    (s.onLine = none → exec (.attemptBitError k) s = .next s)
    ∧ ∀ e, s.onLine = some e →
      let count := if k ≤ 2 then s.link.headerErrors + 1 else 0
      let waits := { s with link := { s.link with
        queue := oneAnnounce (s.link.queue.map (fun x => if x.onLine then
          { x with onLine := false, payload := if x.cls = .announce then [] else x.payload, errors := x.errors + 1 } else x))
        reception := .untilIdle, headerErrors := count } }
      let dropped := { s with link := { s.link with
        queue := s.link.queue.filter (fun x => !x.onLine), reception := .untilIdle, headerErrors := count } }
      (count ≠ 3 → e.errors < 3 → exec (.attemptBitError k) s = .next waits)
      ∧ (count ≠ 3 → 3 ≤ e.errors →
        (e.cls = .fire ∨ e.cls = .announce → exec (.attemptBitError k) s = .next dropped)
        ∧ (e.cls = .service → exec (.attemptBitError k) s = .next dropped)
        ∧ (e.cls = .census → e.purpose = .fireCall → exec (.attemptBitError k) s =
          .next { dropped with fire := { dropped.fire with census := .idle } })
        ∧ (e.cls = .census → e.purpose = .gatewayCall → exec (.attemptBitError k) s =
          .next { dropped with svc := { dropped.svc with gatewayCensus := none } })
        ∧ (e.cls = .claim → e.kind = 1 → s.claims.join.own = .claimQueued false → exec (.attemptBitError k) s =
          .next { dropped with claims := { dropped.claims with join := { dropped.claims.join with requeue := true } } })
        ∧ (e.cls = .claim → e.kind = 3 → s.claims.heat.own = .claimQueued true → exec (.attemptBitError k) s =
          .next { dropped with claims := { dropped.claims with heat := { dropped.claims.heat with own := .notClaimed } } }))
      ∧ (count = 3 → ∃ t, exec (.attemptBitError k) s = .next t ∧ t.svc.duplicateId = true ∧ t.link.headerErrors = 0
        ∧ (s.svc.mode = .listening ∨ s.svc.mode = .active → t.svc.mode = .safe ∧ t.env.ec = 0 ∧ t.env.ed = 0
          ∧ takesForcedLeave t.conn.state = false)
        ∧ (s.svc.mode ≠ .listening → s.svc.mode ≠ .active → t.svc.mode = s.svc.mode))

/-- OWN_FRAME_COMPLETION: the entry leaves the queue and the header error count is 0 (R168); an own JOIN_CLAIM puts the own
number on the list and an own JOIN_DONE takes it off, likewise for the heater (R70, R71), the head timer starting for a new
head (R78; without a configuration set its length is a free value, log 5); a claim under the cancel mark is released at once,
with JOIN_DONE FAILED or HEAT_RELEASE queued (R71); an own CENSUS_CALL freezes the own answer (R171); the other frames have no
further effect. -/
def Obligations.OwnFrameCompletes : Prop :=
  ∀ (s : State) (e : Entry), s.Steady → s.SignalsCurrent → s.svc.restart ≠ .pending → s.link.queue.length ≤ 8 →
    s.onLine = some e →
    let u := s.sent
    let join := s.claims.join.entries
    let heat := s.claims.heat.entries
    (e.cls = .fire ∨ e.cls = .announce ∨ e.cls = .service → exec .ownFrameCompletion s = .next u)
    ∧ (let q := e.payload.getD 0 0
      let z := e.payload.getD 1 0
      e.cls = .census → exec .ownFrameCompletion s = .next { u with link := { u.link with
        census := some { question := q, zone := z, answer := s.censusAnswer q z, own := some e.purpose } } })
    ∧ (e.cls = .claim → e.kind = 1 → s.claims.join.own = .claimQueued false → s.ownNumber ∉ join →
      (join ≠ [] → exec .ownFrameCompletion s = .next { u with claims := { u.claims with
        join := { u.claims.join with entries := join ++ [s.ownNumber], own := .listed } } })
      ∧ (join = [] → s.conn.state = .waitToken → exec .ownFrameCompletion s = .next ({ u with
        claims := { u.claims with
          join := { u.claims.join with entries := [s.ownNumber], own := .listed }
          tokenHeld := true, headTimer := some (s.prechMaxMs + 2000) }
        conn := { u.conn with check := .callPending false }
        grid := { u.grid with permit := false } }.queued (censusCall 2 0 .joinCheckCall))))
    ∧ (e.cls = .claim → e.kind = 1 → s.claims.join.own = .claimQueued true → s.ownNumber ∉ join →
      exec .ownFrameCompletion s = .next ({ u with
        claims := { u.claims with
          join := { u.claims.join with entries := join ++ [s.ownNumber], own := .releaseQueued false }
          doneResult := .failed
          headTimer := if join = [] then some (s.prechMaxMs + 2000) else u.claims.headTimer }
        grid := { u.grid with permit := false } }.queued (joinDoneFrame .failed)))
    ∧ (e.cls = .claim → e.kind = 2 → s.claims.join.own = .releaseQueued false →
      (join = [s.ownNumber] → exec .ownFrameCompletion s = .next { u with
        claims := { u.claims with join := { u.claims.join with entries := [], own := .notClaimed }, headTimer := none }
        grid := { u.grid with permit :=
          s.grid.state == .up && s.svc.mode == .active && s.fire.state == .normal && !s.peers.containerFire
            && s.conn.state != .welded && !s.grid.breakerHold } })
      ∧ (∀ m rest, join = s.ownNumber :: m :: rest → s.ownNumber ∉ m :: rest →
        exec .ownFrameCompletion s = .next { u with claims := { u.claims with
          join := { u.claims.join with entries := m :: rest, own := .notClaimed }
          headTimer := some (s.prechMaxMs + 3000) } }))
    ∧ (e.cls = .claim → e.kind = 3 → s.claims.heat.own = .claimQueued false → s.ownNumber ∉ heat →
      (s.claims.limit ≤ heat.length → exec .ownFrameCompletion s = .next { u with claims := { u.claims with
        heat := { u.claims.heat with entries := heat ++ [s.ownNumber], own := .listed } } })
      ∧ (∀ c, s.svc.config = some c → heat.length < s.claims.limit → s.thermal.state = .heatWait →
        exec .ownFrameCompletion s = .next { u with
          claims := { u.claims with
            heat := { u.claims.heat with entries := heat ++ [s.ownNumber], own := .listed }
            slotHeld := true, hold := .running (c.heatHold * 60000) }
          thermal := { u.thermal with state := .heating, heater := true, valve := false } }))
    ∧ (e.cls = .claim → e.kind = 3 → s.claims.heat.own = .claimQueued true → s.ownNumber ∉ heat →
      exec .ownFrameCompletion s = .next ({ u with claims := { u.claims with
        heat := { u.claims.heat with entries := heat ++ [s.ownNumber], own := .releaseQueued false } } }.queued
          heatReleaseFrame))
    ∧ (e.cls = .claim → e.kind = 4 → (s.claims.heat.own = .releaseQueued false →
        exec .ownFrameCompletion s = .next { u with claims := { u.claims with
          heat := { u.claims.heat with entries := heat.filter (fun n => n != s.ownNumber), own := .notClaimed } } })
      ∧ (s.claims.heat.own = .releaseQueued true →
        exec .ownFrameCompletion s = .next ({ u with claims := { u.claims with
          heat := { u.claims.heat with
            entries := heat.filter (fun n => n != s.ownNumber), own := .claimQueued false } } }.queued heatClaimFrame)))

/-- RECEIVED_FRAME_DISCARD has no effect but on reception: the receiver waits for the next idle, or for the next frame where
the frame was complete (R169); while an own frame is on the line nothing is in reception (R168). A frame whose check sequence
does not match is discarded, whatever its other bytes (R169). -/
def Obligations.DiscardedFrameHasNoEffect : Prop :=
  (∀ (s : State) (r : DiscardReason), s.Steady →
    (s.onLine ≠ none → exec (.receivedFrameDiscard r) s = .next s)
    ∧ (s.onLine = none → r ≠ .classKindOrLength →
      exec (.receivedFrameDiscard r) s = .next { s with link := { s.link with reception := .untilIdle } })
    ∧ (s.onLine = none → r = .classKindOrLength → exec (.receivedFrameDiscard r) s = .next s.heard))
  ∧ ∀ (f : Frame) (hi lo : Byte), f.payload.length ≤ 24 →
    [hi, lo] ≠ [hiByte (crc16 (frameBody f)), loByte (crc16 (frameBody f))] →
    decodeReceived (frameBody f ++ [hi, lo]) = .receivedFrameDiscard .checkMismatch

/-! ### Gateway requests -/

/-- The judgement of a SERVICE frame (R170, R178): one that the gateway did not send, or that is not addressed to the
station, is ignored; a kind outside the table is answered UNKNOWN, a SERVICE_REPLY is no request; a wrong number of bytes is
answered REFUSED_VALUE, and a mode in which the kind is not accepted REFUSED_STATE; nothing else changes. The reply's second byte
holds the result and the low six bits of the kind (R183). Into a full queue a frame, a reply among them, comes in place of the
youngest waiting entry of the lowest-ranking class, if that ranks below it, and is else dropped; either sets LINK_CONGESTION, and
the loss is reported: a claim frame to the claim unit (R73), a census call to the block that asked for it (R111, R132, R180), the
reply of a pending restart to the start-up unit, whose reset then follows (R181), and any other loss changes nothing (R164).
That the loss of a JOINED call whose join check has ended changes nothing (log 17), and that the row of unknown requests
with a listed kind byte is judged as a request of that kind, and with 128 as a SERVICE_REPLY (log 26), are the model's choices. -/
def Obligations.RequestJudgement : Prop :=
  ReplyCodes
  ∧ (∀ (kind : Byte) (result : ReplyResult) (data : List Byte) (p : Purpose),
    let e := serviceReply kind result data p
    e.cls = .service ∧ e.kind = 128 ∧ e.onLine = false ∧ e.errors = 0 ∧ e.purpose = p
      ∧ ∃ b, e.payload = 0 :: b :: data ∧ b.toNat = 64 * resultCode result + kind.toNat % 64)
  ∧ (∀ (s : State) (e v : Entry) (pre post : List Entry), 8 ≤ s.link.queue.length → s.link.queue = pre ++ v :: post →
    v.onLine = false → (∀ x ∈ post, x.onLine = true) →
    (e.cls.rank < v.cls.rank → s.enqueue e = ({ s with
      link := { s.link with queue := insertByClass e (pre ++ post), congestion := true } }).reportLoss v)
    ∧ (v.cls.rank ≤ e.cls.rank →
      s.enqueue e = ({ s with link := { s.link with congestion := true } }).reportLoss e))
  ∧ (∀ (s : State) (v : Entry),
    (v.cls = .fire ∨ v.cls = .announce → s.reportLoss v = s)
    ∧ (v.cls = .claim →
      let told := fun l : ClaimList => match l.own with
        | .claimQueued true => { l with own := .notClaimed }
        | .claimQueued false => { l with requeue := true }
        | .releaseQueued _ => { l with requeue := true }
        | .notClaimed => l
        | .listed => l
      (v.kind = 1 ∨ v.kind = 2 → s.reportLoss v = { s with claims := { s.claims with join := told s.claims.join } })
      ∧ (v.kind = 3 ∨ v.kind = 4 → s.reportLoss v = { s with claims := { s.claims with heat := told s.claims.heat } }))
    ∧ (v.cls = .census →
      (v.purpose = .fireCall → s.reportLoss v = { s with fire := { s.fire with census := .idle } })
      ∧ (v.purpose = .joinCheckCall → s.conn.check ≠ .none →
        s.reportLoss v = { s with conn := { s.conn with check := .callPending true } })
      ∧ (v.purpose = .gatewayCall → s.reportLoss v = { s with svc := { s.svc with gatewayCensus := none } })
      ∧ (v.purpose = .orphanCall → s.reportLoss v = s))
    ∧ (v.cls = .service →
      (v.purpose = .restartReply → s.svc.restart = .pending →
        (s.reportLoss v).finish = exec (.powerOnReset s.lines.straps) s)
      ∧ (v.purpose = .plain → s.reportLoss v = s)))
  ∧ (∀ (s : State) (dest : Byte) (v : Entry) (pre post : List Entry), s.Steady → s.Hears → s.addressed dest = true →
    s.link.queue.length = 8 → s.link.queue = pre ++ v :: post → (∀ x ∈ post, x.onLine = true) →
    ∃ d, let h := { s.heard with link := { s.heard.link with congestion := true } }
      (v.cls = .announce → exec (.readStatus 0 [dest]) s = .next
        { h with link := { h.link with queue := insertByClass (serviceReply 1 .done d .plain) (pre ++ post) } })
      ∧ (v.cls ≠ .announce → exec (.readStatus 0 [dest]) s = .next h))
  ∧ ∀ (s : State) (i : Instr) (sender : BitVec 5) (kind : Byte) (payload : List Byte), s.Steady → s.Hears → s.Room →
    requestForm i = some (sender, kind, payload) →
    (sender ≠ 0 ∨ payload = [] → exec i s = .next s.heard)
    ∧ ∀ dest args, payload = dest :: args →
      (s.addressed dest = false → exec i s = .next s.heard)
      ∧ (sender = 0 → s.addressed dest = true →
        (kind = 128 → exec i s = .next s.heard)
        ∧ (kind ≠ 128 → requestLength kind = none → exec i s = .next (s.replied kind .unknown []))
        ∧ ∀ n, requestLength kind = some n →
          (args.length ≠ n → exec i s = .next (s.replied kind .refusedValue []))
          ∧ (args.length = n → requestMode kind s.svc.mode = false →
            exec i s = .next (s.replied kind .refusedState [])))

/-- READ_STATUS and READ_MODULE change nothing but the queue, and their replies carry the values as they stand in the bytes of
R183 (R179): the codes, the scan record, the condition word bit by bit and the list lengths; the age, the mask and the cell
voltages of the half and the temperatures, −128 standing for an invalid one. A position or half out of range is refused. The codes
are those of the table of R183 (the one of LOADING, in which no request is taken, is the model's: log 8). -/
def Obligations.ReadingsReplied : Prop :=
  AnnounceCodes ∧ ReplyCodes
  ∧ ∀ (s : State) (dest : Byte), s.Steady → s.Hears → s.Room → s.addressed dest = true →
    (∃ d, exec (.readStatus 0 [dest]) s = .next (s.replied 1 .done d)
      ∧ d.length = 14 ∧ (d.getD 0 0).toNat = modeCode s.svc.mode ∧ (d.getD 1 0).toNat = fireCode s.fire.state
      ∧ (d.getD 2 0).toNat = connCode s.conn.state
      ∧ natOfBytes2 (d.getD 3 0) (d.getD 4 0) = s.chain.record.number % 65536
      ∧ (d.getD 5 0).toNat = outcomeCode s.chain.record.outcome
      ∧ (s.chain.record.lastRead = none → (d.getD 6 0).toNat = 255)
      ∧ (∀ p, s.chain.record.lastRead = some p → (d.getD 6 0).toNat = p % 256)
      ∧ (d.getD 7 0).toNat = s.chain.record.notRead % 256
      ∧ (d.getD 8 0).toNat = s.chain.record.bad.length % 256
      ∧ (let w : BitVec 16 := d.getD 9 0 ++ d.getD 10 0
        w.getLsbD 0 = s.chain.dataLoss ∧ w.getLsbD 1 = s.chain.tempLoss ∧ w.getLsbD 2 = s.env.trip
        ∧ w.getLsbD 3 = s.thermal.degraded ∧ w.getLsbD 4 = s.fire.loopTrouble ∧ w.getLsbD 5 = s.conn.mismatch
        ∧ w.getLsbD 6 = s.conn.prechFail ∧ w.getLsbD 7 = s.link.congestion ∧ w.getLsbD 8 = s.svc.duplicateId
        ∧ w.getLsbD 9 = s.chain.chainBreak ∧ w.getLsbD 10 = s.svc.joinHeld ∧ w.getLsbD 11 = s.grid.breakerHold
        ∧ w.getLsbD 12 = s.fire.serviceKey ∧ w.getLsbD 13 = s.svc.configFaultFlag ∧ w.getLsbD 14 = false
        ∧ w.getLsbD 15 = false)
      ∧ (d.getD 11 0).toNat = s.claims.join.entries.length % 256
      ∧ (d.getD 12 0).toNat = s.claims.heat.entries.length % 256
      ∧ (d.getD 13 0).toNat = s.balance.members.length % 256)
    ∧ ∀ p h : Byte,
      let inRange := (h = 1 ∨ h = 2) ∧ 1 ≤ p.toNat
        ∧ match s.svc.config with
          | some c => p.toNat ≤ c.modules ∧ (h = 2 → c.cells ≠ 8)
          | none => p.toNat ≤ 12
      (¬inRange → exec (.readModule 0 [dest, p, h]) s = .next (s.replied 2 .refusedValue []))
      ∧ (inRange → ∃ d, exec (.readModule 0 [dest, p, h]) s = .next (s.replied 2 .done d)
        ∧ d.length = 22 ∧ (d.getD 0 0).toNat = (s.moduleRecord p.toNat).age % 256
        ∧ ∀ k, k < 8 →
          ((d.getD 1 0).getLsbD k = true ↔ 8 * (h.toNat - 1) + k + 1 ∈ (s.moduleRecord p.toNat).mask)
          ∧ natOfBytes2 (d.getD (2 + 2 * k) 0) (d.getD (3 + 2 * k) 0)
            = (s.moduleRecord p.toNat).cells.getD (8 * (h.toNat - 1) + k) 0 % 65536
          ∧ (k < 4 → d.getD (18 + k) 0 = BitVec.ofInt 8 (((s.moduleRecord p.toNat).temps.getD k none).getD (-128))))

/-- The accepted requests that set a value, and those whose answer is deferred: SET_SITE_CAP limits the pair at once (R26,
R27); HOLD_JOIN and RESUME_JOIN write JOIN_HELD (R180); BREAKER_HOLD withholds the permit and BREAKER_RELEASE leaves it to R153
(R156); CENSUS_REQUEST queues the gateway's call, and is refused while one is pending or for values out of range (R180);
RESTART is accepted from OPEN, OUT_OF_SERVICE and LOCKOUT with fire state NORMAL, and the completion of its reply ends in the
reset (R181, R182). A further RESTART while one is pending is answered and leaves it. A pending restart is cancelled, and no reset
follows, when a command leaves the connection or the fire state outside the accepted ones; the reply that was queued still goes
out, as at a LOOP_SAMPLE that raises PRE_ALARM (R181). That a claim which leaves OPEN cancels the restart before its JOIN_CLAIM
displaces that reply is the model's choice (log 40). -/
def Obligations.SettingsAndDeferredRequests : Prop :=
  (∀ (i : Instr) (s t : State), exec i s = .next t → s.svc.restart = .pending → s.AllowsRestart → s.svc.mode ≠ .loading →
    ¬t.AllowsRestart → t.svc.restart = .none ∧ t.svc.mode ≠ .loading)
  ∧ (∀ (s : State) (iS iH : Nat), s.svc.restart = .pending → s.AllowsRestart → s.svc.mode ≠ .loading → s.fire.loopTimer ≠ none →
    s.link.queue.length ≤ 6 → s.zonePeerAlarm = false → s.env.latch = false → s.fire.loopS.state ≠ .alarm →
    (s.fire.loopS.sampled (loopClass iS)).state = .alarm → (s.fire.loopH.sampled (loopClass iH)).state ≠ .alarm →
    ∃ t, exec (.loopSample iS iH) s = .next t ∧ t.fire.state = .preAlarm ∧ t.svc.restart = .none ∧ t.svc.mode = s.svc.mode
      ∧ ∀ e ∈ s.link.queue, e.purpose = .restartReply → { e with purpose := .plain } ∈ t.link.queue)
  ∧ ∀ (s : State) (dest : Byte), s.Steady → s.Hears → s.Room → s.addressed dest = true →
    (∀ c hi lo, s.svc.mode = .active → s.svc.config = some c →
      let cap := min (hi.toNat * 256 + lo.toNat) c.irackMax
      exec (.setSiteCap 0 [dest, hi, lo]) s = .next (({ s with
        svc := { s.svc with siteCap := cap }
        env := { s.env with ec := min s.env.ec cap, ed := min s.env.ed cap } }).replied 3 .done []))
    ∧ (s.svc.mode = .active →
      exec (.holdJoin 0 [dest]) s = .next (({ s with svc := { s.svc with joinHeld := true } }).replied 4 .done [])
      ∧ exec (.resumeJoin 0 [dest]) s = .next (({ s with svc := { s.svc with joinHeld := false } }).replied 5 .done []))
    ∧ (s.svc.mode = .active ∨ s.svc.mode = .safe ∨ s.svc.mode = .configFault →
      exec (.breakerHold 0 [dest]) s =
        .next (({ s with grid := { s.grid with breakerHold := true, permit := false } }).replied 10 .done [])
      ∧ exec (.breakerRelease 0 [dest]) s =
        .next (({ s with grid := { s.grid with
          breakerHold := false
          permit := s.grid.state == .up && s.svc.mode == .active && s.fire.state == .normal && !s.peers.containerFire
            && s.claims.join.entries.isEmpty && s.conn.state != .welded } } : State).replied 11 .done []))
    ∧ (∀ q z : Byte, s.svc.mode = .active ∨ s.svc.mode = .listening →
      let ok := (q = 1 ∧ 1 ≤ z.toNat ∧ z.toNat ≤ 4) ∨ ((q = 2 ∨ q = 3 ∨ q = 4) ∧ z = 0)
      (¬ok → exec (.censusRequest 0 [dest, q, z]) s = .next (s.replied 12 .refusedValue []))
      ∧ (ok → s.svc.gatewayCensus ≠ none →
        exec (.censusRequest 0 [dest, q, z]) s = .next (s.replied 12 .refusedState []))
      ∧ (ok → s.svc.gatewayCensus = none →
        exec (.censusRequest 0 [dest, q, z]) s = .next
          (({ s with svc := { s.svc with gatewayCensus := some (q, z) } }).heard.queued (censusCall q z .gatewayCall))))
    ∧ (let ok := (s.conn.state = .openRack ∨ s.conn.state = .outOfService ∨ s.conn.state = .lockout)
        ∧ s.fire.state = .normal
      (¬ok → exec (.restart 0 [dest]) s = .next (s.replied 13 .refusedState []))
      ∧ (ok → s.svc.restart = .none → exec (.restart 0 [dest]) s = .next
        (({ s with svc := { s.svc with restart := .pending } }).heard.queued
          (serviceReply 13 .done [] .restartReply)))
      ∧ (ok → s.svc.restart = .pending → exec (.restart 0 [dest]) s = .next (s.replied 13 .done []))
      ∧ (∀ (t : State) (e : Entry), t.Steady → t.svc.restart = .pending → t.onLine = some e → e.cls = .service →
        e.purpose = .restartReply → exec .ownFrameCompletion t = exec (.powerOnReset t.lines.straps) t))

/-- TAKE_OUT, RETURN, CLEAR_LOCKOUT and FIRE_RESET in their states. TAKE_OUT takes OPEN to OUT_OF_SERVICE and JOINED to
LEAVING, where the leave timer runs for 5 s unless the current already allows the opening, and is refused while joining,
opening, WELDED or locked out (R142, R143); RETURN takes OUT_OF_SERVICE to OPEN (R144); CLEAR_LOCKOUT clears a trip whose
condition has gone, a LOCKOUT, and WELDED with both contacts open (R19, R139, R145); FIRE_RESET takes the fire unit to
NORMAL with every output released once no loop is in ALARM and the rise flag is clear, with a FIRE_NOTICE of NORMAL
(R122; its bits without a meaning are 0, log 42), and clears the container fire flag where no peer is in alarm (R61; that it does so after an own alarm too, against
R62, is the model's choice, log 34); both are answered DONE, in a queue that has room for what they queue. -/
def Obligations.ServiceRequestsOfTheRack : Prop :=
  ∀ (s : State) (dest : Byte), s.Steady → s.Hears → s.Room → s.addressed dest = true → s.svc.restart = .none →
    (∀ c, s.svc.mode = .active → s.svc.config = some c →
      let low := (s.chain.sense.current : Int) ≤ 10 * c.leaveCurrent ∧ -(10 * c.leaveCurrent : Int) ≤ s.chain.sense.current
      (s.conn.state = .openRack → exec (.takeOut 0 [dest]) s =
        .next (({ s with conn := { s.conn with state := .outOfService } }).replied 6 .done []))
      ∧ (s.conn.state = .joined → s.chain.sense.age ≠ 0 ∨ ¬low → exec (.takeOut 0 [dest]) s =
        .next (({ s with conn := { s.conn with state := .leaving, leaveTimer := some 5000 } }).replied 6 .done []))
      ∧ (s.conn.state = .joined → s.chain.sense.age = 0 → low → s.lines.auxPos = true → exec (.takeOut 0 [dest]) s =
        .next (({ s with conn := { s.conn with
          state := .leaving, leaveTimer := none, posDrive := false, window := some .leavePos } }).replied 6 .done []))
      ∧ (s.conn.state = .leaving ∨ s.conn.state = .outOfService →
        exec (.takeOut 0 [dest]) s = .next (s.replied 6 .done []))
      ∧ (s.conn.state = .precharge ∨ s.conn.state = .closing ∨ s.conn.state = .opening ∨ s.conn.state = .welded
        ∨ s.conn.state = .lockout → exec (.takeOut 0 [dest]) s = .next (s.replied 6 .refusedState []))
      ∧ (s.conn.state = .waitToken → s.link.queue.length ≤ 6 → ∃ t, exec (.takeOut 0 [dest]) s = .next t
        ∧ t.conn.state = .outOfService ∧ t.conn.check = .none ∧ serviceReply 6 .done [] .plain ∈ t.link.queue))
    ∧ (s.svc.mode = .active →
      (s.conn.state = .outOfService → exec (.returnRack 0 [dest]) s =
        .next (({ s with conn := { s.conn with state := .openRack } }).replied 7 .done []))
      ∧ (s.conn.state ≠ .outOfService → exec (.returnRack 0 [dest]) s = .next (s.replied 7 .refusedState []))
      ∧ (let stands := (∃ n ∈ s.env.cellTrips, n ≠ 0) ∨ s.env.overCount ≠ 0
        let kept := s.env.trip && decide stands
        let clears := s.env.trip = true ∧ ¬stands
        let opens := s.conn.state = .lockout
          ∨ (s.conn.state = .welded ∧ s.lines.auxPos = false ∧ s.lines.auxNeg = false)
        (opens → exec (.clearLockout 0 [dest]) s = .next (({ s with
          env := { s.env with trip := kept }
          conn := { s.conn with state := .openRack, failCount := 0, prechFail := false, failHold := none }
          grid := { s.grid with permit := s.grid.state == .up && s.fire.state == .normal && !s.peers.containerFire
            && s.claims.join.entries.isEmpty && !s.grid.breakerHold } } : State).replied 8 .done []))
        ∧ (¬opens → clears → exec (.clearLockout 0 [dest]) s =
          .next (({ s with env := { s.env with trip := false } }).replied 8 .done []))
        ∧ (¬opens → ¬clears → exec (.clearLockout 0 [dest]) s = .next (s.replied 8 .refusedState []))))
    ∧ (let ready := s.fire.loopS.state ≠ .alarm ∧ s.fire.loopH.state ≠ .alarm ∧ s.env.riseFlag = false
      (s.fire.state ≠ .normal → ¬ready → exec (.fireReset 0 [dest]) s = .next (s.replied 9 .refusedState []))
      ∧ (s.fire.state ≠ .normal → ready → ∃ t, exec (.fireReset 0 [dest]) s = .next t ∧ t.fire.state = .normal
        ∧ t.fire.release = false ∧ t.fire.fireLine = false ∧ t.fire.tripLine = false ∧ t.fire.countdown = none
        ∧ t.fire.repeatTimer = none ∧ t.env.latch = false ∧ t.env.ring = []
        ∧ (s.anyPeerAlarm = false → t.peers.containerFire = false)
        ∧ (s.anyPeerAlarm = true → t.peers.containerFire = s.peers.containerFire)
        ∧ (s.link.queue.length ≤ 5 → serviceReply 9 .done [] .plain ∈ t.link.queue
          ∧ newEntry .fire 1 [byteOfNat s.ownZone, 0, byteOfNat (if s.fire.serviceKey then 8 else 0)] .plain ∈ t.link.queue))
      ∧ (s.fire.state = .normal → s.peers.containerFire = false →
        exec (.fireReset 0 [dest]) s = .next (s.replied 9 .done []))
      ∧ (s.fire.state = .normal → s.peers.containerFire = true → s.anyPeerAlarm = true →
        exec (.fireReset 0 [dest]) s = .next (s.replied 9 .refusedState []))
      ∧ (s.fire.state = .normal → s.peers.containerFire = true → s.anyPeerAlarm = false →
        ∃ t, exec (.fireReset 0 [dest]) s = .next t ∧ t.peers.containerFire = false ∧ t.fire.state = .normal
          ∧ (s.link.queue.length ≤ 6 → serviceReply 9 .done [] .plain ∈ t.link.queue)))
end

