-- ==== Sys2Proof/Laws/Settle.lean ====
section
/-! SUPPORT. The end of a command on a steady state: nothing is left to judge, so that the command answers the state as its
own operation left it. -/

namespace Sys2Proof.Machine

open Sys2Proof

/-- A forced leave leaves a state that it does not act on (R140). -/
theorem forcedLeave_of_not_taken {s : State} (h : takesForcedLeave s.conn.state = false) : s.forcedLeave = s := by
  unfold State.forcedLeave
  cases hs : s.conn.state <;> simp_all [takesForcedLeave]

/-- On a steady state no forced leave is taken. -/
theorem reviewForced_of_steady {s : State} (h : s.Steady) : s.reviewForced = s := by
  unfold State.reviewForced
  split
  · rename_i hc; exact forcedLeave_of_not_taken (h.forced hc)
  · rfl

/-- Writing a container cooling level that is up to date changes nothing (R64). -/
theorem updateContainerLevel_of_eq {s : State} (h : s.peers.containerLevel = s.containerLevelNow) :
    s.updateContainerLevel = s := by
  unfold State.updateContainerLevel
  rw [← h]

/-- Driving chiller lines that are up to date changes nothing (R97). -/
theorem driveChiller_of_steady {s : State} (h : s.Steady) : s.driveChiller = s := by
  have h1 := h.pump1
  have h2 := h.pump2
  have h3 := h.chillerRun
  unfold State.driveChiller
  simp only [← h1, ← h2, ← h3]

/-- Judging a permit that is up to date changes nothing (R153). -/
theorem judgePermit_of_eq {s : State} (h : s.grid.permit = s.permitNow) : s.judgePermit = s := by
  unfold State.judgePermit
  rw [← h]

/-- A steady state settles to itself. -/
theorem settle_of_steady {s : State} (h : s.Steady) : s.settle = s := by
  unfold State.settle
  rw [reviewForced_of_steady h, updateContainerLevel_of_eq h.containerLevel, driveChiller_of_steady h,
    judgePermit_of_eq h.permit]

/-- A command that leaves a steady state answers it. -/
theorem finish_of_steady {s : State} (h : s.Steady) : s.finish = .next s := by
  unfold State.finish
  rw [settle_of_steady h, if_neg h.noDue]

/-- Every command's end answers a next state. -/
theorem finish_next (s : State) : ∃ t, s.finish = .next t := ⟨_, rfl⟩

end Sys2Proof.Machine
end

