-- ==== Sys2Proof/Laws/State.lean ====
section
/-! SUPPORT. The update lemmas of the state: for each named update, each part that it leaves and each value that it writes,
so that no proof unfolds a record update. -/

namespace Sys2Proof.Machine

open Sys2Proof

/-! `State.setQueue` -/

@[simp] theorem State.setQueue_ownNumber (s : State) (q : List Entry) : (s.setQueue q).ownNumber = s.ownNumber := rfl
@[simp] theorem State.setQueue_ownZone (s : State) (q : List Entry) : (s.setQueue q).ownZone = s.ownZone := rfl
@[simp] theorem State.setQueue_lines (s : State) (q : List Entry) : (s.setQueue q).lines = s.lines := rfl
@[simp] theorem State.setQueue_chain (s : State) (q : List Entry) : (s.setQueue q).chain = s.chain := rfl
@[simp] theorem State.setQueue_env (s : State) (q : List Entry) : (s.setQueue q).env = s.env := rfl
@[simp] theorem State.setQueue_balance (s : State) (q : List Entry) : (s.setQueue q).balance = s.balance := rfl
@[simp] theorem State.setQueue_peers (s : State) (q : List Entry) : (s.setQueue q).peers = s.peers := rfl
@[simp] theorem State.setQueue_claims (s : State) (q : List Entry) : (s.setQueue q).claims = s.claims := rfl
@[simp] theorem State.setQueue_thermal (s : State) (q : List Entry) : (s.setQueue q).thermal = s.thermal := rfl
@[simp] theorem State.setQueue_fire (s : State) (q : List Entry) : (s.setQueue q).fire = s.fire := rfl
@[simp] theorem State.setQueue_conn (s : State) (q : List Entry) : (s.setQueue q).conn = s.conn := rfl
@[simp] theorem State.setQueue_grid (s : State) (q : List Entry) : (s.setQueue q).grid = s.grid := rfl
@[simp] theorem State.setQueue_svc (s : State) (q : List Entry) : (s.setQueue q).svc = s.svc := rfl
@[simp] theorem State.setQueue_pending (s : State) (q : List Entry) : (s.setQueue q).pending = s.pending := rfl
@[simp] theorem State.setQueue_link_queue (s : State) (q : List Entry) :
    (s.setQueue q).link.queue = q := rfl
@[simp] theorem State.setQueue_link_headerErrors (s : State) (q : List Entry) :
    (s.setQueue q).link.headerErrors = s.link.headerErrors := rfl
@[simp] theorem State.setQueue_link_reception (s : State) (q : List Entry) :
    (s.setQueue q).link.reception = s.link.reception := rfl
@[simp] theorem State.setQueue_link_census (s : State) (q : List Entry) :
    (s.setQueue q).link.census = s.link.census := rfl
@[simp] theorem State.setQueue_link_congestion (s : State) (q : List Entry) :
    (s.setQueue q).link.congestion = s.link.congestion := rfl

/-! `State.setReception` -/

@[simp] theorem State.setReception_ownNumber (s : State) (r : Reception) : (s.setReception r).ownNumber = s.ownNumber := rfl
@[simp] theorem State.setReception_ownZone (s : State) (r : Reception) : (s.setReception r).ownZone = s.ownZone := rfl
@[simp] theorem State.setReception_lines (s : State) (r : Reception) : (s.setReception r).lines = s.lines := rfl
@[simp] theorem State.setReception_chain (s : State) (r : Reception) : (s.setReception r).chain = s.chain := rfl
@[simp] theorem State.setReception_env (s : State) (r : Reception) : (s.setReception r).env = s.env := rfl
@[simp] theorem State.setReception_balance (s : State) (r : Reception) : (s.setReception r).balance = s.balance := rfl
@[simp] theorem State.setReception_peers (s : State) (r : Reception) : (s.setReception r).peers = s.peers := rfl
@[simp] theorem State.setReception_claims (s : State) (r : Reception) : (s.setReception r).claims = s.claims := rfl
@[simp] theorem State.setReception_thermal (s : State) (r : Reception) : (s.setReception r).thermal = s.thermal := rfl
@[simp] theorem State.setReception_fire (s : State) (r : Reception) : (s.setReception r).fire = s.fire := rfl
@[simp] theorem State.setReception_conn (s : State) (r : Reception) : (s.setReception r).conn = s.conn := rfl
@[simp] theorem State.setReception_grid (s : State) (r : Reception) : (s.setReception r).grid = s.grid := rfl
@[simp] theorem State.setReception_svc (s : State) (r : Reception) : (s.setReception r).svc = s.svc := rfl
@[simp] theorem State.setReception_pending (s : State) (r : Reception) : (s.setReception r).pending = s.pending := rfl
@[simp] theorem State.setReception_link_queue (s : State) (r : Reception) :
    (s.setReception r).link.queue = s.link.queue := rfl
@[simp] theorem State.setReception_link_headerErrors (s : State) (r : Reception) :
    (s.setReception r).link.headerErrors = s.link.headerErrors := rfl
@[simp] theorem State.setReception_link_reception (s : State) (r : Reception) :
    (s.setReception r).link.reception = r := rfl
@[simp] theorem State.setReception_link_census (s : State) (r : Reception) :
    (s.setReception r).link.census = s.link.census := rfl
@[simp] theorem State.setReception_link_congestion (s : State) (r : Reception) :
    (s.setReception r).link.congestion = s.link.congestion := rfl

/-! `State.congest` -/

@[simp] theorem State.congest_ownNumber (s : State) : (s.congest).ownNumber = s.ownNumber := rfl
@[simp] theorem State.congest_ownZone (s : State) : (s.congest).ownZone = s.ownZone := rfl
@[simp] theorem State.congest_lines (s : State) : (s.congest).lines = s.lines := rfl
@[simp] theorem State.congest_chain (s : State) : (s.congest).chain = s.chain := rfl
@[simp] theorem State.congest_env (s : State) : (s.congest).env = s.env := rfl
@[simp] theorem State.congest_balance (s : State) : (s.congest).balance = s.balance := rfl
@[simp] theorem State.congest_peers (s : State) : (s.congest).peers = s.peers := rfl
@[simp] theorem State.congest_claims (s : State) : (s.congest).claims = s.claims := rfl
@[simp] theorem State.congest_thermal (s : State) : (s.congest).thermal = s.thermal := rfl
@[simp] theorem State.congest_fire (s : State) : (s.congest).fire = s.fire := rfl
@[simp] theorem State.congest_conn (s : State) : (s.congest).conn = s.conn := rfl
@[simp] theorem State.congest_grid (s : State) : (s.congest).grid = s.grid := rfl
@[simp] theorem State.congest_svc (s : State) : (s.congest).svc = s.svc := rfl
@[simp] theorem State.congest_pending (s : State) : (s.congest).pending = s.pending := rfl
@[simp] theorem State.congest_link_queue (s : State) :
    (s.congest).link.queue = s.link.queue := rfl
@[simp] theorem State.congest_link_headerErrors (s : State) :
    (s.congest).link.headerErrors = s.link.headerErrors := rfl
@[simp] theorem State.congest_link_reception (s : State) :
    (s.congest).link.reception = s.link.reception := rfl
@[simp] theorem State.congest_link_census (s : State) :
    (s.congest).link.census = s.link.census := rfl
@[simp] theorem State.congest_link_congestion (s : State) :
    (s.congest).link.congestion = true := rfl

/-! `State.setDrives` -/

@[simp] theorem State.setDrives_ownNumber (s : State) (neg pre pos : Bool) : (s.setDrives neg pre pos).ownNumber = s.ownNumber := rfl
@[simp] theorem State.setDrives_ownZone (s : State) (neg pre pos : Bool) : (s.setDrives neg pre pos).ownZone = s.ownZone := rfl
@[simp] theorem State.setDrives_lines (s : State) (neg pre pos : Bool) : (s.setDrives neg pre pos).lines = s.lines := rfl
@[simp] theorem State.setDrives_chain (s : State) (neg pre pos : Bool) : (s.setDrives neg pre pos).chain = s.chain := rfl
@[simp] theorem State.setDrives_env (s : State) (neg pre pos : Bool) : (s.setDrives neg pre pos).env = s.env := rfl
@[simp] theorem State.setDrives_balance (s : State) (neg pre pos : Bool) : (s.setDrives neg pre pos).balance = s.balance := rfl
@[simp] theorem State.setDrives_peers (s : State) (neg pre pos : Bool) : (s.setDrives neg pre pos).peers = s.peers := rfl
@[simp] theorem State.setDrives_claims (s : State) (neg pre pos : Bool) : (s.setDrives neg pre pos).claims = s.claims := rfl
@[simp] theorem State.setDrives_thermal (s : State) (neg pre pos : Bool) : (s.setDrives neg pre pos).thermal = s.thermal := rfl
@[simp] theorem State.setDrives_fire (s : State) (neg pre pos : Bool) : (s.setDrives neg pre pos).fire = s.fire := rfl
@[simp] theorem State.setDrives_grid (s : State) (neg pre pos : Bool) : (s.setDrives neg pre pos).grid = s.grid := rfl
@[simp] theorem State.setDrives_link (s : State) (neg pre pos : Bool) : (s.setDrives neg pre pos).link = s.link := rfl
@[simp] theorem State.setDrives_svc (s : State) (neg pre pos : Bool) : (s.setDrives neg pre pos).svc = s.svc := rfl
@[simp] theorem State.setDrives_pending (s : State) (neg pre pos : Bool) : (s.setDrives neg pre pos).pending = s.pending := rfl
@[simp] theorem State.setDrives_conn_state (s : State) (neg pre pos : Bool) :
    (s.setDrives neg pre pos).conn.state = s.conn.state := rfl
@[simp] theorem State.setDrives_conn_posDrive (s : State) (neg pre pos : Bool) :
    (s.setDrives neg pre pos).conn.posDrive = pos := rfl
@[simp] theorem State.setDrives_conn_negDrive (s : State) (neg pre pos : Bool) :
    (s.setDrives neg pre pos).conn.negDrive = neg := rfl
@[simp] theorem State.setDrives_conn_preDrive (s : State) (neg pre pos : Bool) :
    (s.setDrives neg pre pos).conn.preDrive = pre := rfl
@[simp] theorem State.setDrives_conn_proving (s : State) (neg pre pos : Bool) :
    (s.setDrives neg pre pos).conn.proving = s.conn.proving := rfl
@[simp] theorem State.setDrives_conn_failCount (s : State) (neg pre pos : Bool) :
    (s.setDrives neg pre pos).conn.failCount = s.conn.failCount := rfl
@[simp] theorem State.setDrives_conn_failHold (s : State) (neg pre pos : Bool) :
    (s.setDrives neg pre pos).conn.failHold = s.conn.failHold := rfl
@[simp] theorem State.setDrives_conn_prechTimer (s : State) (neg pre pos : Bool) :
    (s.setDrives neg pre pos).conn.prechTimer = s.conn.prechTimer := rfl
@[simp] theorem State.setDrives_conn_leaveTimer (s : State) (neg pre pos : Bool) :
    (s.setDrives neg pre pos).conn.leaveTimer = s.conn.leaveTimer := rfl
@[simp] theorem State.setDrives_conn_window (s : State) (neg pre pos : Bool) :
    (s.setDrives neg pre pos).conn.window = s.conn.window := rfl
@[simp] theorem State.setDrives_conn_check (s : State) (neg pre pos : Bool) :
    (s.setDrives neg pre pos).conn.check = s.conn.check := rfl
@[simp] theorem State.setDrives_conn_dest (s : State) (neg pre pos : Bool) :
    (s.setDrives neg pre pos).conn.dest = s.conn.dest := rfl
@[simp] theorem State.setDrives_conn_mismatch (s : State) (neg pre pos : Bool) :
    (s.setDrives neg pre pos).conn.mismatch = s.conn.mismatch := rfl
@[simp] theorem State.setDrives_conn_prechFail (s : State) (neg pre pos : Bool) :
    (s.setDrives neg pre pos).conn.prechFail = s.conn.prechFail := rfl

/-! `State.setWindow` -/

@[simp] theorem State.setWindow_ownNumber (s : State) (w : Option WindowUse) : (s.setWindow w).ownNumber = s.ownNumber := rfl
@[simp] theorem State.setWindow_ownZone (s : State) (w : Option WindowUse) : (s.setWindow w).ownZone = s.ownZone := rfl
@[simp] theorem State.setWindow_lines (s : State) (w : Option WindowUse) : (s.setWindow w).lines = s.lines := rfl
@[simp] theorem State.setWindow_chain (s : State) (w : Option WindowUse) : (s.setWindow w).chain = s.chain := rfl
@[simp] theorem State.setWindow_env (s : State) (w : Option WindowUse) : (s.setWindow w).env = s.env := rfl
@[simp] theorem State.setWindow_balance (s : State) (w : Option WindowUse) : (s.setWindow w).balance = s.balance := rfl
@[simp] theorem State.setWindow_peers (s : State) (w : Option WindowUse) : (s.setWindow w).peers = s.peers := rfl
@[simp] theorem State.setWindow_claims (s : State) (w : Option WindowUse) : (s.setWindow w).claims = s.claims := rfl
@[simp] theorem State.setWindow_thermal (s : State) (w : Option WindowUse) : (s.setWindow w).thermal = s.thermal := rfl
@[simp] theorem State.setWindow_fire (s : State) (w : Option WindowUse) : (s.setWindow w).fire = s.fire := rfl
@[simp] theorem State.setWindow_grid (s : State) (w : Option WindowUse) : (s.setWindow w).grid = s.grid := rfl
@[simp] theorem State.setWindow_link (s : State) (w : Option WindowUse) : (s.setWindow w).link = s.link := rfl
@[simp] theorem State.setWindow_svc (s : State) (w : Option WindowUse) : (s.setWindow w).svc = s.svc := rfl
@[simp] theorem State.setWindow_pending (s : State) (w : Option WindowUse) : (s.setWindow w).pending = s.pending := rfl
@[simp] theorem State.setWindow_conn_state (s : State) (w : Option WindowUse) :
    (s.setWindow w).conn.state = s.conn.state := rfl
@[simp] theorem State.setWindow_conn_posDrive (s : State) (w : Option WindowUse) :
    (s.setWindow w).conn.posDrive = s.conn.posDrive := rfl
@[simp] theorem State.setWindow_conn_negDrive (s : State) (w : Option WindowUse) :
    (s.setWindow w).conn.negDrive = s.conn.negDrive := rfl
@[simp] theorem State.setWindow_conn_preDrive (s : State) (w : Option WindowUse) :
    (s.setWindow w).conn.preDrive = s.conn.preDrive := rfl
@[simp] theorem State.setWindow_conn_proving (s : State) (w : Option WindowUse) :
    (s.setWindow w).conn.proving = s.conn.proving := rfl
@[simp] theorem State.setWindow_conn_failCount (s : State) (w : Option WindowUse) :
    (s.setWindow w).conn.failCount = s.conn.failCount := rfl
@[simp] theorem State.setWindow_conn_failHold (s : State) (w : Option WindowUse) :
    (s.setWindow w).conn.failHold = s.conn.failHold := rfl
@[simp] theorem State.setWindow_conn_prechTimer (s : State) (w : Option WindowUse) :
    (s.setWindow w).conn.prechTimer = s.conn.prechTimer := rfl
@[simp] theorem State.setWindow_conn_leaveTimer (s : State) (w : Option WindowUse) :
    (s.setWindow w).conn.leaveTimer = s.conn.leaveTimer := rfl
@[simp] theorem State.setWindow_conn_window (s : State) (w : Option WindowUse) :
    (s.setWindow w).conn.window = w := rfl
@[simp] theorem State.setWindow_conn_check (s : State) (w : Option WindowUse) :
    (s.setWindow w).conn.check = s.conn.check := rfl
@[simp] theorem State.setWindow_conn_dest (s : State) (w : Option WindowUse) :
    (s.setWindow w).conn.dest = s.conn.dest := rfl
@[simp] theorem State.setWindow_conn_mismatch (s : State) (w : Option WindowUse) :
    (s.setWindow w).conn.mismatch = s.conn.mismatch := rfl
@[simp] theorem State.setWindow_conn_prechFail (s : State) (w : Option WindowUse) :
    (s.setWindow w).conn.prechFail = s.conn.prechFail := rfl

/-! `State.setMismatch` -/

@[simp] theorem State.setMismatch_ownNumber (s : State) (b : Bool) : (s.setMismatch b).ownNumber = s.ownNumber := rfl
@[simp] theorem State.setMismatch_ownZone (s : State) (b : Bool) : (s.setMismatch b).ownZone = s.ownZone := rfl
@[simp] theorem State.setMismatch_lines (s : State) (b : Bool) : (s.setMismatch b).lines = s.lines := rfl
@[simp] theorem State.setMismatch_chain (s : State) (b : Bool) : (s.setMismatch b).chain = s.chain := rfl
@[simp] theorem State.setMismatch_env (s : State) (b : Bool) : (s.setMismatch b).env = s.env := rfl
@[simp] theorem State.setMismatch_balance (s : State) (b : Bool) : (s.setMismatch b).balance = s.balance := rfl
@[simp] theorem State.setMismatch_peers (s : State) (b : Bool) : (s.setMismatch b).peers = s.peers := rfl
@[simp] theorem State.setMismatch_claims (s : State) (b : Bool) : (s.setMismatch b).claims = s.claims := rfl
@[simp] theorem State.setMismatch_thermal (s : State) (b : Bool) : (s.setMismatch b).thermal = s.thermal := rfl
@[simp] theorem State.setMismatch_fire (s : State) (b : Bool) : (s.setMismatch b).fire = s.fire := rfl
@[simp] theorem State.setMismatch_grid (s : State) (b : Bool) : (s.setMismatch b).grid = s.grid := rfl
@[simp] theorem State.setMismatch_link (s : State) (b : Bool) : (s.setMismatch b).link = s.link := rfl
@[simp] theorem State.setMismatch_svc (s : State) (b : Bool) : (s.setMismatch b).svc = s.svc := rfl
@[simp] theorem State.setMismatch_pending (s : State) (b : Bool) : (s.setMismatch b).pending = s.pending := rfl
@[simp] theorem State.setMismatch_conn_state (s : State) (b : Bool) :
    (s.setMismatch b).conn.state = s.conn.state := rfl
@[simp] theorem State.setMismatch_conn_posDrive (s : State) (b : Bool) :
    (s.setMismatch b).conn.posDrive = s.conn.posDrive := rfl
@[simp] theorem State.setMismatch_conn_negDrive (s : State) (b : Bool) :
    (s.setMismatch b).conn.negDrive = s.conn.negDrive := rfl
@[simp] theorem State.setMismatch_conn_preDrive (s : State) (b : Bool) :
    (s.setMismatch b).conn.preDrive = s.conn.preDrive := rfl
@[simp] theorem State.setMismatch_conn_proving (s : State) (b : Bool) :
    (s.setMismatch b).conn.proving = s.conn.proving := rfl
@[simp] theorem State.setMismatch_conn_failCount (s : State) (b : Bool) :
    (s.setMismatch b).conn.failCount = s.conn.failCount := rfl
@[simp] theorem State.setMismatch_conn_failHold (s : State) (b : Bool) :
    (s.setMismatch b).conn.failHold = s.conn.failHold := rfl
@[simp] theorem State.setMismatch_conn_prechTimer (s : State) (b : Bool) :
    (s.setMismatch b).conn.prechTimer = s.conn.prechTimer := rfl
@[simp] theorem State.setMismatch_conn_leaveTimer (s : State) (b : Bool) :
    (s.setMismatch b).conn.leaveTimer = s.conn.leaveTimer := rfl
@[simp] theorem State.setMismatch_conn_window (s : State) (b : Bool) :
    (s.setMismatch b).conn.window = s.conn.window := rfl
@[simp] theorem State.setMismatch_conn_check (s : State) (b : Bool) :
    (s.setMismatch b).conn.check = s.conn.check := rfl
@[simp] theorem State.setMismatch_conn_dest (s : State) (b : Bool) :
    (s.setMismatch b).conn.dest = s.conn.dest := rfl
@[simp] theorem State.setMismatch_conn_mismatch (s : State) (b : Bool) :
    (s.setMismatch b).conn.mismatch = b := rfl
@[simp] theorem State.setMismatch_conn_prechFail (s : State) (b : Bool) :
    (s.setMismatch b).conn.prechFail = s.conn.prechFail := rfl

/-! `State.setJoinOwn` -/

@[simp] theorem State.setJoinOwn_ownNumber (s : State) (o : OwnClaim) : (s.setJoinOwn o).ownNumber = s.ownNumber := rfl
@[simp] theorem State.setJoinOwn_ownZone (s : State) (o : OwnClaim) : (s.setJoinOwn o).ownZone = s.ownZone := rfl
@[simp] theorem State.setJoinOwn_lines (s : State) (o : OwnClaim) : (s.setJoinOwn o).lines = s.lines := rfl
@[simp] theorem State.setJoinOwn_chain (s : State) (o : OwnClaim) : (s.setJoinOwn o).chain = s.chain := rfl
@[simp] theorem State.setJoinOwn_env (s : State) (o : OwnClaim) : (s.setJoinOwn o).env = s.env := rfl
@[simp] theorem State.setJoinOwn_balance (s : State) (o : OwnClaim) : (s.setJoinOwn o).balance = s.balance := rfl
@[simp] theorem State.setJoinOwn_peers (s : State) (o : OwnClaim) : (s.setJoinOwn o).peers = s.peers := rfl
@[simp] theorem State.setJoinOwn_thermal (s : State) (o : OwnClaim) : (s.setJoinOwn o).thermal = s.thermal := rfl
@[simp] theorem State.setJoinOwn_fire (s : State) (o : OwnClaim) : (s.setJoinOwn o).fire = s.fire := rfl
@[simp] theorem State.setJoinOwn_conn (s : State) (o : OwnClaim) : (s.setJoinOwn o).conn = s.conn := rfl
@[simp] theorem State.setJoinOwn_grid (s : State) (o : OwnClaim) : (s.setJoinOwn o).grid = s.grid := rfl
@[simp] theorem State.setJoinOwn_link (s : State) (o : OwnClaim) : (s.setJoinOwn o).link = s.link := rfl
@[simp] theorem State.setJoinOwn_svc (s : State) (o : OwnClaim) : (s.setJoinOwn o).svc = s.svc := rfl
@[simp] theorem State.setJoinOwn_pending (s : State) (o : OwnClaim) : (s.setJoinOwn o).pending = s.pending := rfl
@[simp] theorem State.setJoinOwn_claims_join (s : State) (o : OwnClaim) :
    (s.setJoinOwn o).claims.join = { s.claims.join with own := o } := rfl
@[simp] theorem State.setJoinOwn_claims_heat (s : State) (o : OwnClaim) :
    (s.setJoinOwn o).claims.heat = s.claims.heat := rfl
@[simp] theorem State.setJoinOwn_claims_doneResult (s : State) (o : OwnClaim) :
    (s.setJoinOwn o).claims.doneResult = s.claims.doneResult := rfl
@[simp] theorem State.setJoinOwn_claims_tokenHeld (s : State) (o : OwnClaim) :
    (s.setJoinOwn o).claims.tokenHeld = s.claims.tokenHeld := rfl
@[simp] theorem State.setJoinOwn_claims_slotHeld (s : State) (o : OwnClaim) :
    (s.setJoinOwn o).claims.slotHeld = s.claims.slotHeld := rfl
@[simp] theorem State.setJoinOwn_claims_headTimer (s : State) (o : OwnClaim) :
    (s.setJoinOwn o).claims.headTimer = s.claims.headTimer := rfl
@[simp] theorem State.setJoinOwn_claims_hold (s : State) (o : OwnClaim) :
    (s.setJoinOwn o).claims.hold = s.claims.hold := rfl
@[simp] theorem State.setJoinOwn_claims_limit (s : State) (o : OwnClaim) :
    (s.setJoinOwn o).claims.limit = s.claims.limit := rfl

/-! `State.setHeatOwn` -/

@[simp] theorem State.setHeatOwn_ownNumber (s : State) (o : OwnClaim) : (s.setHeatOwn o).ownNumber = s.ownNumber := rfl
@[simp] theorem State.setHeatOwn_ownZone (s : State) (o : OwnClaim) : (s.setHeatOwn o).ownZone = s.ownZone := rfl
@[simp] theorem State.setHeatOwn_lines (s : State) (o : OwnClaim) : (s.setHeatOwn o).lines = s.lines := rfl
@[simp] theorem State.setHeatOwn_chain (s : State) (o : OwnClaim) : (s.setHeatOwn o).chain = s.chain := rfl
@[simp] theorem State.setHeatOwn_env (s : State) (o : OwnClaim) : (s.setHeatOwn o).env = s.env := rfl
@[simp] theorem State.setHeatOwn_balance (s : State) (o : OwnClaim) : (s.setHeatOwn o).balance = s.balance := rfl
@[simp] theorem State.setHeatOwn_peers (s : State) (o : OwnClaim) : (s.setHeatOwn o).peers = s.peers := rfl
@[simp] theorem State.setHeatOwn_thermal (s : State) (o : OwnClaim) : (s.setHeatOwn o).thermal = s.thermal := rfl
@[simp] theorem State.setHeatOwn_fire (s : State) (o : OwnClaim) : (s.setHeatOwn o).fire = s.fire := rfl
@[simp] theorem State.setHeatOwn_conn (s : State) (o : OwnClaim) : (s.setHeatOwn o).conn = s.conn := rfl
@[simp] theorem State.setHeatOwn_grid (s : State) (o : OwnClaim) : (s.setHeatOwn o).grid = s.grid := rfl
@[simp] theorem State.setHeatOwn_link (s : State) (o : OwnClaim) : (s.setHeatOwn o).link = s.link := rfl
@[simp] theorem State.setHeatOwn_svc (s : State) (o : OwnClaim) : (s.setHeatOwn o).svc = s.svc := rfl
@[simp] theorem State.setHeatOwn_pending (s : State) (o : OwnClaim) : (s.setHeatOwn o).pending = s.pending := rfl
@[simp] theorem State.setHeatOwn_claims_join (s : State) (o : OwnClaim) :
    (s.setHeatOwn o).claims.join = s.claims.join := rfl
@[simp] theorem State.setHeatOwn_claims_heat (s : State) (o : OwnClaim) :
    (s.setHeatOwn o).claims.heat = { s.claims.heat with own := o } := rfl
@[simp] theorem State.setHeatOwn_claims_doneResult (s : State) (o : OwnClaim) :
    (s.setHeatOwn o).claims.doneResult = s.claims.doneResult := rfl
@[simp] theorem State.setHeatOwn_claims_tokenHeld (s : State) (o : OwnClaim) :
    (s.setHeatOwn o).claims.tokenHeld = s.claims.tokenHeld := rfl
@[simp] theorem State.setHeatOwn_claims_slotHeld (s : State) (o : OwnClaim) :
    (s.setHeatOwn o).claims.slotHeld = s.claims.slotHeld := rfl
@[simp] theorem State.setHeatOwn_claims_headTimer (s : State) (o : OwnClaim) :
    (s.setHeatOwn o).claims.headTimer = s.claims.headTimer := rfl
@[simp] theorem State.setHeatOwn_claims_hold (s : State) (o : OwnClaim) :
    (s.setHeatOwn o).claims.hold = s.claims.hold := rfl
@[simp] theorem State.setHeatOwn_claims_limit (s : State) (o : OwnClaim) :
    (s.setHeatOwn o).claims.limit = s.claims.limit := rfl

/-! `State.setHeatEntries` -/

@[simp] theorem State.setHeatEntries_ownNumber (s : State) (l : List Nat) : (s.setHeatEntries l).ownNumber = s.ownNumber := rfl
@[simp] theorem State.setHeatEntries_ownZone (s : State) (l : List Nat) : (s.setHeatEntries l).ownZone = s.ownZone := rfl
@[simp] theorem State.setHeatEntries_lines (s : State) (l : List Nat) : (s.setHeatEntries l).lines = s.lines := rfl
@[simp] theorem State.setHeatEntries_chain (s : State) (l : List Nat) : (s.setHeatEntries l).chain = s.chain := rfl
@[simp] theorem State.setHeatEntries_env (s : State) (l : List Nat) : (s.setHeatEntries l).env = s.env := rfl
@[simp] theorem State.setHeatEntries_balance (s : State) (l : List Nat) : (s.setHeatEntries l).balance = s.balance := rfl
@[simp] theorem State.setHeatEntries_peers (s : State) (l : List Nat) : (s.setHeatEntries l).peers = s.peers := rfl
@[simp] theorem State.setHeatEntries_thermal (s : State) (l : List Nat) : (s.setHeatEntries l).thermal = s.thermal := rfl
@[simp] theorem State.setHeatEntries_fire (s : State) (l : List Nat) : (s.setHeatEntries l).fire = s.fire := rfl
@[simp] theorem State.setHeatEntries_conn (s : State) (l : List Nat) : (s.setHeatEntries l).conn = s.conn := rfl
@[simp] theorem State.setHeatEntries_grid (s : State) (l : List Nat) : (s.setHeatEntries l).grid = s.grid := rfl
@[simp] theorem State.setHeatEntries_link (s : State) (l : List Nat) : (s.setHeatEntries l).link = s.link := rfl
@[simp] theorem State.setHeatEntries_svc (s : State) (l : List Nat) : (s.setHeatEntries l).svc = s.svc := rfl
@[simp] theorem State.setHeatEntries_pending (s : State) (l : List Nat) : (s.setHeatEntries l).pending = s.pending := rfl
@[simp] theorem State.setHeatEntries_claims_join (s : State) (l : List Nat) :
    (s.setHeatEntries l).claims.join = s.claims.join := rfl
@[simp] theorem State.setHeatEntries_claims_heat (s : State) (l : List Nat) :
    (s.setHeatEntries l).claims.heat = { s.claims.heat with entries := l } := rfl
@[simp] theorem State.setHeatEntries_claims_doneResult (s : State) (l : List Nat) :
    (s.setHeatEntries l).claims.doneResult = s.claims.doneResult := rfl
@[simp] theorem State.setHeatEntries_claims_tokenHeld (s : State) (l : List Nat) :
    (s.setHeatEntries l).claims.tokenHeld = s.claims.tokenHeld := rfl
@[simp] theorem State.setHeatEntries_claims_slotHeld (s : State) (l : List Nat) :
    (s.setHeatEntries l).claims.slotHeld = s.claims.slotHeld := rfl
@[simp] theorem State.setHeatEntries_claims_headTimer (s : State) (l : List Nat) :
    (s.setHeatEntries l).claims.headTimer = s.claims.headTimer := rfl
@[simp] theorem State.setHeatEntries_claims_hold (s : State) (l : List Nat) :
    (s.setHeatEntries l).claims.hold = s.claims.hold := rfl
@[simp] theorem State.setHeatEntries_claims_limit (s : State) (l : List Nat) :
    (s.setHeatEntries l).claims.limit = s.claims.limit := rfl

/-! `State.syncToken` -/

@[simp] theorem State.syncToken_ownNumber (s : State) : (s.syncToken).ownNumber = s.ownNumber := rfl
@[simp] theorem State.syncToken_ownZone (s : State) : (s.syncToken).ownZone = s.ownZone := rfl
@[simp] theorem State.syncToken_lines (s : State) : (s.syncToken).lines = s.lines := rfl
@[simp] theorem State.syncToken_chain (s : State) : (s.syncToken).chain = s.chain := rfl
@[simp] theorem State.syncToken_env (s : State) : (s.syncToken).env = s.env := rfl
@[simp] theorem State.syncToken_balance (s : State) : (s.syncToken).balance = s.balance := rfl
@[simp] theorem State.syncToken_peers (s : State) : (s.syncToken).peers = s.peers := rfl
@[simp] theorem State.syncToken_thermal (s : State) : (s.syncToken).thermal = s.thermal := rfl
@[simp] theorem State.syncToken_fire (s : State) : (s.syncToken).fire = s.fire := rfl
@[simp] theorem State.syncToken_conn (s : State) : (s.syncToken).conn = s.conn := rfl
@[simp] theorem State.syncToken_grid (s : State) : (s.syncToken).grid = s.grid := rfl
@[simp] theorem State.syncToken_link (s : State) : (s.syncToken).link = s.link := rfl
@[simp] theorem State.syncToken_svc (s : State) : (s.syncToken).svc = s.svc := rfl
@[simp] theorem State.syncToken_pending (s : State) : (s.syncToken).pending = s.pending := rfl
@[simp] theorem State.syncToken_claims_join (s : State) :
    (s.syncToken).claims.join = s.claims.join := rfl
@[simp] theorem State.syncToken_claims_heat (s : State) :
    (s.syncToken).claims.heat = s.claims.heat := rfl
@[simp] theorem State.syncToken_claims_doneResult (s : State) :
    (s.syncToken).claims.doneResult = s.claims.doneResult := rfl
@[simp] theorem State.syncToken_claims_tokenHeld (s : State) :
    (s.syncToken).claims.tokenHeld = s.tokenNow := rfl
@[simp] theorem State.syncToken_claims_slotHeld (s : State) :
    (s.syncToken).claims.slotHeld = s.claims.slotHeld := rfl
@[simp] theorem State.syncToken_claims_headTimer (s : State) :
    (s.syncToken).claims.headTimer = s.claims.headTimer := rfl
@[simp] theorem State.syncToken_claims_hold (s : State) :
    (s.syncToken).claims.hold = s.claims.hold := rfl
@[simp] theorem State.syncToken_claims_limit (s : State) :
    (s.syncToken).claims.limit = s.claims.limit := rfl

/-! `State.setThermal` -/

@[simp] theorem State.setThermal_ownNumber (s : State) (st : ThermalState) : (s.setThermal st).ownNumber = s.ownNumber := rfl
@[simp] theorem State.setThermal_ownZone (s : State) (st : ThermalState) : (s.setThermal st).ownZone = s.ownZone := rfl
@[simp] theorem State.setThermal_lines (s : State) (st : ThermalState) : (s.setThermal st).lines = s.lines := rfl
@[simp] theorem State.setThermal_chain (s : State) (st : ThermalState) : (s.setThermal st).chain = s.chain := rfl
@[simp] theorem State.setThermal_env (s : State) (st : ThermalState) : (s.setThermal st).env = s.env := rfl
@[simp] theorem State.setThermal_balance (s : State) (st : ThermalState) : (s.setThermal st).balance = s.balance := rfl
@[simp] theorem State.setThermal_peers (s : State) (st : ThermalState) : (s.setThermal st).peers = s.peers := rfl
@[simp] theorem State.setThermal_claims (s : State) (st : ThermalState) : (s.setThermal st).claims = s.claims := rfl
@[simp] theorem State.setThermal_fire (s : State) (st : ThermalState) : (s.setThermal st).fire = s.fire := rfl
@[simp] theorem State.setThermal_conn (s : State) (st : ThermalState) : (s.setThermal st).conn = s.conn := rfl
@[simp] theorem State.setThermal_grid (s : State) (st : ThermalState) : (s.setThermal st).grid = s.grid := rfl
@[simp] theorem State.setThermal_link (s : State) (st : ThermalState) : (s.setThermal st).link = s.link := rfl
@[simp] theorem State.setThermal_svc (s : State) (st : ThermalState) : (s.setThermal st).svc = s.svc := rfl
@[simp] theorem State.setThermal_pending (s : State) (st : ThermalState) : (s.setThermal st).pending = s.pending := rfl
@[simp] theorem State.setThermal_thermal_state (s : State) (st : ThermalState) :
    (s.setThermal st).thermal.state = st := rfl
@[simp] theorem State.setThermal_thermal_level (s : State) (st : ThermalState) :
    (s.setThermal st).thermal.level = s.thermal.level := rfl
@[simp] theorem State.setThermal_thermal_demand (s : State) (st : ThermalState) :
    (s.setThermal st).thermal.demand = s.thermal.demand := rfl
@[simp] theorem State.setThermal_thermal_heater (s : State) (st : ThermalState) :
    (s.setThermal st).thermal.heater = (st == .heating) := rfl
@[simp] theorem State.setThermal_thermal_valve (s : State) (st : ThermalState) :
    (s.setThermal st).thermal.valve = (st == .cooling || st == .inhibited) := rfl
@[simp] theorem State.setThermal_thermal_pump1 (s : State) (st : ThermalState) :
    (s.setThermal st).thermal.pump1 = s.thermal.pump1 := rfl
@[simp] theorem State.setThermal_thermal_pump2 (s : State) (st : ThermalState) :
    (s.setThermal st).thermal.pump2 = s.thermal.pump2 := rfl
@[simp] theorem State.setThermal_thermal_chillerRun (s : State) (st : ThermalState) :
    (s.setThermal st).thermal.chillerRun = s.thermal.chillerRun := rfl
@[simp] theorem State.setThermal_thermal_degraded (s : State) (st : ThermalState) :
    (s.setThermal st).thermal.degraded = s.thermal.degraded := rfl
@[simp] theorem State.setThermal_thermal_inlet (s : State) (st : ThermalState) :
    (s.setThermal st).thermal.inlet = s.thermal.inlet := rfl
@[simp] theorem State.setThermal_thermal_soakCond (s : State) (st : ThermalState) :
    (s.setThermal st).thermal.soakCond = s.thermal.soakCond := rfl
@[simp] theorem State.setThermal_thermal_recoveryCond (s : State) (st : ThermalState) :
    (s.setThermal st).thermal.recoveryCond = s.thermal.recoveryCond := rfl
@[simp] theorem State.setThermal_thermal_soakTimer (s : State) (st : ThermalState) :
    (s.setThermal st).thermal.soakTimer = s.thermal.soakTimer := rfl
@[simp] theorem State.setThermal_thermal_recoveryTimer (s : State) (st : ThermalState) :
    (s.setThermal st).thermal.recoveryTimer = s.thermal.recoveryTimer := rfl

/-! `State.setDemand` -/

@[simp] theorem State.setDemand_ownNumber (s : State) (b : Bool) : (s.setDemand b).ownNumber = s.ownNumber := rfl
@[simp] theorem State.setDemand_ownZone (s : State) (b : Bool) : (s.setDemand b).ownZone = s.ownZone := rfl
@[simp] theorem State.setDemand_lines (s : State) (b : Bool) : (s.setDemand b).lines = s.lines := rfl
@[simp] theorem State.setDemand_chain (s : State) (b : Bool) : (s.setDemand b).chain = s.chain := rfl
@[simp] theorem State.setDemand_env (s : State) (b : Bool) : (s.setDemand b).env = s.env := rfl
@[simp] theorem State.setDemand_balance (s : State) (b : Bool) : (s.setDemand b).balance = s.balance := rfl
@[simp] theorem State.setDemand_peers (s : State) (b : Bool) : (s.setDemand b).peers = s.peers := rfl
@[simp] theorem State.setDemand_claims (s : State) (b : Bool) : (s.setDemand b).claims = s.claims := rfl
@[simp] theorem State.setDemand_fire (s : State) (b : Bool) : (s.setDemand b).fire = s.fire := rfl
@[simp] theorem State.setDemand_conn (s : State) (b : Bool) : (s.setDemand b).conn = s.conn := rfl
@[simp] theorem State.setDemand_grid (s : State) (b : Bool) : (s.setDemand b).grid = s.grid := rfl
@[simp] theorem State.setDemand_link (s : State) (b : Bool) : (s.setDemand b).link = s.link := rfl
@[simp] theorem State.setDemand_svc (s : State) (b : Bool) : (s.setDemand b).svc = s.svc := rfl
@[simp] theorem State.setDemand_pending (s : State) (b : Bool) : (s.setDemand b).pending = s.pending := rfl
@[simp] theorem State.setDemand_thermal_state (s : State) (b : Bool) :
    (s.setDemand b).thermal.state = s.thermal.state := rfl
@[simp] theorem State.setDemand_thermal_level (s : State) (b : Bool) :
    (s.setDemand b).thermal.level = s.thermal.level := rfl
@[simp] theorem State.setDemand_thermal_demand (s : State) (b : Bool) :
    (s.setDemand b).thermal.demand = b := rfl
@[simp] theorem State.setDemand_thermal_heater (s : State) (b : Bool) :
    (s.setDemand b).thermal.heater = s.thermal.heater := rfl
@[simp] theorem State.setDemand_thermal_valve (s : State) (b : Bool) :
    (s.setDemand b).thermal.valve = s.thermal.valve := rfl
@[simp] theorem State.setDemand_thermal_pump1 (s : State) (b : Bool) :
    (s.setDemand b).thermal.pump1 = s.thermal.pump1 := rfl
@[simp] theorem State.setDemand_thermal_pump2 (s : State) (b : Bool) :
    (s.setDemand b).thermal.pump2 = s.thermal.pump2 := rfl
@[simp] theorem State.setDemand_thermal_chillerRun (s : State) (b : Bool) :
    (s.setDemand b).thermal.chillerRun = s.thermal.chillerRun := rfl
@[simp] theorem State.setDemand_thermal_degraded (s : State) (b : Bool) :
    (s.setDemand b).thermal.degraded = s.thermal.degraded := rfl
@[simp] theorem State.setDemand_thermal_inlet (s : State) (b : Bool) :
    (s.setDemand b).thermal.inlet = s.thermal.inlet := rfl
@[simp] theorem State.setDemand_thermal_soakCond (s : State) (b : Bool) :
    (s.setDemand b).thermal.soakCond = s.thermal.soakCond := rfl
@[simp] theorem State.setDemand_thermal_recoveryCond (s : State) (b : Bool) :
    (s.setDemand b).thermal.recoveryCond = s.thermal.recoveryCond := rfl
@[simp] theorem State.setDemand_thermal_soakTimer (s : State) (b : Bool) :
    (s.setDemand b).thermal.soakTimer = s.thermal.soakTimer := rfl
@[simp] theorem State.setDemand_thermal_recoveryTimer (s : State) (b : Bool) :
    (s.setDemand b).thermal.recoveryTimer = s.thermal.recoveryTimer := rfl

/-! `State.takeInlet` -/

@[simp] theorem State.takeInlet_ownNumber (s : State) : (s.takeInlet).ownNumber = s.ownNumber := rfl
@[simp] theorem State.takeInlet_ownZone (s : State) : (s.takeInlet).ownZone = s.ownZone := rfl
@[simp] theorem State.takeInlet_lines (s : State) : (s.takeInlet).lines = s.lines := rfl
@[simp] theorem State.takeInlet_chain (s : State) : (s.takeInlet).chain = s.chain := rfl
@[simp] theorem State.takeInlet_env (s : State) : (s.takeInlet).env = s.env := rfl
@[simp] theorem State.takeInlet_balance (s : State) : (s.takeInlet).balance = s.balance := rfl
@[simp] theorem State.takeInlet_peers (s : State) : (s.takeInlet).peers = s.peers := rfl
@[simp] theorem State.takeInlet_claims (s : State) : (s.takeInlet).claims = s.claims := rfl
@[simp] theorem State.takeInlet_fire (s : State) : (s.takeInlet).fire = s.fire := rfl
@[simp] theorem State.takeInlet_conn (s : State) : (s.takeInlet).conn = s.conn := rfl
@[simp] theorem State.takeInlet_grid (s : State) : (s.takeInlet).grid = s.grid := rfl
@[simp] theorem State.takeInlet_link (s : State) : (s.takeInlet).link = s.link := rfl
@[simp] theorem State.takeInlet_svc (s : State) : (s.takeInlet).svc = s.svc := rfl
@[simp] theorem State.takeInlet_pending (s : State) : (s.takeInlet).pending = s.pending := rfl
@[simp] theorem State.takeInlet_thermal_state (s : State) :
    (s.takeInlet).thermal.state = s.thermal.state := rfl
@[simp] theorem State.takeInlet_thermal_level (s : State) :
    (s.takeInlet).thermal.level = s.thermal.level := rfl
@[simp] theorem State.takeInlet_thermal_demand (s : State) :
    (s.takeInlet).thermal.demand = s.thermal.demand := rfl
@[simp] theorem State.takeInlet_thermal_heater (s : State) :
    (s.takeInlet).thermal.heater = s.thermal.heater := rfl
@[simp] theorem State.takeInlet_thermal_valve (s : State) :
    (s.takeInlet).thermal.valve = s.thermal.valve := rfl
@[simp] theorem State.takeInlet_thermal_pump1 (s : State) :
    (s.takeInlet).thermal.pump1 = s.thermal.pump1 := rfl
@[simp] theorem State.takeInlet_thermal_pump2 (s : State) :
    (s.takeInlet).thermal.pump2 = s.thermal.pump2 := rfl
@[simp] theorem State.takeInlet_thermal_chillerRun (s : State) :
    (s.takeInlet).thermal.chillerRun = s.thermal.chillerRun := rfl
@[simp] theorem State.takeInlet_thermal_degraded (s : State) :
    (s.takeInlet).thermal.degraded = s.thermal.degraded := rfl
@[simp] theorem State.takeInlet_thermal_soakCond (s : State) :
    (s.takeInlet).thermal.soakCond = s.thermal.soakCond := rfl
@[simp] theorem State.takeInlet_thermal_recoveryCond (s : State) :
    (s.takeInlet).thermal.recoveryCond = s.thermal.recoveryCond := rfl
@[simp] theorem State.takeInlet_thermal_soakTimer (s : State) :
    (s.takeInlet).thermal.soakTimer = s.thermal.soakTimer := rfl
@[simp] theorem State.takeInlet_thermal_recoveryTimer (s : State) :
    (s.takeInlet).thermal.recoveryTimer = s.thermal.recoveryTimer := rfl
@[simp] theorem State.takeInlet_thermal_inlet (s : State) :
    (s.takeInlet).thermal.inlet = s.chain.sense.inlet := rfl

/-! `State.setCountdown` -/

@[simp] theorem State.setCountdown_ownNumber (s : State) (t : Timer) : (s.setCountdown t).ownNumber = s.ownNumber := rfl
@[simp] theorem State.setCountdown_ownZone (s : State) (t : Timer) : (s.setCountdown t).ownZone = s.ownZone := rfl
@[simp] theorem State.setCountdown_lines (s : State) (t : Timer) : (s.setCountdown t).lines = s.lines := rfl
@[simp] theorem State.setCountdown_chain (s : State) (t : Timer) : (s.setCountdown t).chain = s.chain := rfl
@[simp] theorem State.setCountdown_env (s : State) (t : Timer) : (s.setCountdown t).env = s.env := rfl
@[simp] theorem State.setCountdown_balance (s : State) (t : Timer) : (s.setCountdown t).balance = s.balance := rfl
@[simp] theorem State.setCountdown_peers (s : State) (t : Timer) : (s.setCountdown t).peers = s.peers := rfl
@[simp] theorem State.setCountdown_claims (s : State) (t : Timer) : (s.setCountdown t).claims = s.claims := rfl
@[simp] theorem State.setCountdown_thermal (s : State) (t : Timer) : (s.setCountdown t).thermal = s.thermal := rfl
@[simp] theorem State.setCountdown_conn (s : State) (t : Timer) : (s.setCountdown t).conn = s.conn := rfl
@[simp] theorem State.setCountdown_grid (s : State) (t : Timer) : (s.setCountdown t).grid = s.grid := rfl
@[simp] theorem State.setCountdown_link (s : State) (t : Timer) : (s.setCountdown t).link = s.link := rfl
@[simp] theorem State.setCountdown_svc (s : State) (t : Timer) : (s.setCountdown t).svc = s.svc := rfl
@[simp] theorem State.setCountdown_pending (s : State) (t : Timer) : (s.setCountdown t).pending = s.pending := rfl
@[simp] theorem State.setCountdown_fire_loopTimer (s : State) (t : Timer) :
    (s.setCountdown t).fire.loopTimer = s.fire.loopTimer := rfl
@[simp] theorem State.setCountdown_fire_loopS (s : State) (t : Timer) :
    (s.setCountdown t).fire.loopS = s.fire.loopS := rfl
@[simp] theorem State.setCountdown_fire_loopH (s : State) (t : Timer) :
    (s.setCountdown t).fire.loopH = s.fire.loopH := rfl
@[simp] theorem State.setCountdown_fire_loopTrouble (s : State) (t : Timer) :
    (s.setCountdown t).fire.loopTrouble = s.fire.loopTrouble := rfl
@[simp] theorem State.setCountdown_fire_serviceKey (s : State) (t : Timer) :
    (s.setCountdown t).fire.serviceKey = s.fire.serviceKey := rfl
@[simp] theorem State.setCountdown_fire_state (s : State) (t : Timer) :
    (s.setCountdown t).fire.state = s.fire.state := rfl
@[simp] theorem State.setCountdown_fire_countdown (s : State) (t : Timer) :
    (s.setCountdown t).fire.countdown = t := rfl
@[simp] theorem State.setCountdown_fire_census (s : State) (t : Timer) :
    (s.setCountdown t).fire.census = s.fire.census := rfl
@[simp] theorem State.setCountdown_fire_repeatTimer (s : State) (t : Timer) :
    (s.setCountdown t).fire.repeatTimer = s.fire.repeatTimer := rfl
@[simp] theorem State.setCountdown_fire_release (s : State) (t : Timer) :
    (s.setCountdown t).fire.release = s.fire.release := rfl
@[simp] theorem State.setCountdown_fire_fireLine (s : State) (t : Timer) :
    (s.setCountdown t).fire.fireLine = s.fire.fireLine := rfl
@[simp] theorem State.setCountdown_fire_tripLine (s : State) (t : Timer) :
    (s.setCountdown t).fire.tripLine = s.fire.tripLine := rfl

/-! `State.setRepeat` -/

@[simp] theorem State.setRepeat_ownNumber (s : State) (t : Timer) : (s.setRepeat t).ownNumber = s.ownNumber := rfl
@[simp] theorem State.setRepeat_ownZone (s : State) (t : Timer) : (s.setRepeat t).ownZone = s.ownZone := rfl
@[simp] theorem State.setRepeat_lines (s : State) (t : Timer) : (s.setRepeat t).lines = s.lines := rfl
@[simp] theorem State.setRepeat_chain (s : State) (t : Timer) : (s.setRepeat t).chain = s.chain := rfl
@[simp] theorem State.setRepeat_env (s : State) (t : Timer) : (s.setRepeat t).env = s.env := rfl
@[simp] theorem State.setRepeat_balance (s : State) (t : Timer) : (s.setRepeat t).balance = s.balance := rfl
@[simp] theorem State.setRepeat_peers (s : State) (t : Timer) : (s.setRepeat t).peers = s.peers := rfl
@[simp] theorem State.setRepeat_claims (s : State) (t : Timer) : (s.setRepeat t).claims = s.claims := rfl
@[simp] theorem State.setRepeat_thermal (s : State) (t : Timer) : (s.setRepeat t).thermal = s.thermal := rfl
@[simp] theorem State.setRepeat_conn (s : State) (t : Timer) : (s.setRepeat t).conn = s.conn := rfl
@[simp] theorem State.setRepeat_grid (s : State) (t : Timer) : (s.setRepeat t).grid = s.grid := rfl
@[simp] theorem State.setRepeat_link (s : State) (t : Timer) : (s.setRepeat t).link = s.link := rfl
@[simp] theorem State.setRepeat_svc (s : State) (t : Timer) : (s.setRepeat t).svc = s.svc := rfl
@[simp] theorem State.setRepeat_pending (s : State) (t : Timer) : (s.setRepeat t).pending = s.pending := rfl
@[simp] theorem State.setRepeat_fire_loopTimer (s : State) (t : Timer) :
    (s.setRepeat t).fire.loopTimer = s.fire.loopTimer := rfl
@[simp] theorem State.setRepeat_fire_loopS (s : State) (t : Timer) :
    (s.setRepeat t).fire.loopS = s.fire.loopS := rfl
@[simp] theorem State.setRepeat_fire_loopH (s : State) (t : Timer) :
    (s.setRepeat t).fire.loopH = s.fire.loopH := rfl
@[simp] theorem State.setRepeat_fire_loopTrouble (s : State) (t : Timer) :
    (s.setRepeat t).fire.loopTrouble = s.fire.loopTrouble := rfl
@[simp] theorem State.setRepeat_fire_serviceKey (s : State) (t : Timer) :
    (s.setRepeat t).fire.serviceKey = s.fire.serviceKey := rfl
@[simp] theorem State.setRepeat_fire_state (s : State) (t : Timer) :
    (s.setRepeat t).fire.state = s.fire.state := rfl
@[simp] theorem State.setRepeat_fire_countdown (s : State) (t : Timer) :
    (s.setRepeat t).fire.countdown = s.fire.countdown := rfl
@[simp] theorem State.setRepeat_fire_census (s : State) (t : Timer) :
    (s.setRepeat t).fire.census = s.fire.census := rfl
@[simp] theorem State.setRepeat_fire_repeatTimer (s : State) (t : Timer) :
    (s.setRepeat t).fire.repeatTimer = t := rfl
@[simp] theorem State.setRepeat_fire_release (s : State) (t : Timer) :
    (s.setRepeat t).fire.release = s.fire.release := rfl
@[simp] theorem State.setRepeat_fire_fireLine (s : State) (t : Timer) :
    (s.setRepeat t).fire.fireLine = s.fire.fireLine := rfl
@[simp] theorem State.setRepeat_fire_tripLine (s : State) (t : Timer) :
    (s.setRepeat t).fire.tripLine = s.fire.tripLine := rfl

/-! `State.setFireLines` -/

@[simp] theorem State.setFireLines_ownNumber (s : State) (r f t : Bool) : (s.setFireLines r f t).ownNumber = s.ownNumber := rfl
@[simp] theorem State.setFireLines_ownZone (s : State) (r f t : Bool) : (s.setFireLines r f t).ownZone = s.ownZone := rfl
@[simp] theorem State.setFireLines_lines (s : State) (r f t : Bool) : (s.setFireLines r f t).lines = s.lines := rfl
@[simp] theorem State.setFireLines_chain (s : State) (r f t : Bool) : (s.setFireLines r f t).chain = s.chain := rfl
@[simp] theorem State.setFireLines_env (s : State) (r f t : Bool) : (s.setFireLines r f t).env = s.env := rfl
@[simp] theorem State.setFireLines_balance (s : State) (r f t : Bool) : (s.setFireLines r f t).balance = s.balance := rfl
@[simp] theorem State.setFireLines_peers (s : State) (r f t : Bool) : (s.setFireLines r f t).peers = s.peers := rfl
@[simp] theorem State.setFireLines_claims (s : State) (r f t : Bool) : (s.setFireLines r f t).claims = s.claims := rfl
@[simp] theorem State.setFireLines_thermal (s : State) (r f t : Bool) : (s.setFireLines r f t).thermal = s.thermal := rfl
@[simp] theorem State.setFireLines_conn (s : State) (r f t : Bool) : (s.setFireLines r f t).conn = s.conn := rfl
@[simp] theorem State.setFireLines_grid (s : State) (r f t : Bool) : (s.setFireLines r f t).grid = s.grid := rfl
@[simp] theorem State.setFireLines_link (s : State) (r f t : Bool) : (s.setFireLines r f t).link = s.link := rfl
@[simp] theorem State.setFireLines_svc (s : State) (r f t : Bool) : (s.setFireLines r f t).svc = s.svc := rfl
@[simp] theorem State.setFireLines_pending (s : State) (r f t : Bool) : (s.setFireLines r f t).pending = s.pending := rfl
@[simp] theorem State.setFireLines_fire_loopTimer (s : State) (r f t : Bool) :
    (s.setFireLines r f t).fire.loopTimer = s.fire.loopTimer := rfl
@[simp] theorem State.setFireLines_fire_loopS (s : State) (r f t : Bool) :
    (s.setFireLines r f t).fire.loopS = s.fire.loopS := rfl
@[simp] theorem State.setFireLines_fire_loopH (s : State) (r f t : Bool) :
    (s.setFireLines r f t).fire.loopH = s.fire.loopH := rfl
@[simp] theorem State.setFireLines_fire_loopTrouble (s : State) (r f t : Bool) :
    (s.setFireLines r f t).fire.loopTrouble = s.fire.loopTrouble := rfl
@[simp] theorem State.setFireLines_fire_serviceKey (s : State) (r f t : Bool) :
    (s.setFireLines r f t).fire.serviceKey = s.fire.serviceKey := rfl
@[simp] theorem State.setFireLines_fire_state (s : State) (r f t : Bool) :
    (s.setFireLines r f t).fire.state = s.fire.state := rfl
@[simp] theorem State.setFireLines_fire_countdown (s : State) (r f t : Bool) :
    (s.setFireLines r f t).fire.countdown = s.fire.countdown := rfl
@[simp] theorem State.setFireLines_fire_census (s : State) (r f t : Bool) :
    (s.setFireLines r f t).fire.census = s.fire.census := rfl
@[simp] theorem State.setFireLines_fire_repeatTimer (s : State) (r f t : Bool) :
    (s.setFireLines r f t).fire.repeatTimer = s.fire.repeatTimer := rfl
@[simp] theorem State.setFireLines_fire_release (s : State) (r f t : Bool) :
    (s.setFireLines r f t).fire.release = r := rfl
@[simp] theorem State.setFireLines_fire_fireLine (s : State) (r f t : Bool) :
    (s.setFireLines r f t).fire.fireLine = f := rfl
@[simp] theorem State.setFireLines_fire_tripLine (s : State) (r f t : Bool) :
    (s.setFireLines r f t).fire.tripLine = t := rfl

/-! `State.setTable` -/

@[simp] theorem State.setTable_ownNumber (s : State) (l : List PeerRecord) : (s.setTable l).ownNumber = s.ownNumber := rfl
@[simp] theorem State.setTable_ownZone (s : State) (l : List PeerRecord) : (s.setTable l).ownZone = s.ownZone := rfl
@[simp] theorem State.setTable_lines (s : State) (l : List PeerRecord) : (s.setTable l).lines = s.lines := rfl
@[simp] theorem State.setTable_chain (s : State) (l : List PeerRecord) : (s.setTable l).chain = s.chain := rfl
@[simp] theorem State.setTable_env (s : State) (l : List PeerRecord) : (s.setTable l).env = s.env := rfl
@[simp] theorem State.setTable_balance (s : State) (l : List PeerRecord) : (s.setTable l).balance = s.balance := rfl
@[simp] theorem State.setTable_claims (s : State) (l : List PeerRecord) : (s.setTable l).claims = s.claims := rfl
@[simp] theorem State.setTable_thermal (s : State) (l : List PeerRecord) : (s.setTable l).thermal = s.thermal := rfl
@[simp] theorem State.setTable_fire (s : State) (l : List PeerRecord) : (s.setTable l).fire = s.fire := rfl
@[simp] theorem State.setTable_conn (s : State) (l : List PeerRecord) : (s.setTable l).conn = s.conn := rfl
@[simp] theorem State.setTable_grid (s : State) (l : List PeerRecord) : (s.setTable l).grid = s.grid := rfl
@[simp] theorem State.setTable_link (s : State) (l : List PeerRecord) : (s.setTable l).link = s.link := rfl
@[simp] theorem State.setTable_svc (s : State) (l : List PeerRecord) : (s.setTable l).svc = s.svc := rfl
@[simp] theorem State.setTable_pending (s : State) (l : List PeerRecord) : (s.setTable l).pending = s.pending := rfl
@[simp] theorem State.setTable_peers_apTimer (s : State) (l : List PeerRecord) :
    (s.setTable l).peers.apTimer = s.peers.apTimer := rfl
@[simp] theorem State.setTable_peers_table (s : State) (l : List PeerRecord) :
    (s.setTable l).peers.table = l := rfl
@[simp] theorem State.setTable_peers_containerFire (s : State) (l : List PeerRecord) :
    (s.setTable l).peers.containerFire = s.peers.containerFire := rfl
@[simp] theorem State.setTable_peers_containerLevel (s : State) (l : List PeerRecord) :
    (s.setTable l).peers.containerLevel = s.peers.containerLevel := rfl
@[simp] theorem State.setTable_peers_zoneKey (s : State) (l : List PeerRecord) :
    (s.setTable l).peers.zoneKey = s.peers.zoneKey := rfl

/-! `State.updateContainerLevel` -/

@[simp] theorem State.updateContainerLevel_ownNumber (s : State) : (s.updateContainerLevel).ownNumber = s.ownNumber := rfl
@[simp] theorem State.updateContainerLevel_ownZone (s : State) : (s.updateContainerLevel).ownZone = s.ownZone := rfl
@[simp] theorem State.updateContainerLevel_lines (s : State) : (s.updateContainerLevel).lines = s.lines := rfl
@[simp] theorem State.updateContainerLevel_chain (s : State) : (s.updateContainerLevel).chain = s.chain := rfl
@[simp] theorem State.updateContainerLevel_env (s : State) : (s.updateContainerLevel).env = s.env := rfl
@[simp] theorem State.updateContainerLevel_balance (s : State) : (s.updateContainerLevel).balance = s.balance := rfl
@[simp] theorem State.updateContainerLevel_claims (s : State) : (s.updateContainerLevel).claims = s.claims := rfl
@[simp] theorem State.updateContainerLevel_thermal (s : State) : (s.updateContainerLevel).thermal = s.thermal := rfl
@[simp] theorem State.updateContainerLevel_fire (s : State) : (s.updateContainerLevel).fire = s.fire := rfl
@[simp] theorem State.updateContainerLevel_conn (s : State) : (s.updateContainerLevel).conn = s.conn := rfl
@[simp] theorem State.updateContainerLevel_grid (s : State) : (s.updateContainerLevel).grid = s.grid := rfl
@[simp] theorem State.updateContainerLevel_link (s : State) : (s.updateContainerLevel).link = s.link := rfl
@[simp] theorem State.updateContainerLevel_svc (s : State) : (s.updateContainerLevel).svc = s.svc := rfl
@[simp] theorem State.updateContainerLevel_pending (s : State) : (s.updateContainerLevel).pending = s.pending := rfl
@[simp] theorem State.updateContainerLevel_peers_apTimer (s : State) :
    (s.updateContainerLevel).peers.apTimer = s.peers.apTimer := rfl
@[simp] theorem State.updateContainerLevel_peers_table (s : State) :
    (s.updateContainerLevel).peers.table = s.peers.table := rfl
@[simp] theorem State.updateContainerLevel_peers_containerFire (s : State) :
    (s.updateContainerLevel).peers.containerFire = s.peers.containerFire := rfl
@[simp] theorem State.updateContainerLevel_peers_containerLevel (s : State) :
    (s.updateContainerLevel).peers.containerLevel = s.containerLevelNow := rfl
@[simp] theorem State.updateContainerLevel_peers_zoneKey (s : State) :
    (s.updateContainerLevel).peers.zoneKey = s.peers.zoneKey := rfl

/-! `State.setGrid` -/

@[simp] theorem State.setGrid_ownNumber (s : State) (st : GridState) (t : Timer) : (s.setGrid st t).ownNumber = s.ownNumber := rfl
@[simp] theorem State.setGrid_ownZone (s : State) (st : GridState) (t : Timer) : (s.setGrid st t).ownZone = s.ownZone := rfl
@[simp] theorem State.setGrid_lines (s : State) (st : GridState) (t : Timer) : (s.setGrid st t).lines = s.lines := rfl
@[simp] theorem State.setGrid_chain (s : State) (st : GridState) (t : Timer) : (s.setGrid st t).chain = s.chain := rfl
@[simp] theorem State.setGrid_env (s : State) (st : GridState) (t : Timer) : (s.setGrid st t).env = s.env := rfl
@[simp] theorem State.setGrid_balance (s : State) (st : GridState) (t : Timer) : (s.setGrid st t).balance = s.balance := rfl
@[simp] theorem State.setGrid_peers (s : State) (st : GridState) (t : Timer) : (s.setGrid st t).peers = s.peers := rfl
@[simp] theorem State.setGrid_claims (s : State) (st : GridState) (t : Timer) : (s.setGrid st t).claims = s.claims := rfl
@[simp] theorem State.setGrid_thermal (s : State) (st : GridState) (t : Timer) : (s.setGrid st t).thermal = s.thermal := rfl
@[simp] theorem State.setGrid_fire (s : State) (st : GridState) (t : Timer) : (s.setGrid st t).fire = s.fire := rfl
@[simp] theorem State.setGrid_conn (s : State) (st : GridState) (t : Timer) : (s.setGrid st t).conn = s.conn := rfl
@[simp] theorem State.setGrid_link (s : State) (st : GridState) (t : Timer) : (s.setGrid st t).link = s.link := rfl
@[simp] theorem State.setGrid_svc (s : State) (st : GridState) (t : Timer) : (s.setGrid st t).svc = s.svc := rfl
@[simp] theorem State.setGrid_pending (s : State) (st : GridState) (t : Timer) : (s.setGrid st t).pending = s.pending := rfl
@[simp] theorem State.setGrid_grid_state (s : State) (st : GridState) (t : Timer) :
    (s.setGrid st t).grid.state = st := rfl
@[simp] theorem State.setGrid_grid_reconnect (s : State) (st : GridState) (t : Timer) :
    (s.setGrid st t).grid.reconnect = t := rfl
@[simp] theorem State.setGrid_grid_breakerHold (s : State) (st : GridState) (t : Timer) :
    (s.setGrid st t).grid.breakerHold = s.grid.breakerHold := rfl
@[simp] theorem State.setGrid_grid_permit (s : State) (st : GridState) (t : Timer) :
    (s.setGrid st t).grid.permit = s.grid.permit := rfl

/-! `State.setBreakerHold` -/

@[simp] theorem State.setBreakerHold_ownNumber (s : State) (b : Bool) : (s.setBreakerHold b).ownNumber = s.ownNumber := rfl
@[simp] theorem State.setBreakerHold_ownZone (s : State) (b : Bool) : (s.setBreakerHold b).ownZone = s.ownZone := rfl
@[simp] theorem State.setBreakerHold_lines (s : State) (b : Bool) : (s.setBreakerHold b).lines = s.lines := rfl
@[simp] theorem State.setBreakerHold_chain (s : State) (b : Bool) : (s.setBreakerHold b).chain = s.chain := rfl
@[simp] theorem State.setBreakerHold_env (s : State) (b : Bool) : (s.setBreakerHold b).env = s.env := rfl
@[simp] theorem State.setBreakerHold_balance (s : State) (b : Bool) : (s.setBreakerHold b).balance = s.balance := rfl
@[simp] theorem State.setBreakerHold_peers (s : State) (b : Bool) : (s.setBreakerHold b).peers = s.peers := rfl
@[simp] theorem State.setBreakerHold_claims (s : State) (b : Bool) : (s.setBreakerHold b).claims = s.claims := rfl
@[simp] theorem State.setBreakerHold_thermal (s : State) (b : Bool) : (s.setBreakerHold b).thermal = s.thermal := rfl
@[simp] theorem State.setBreakerHold_fire (s : State) (b : Bool) : (s.setBreakerHold b).fire = s.fire := rfl
@[simp] theorem State.setBreakerHold_conn (s : State) (b : Bool) : (s.setBreakerHold b).conn = s.conn := rfl
@[simp] theorem State.setBreakerHold_link (s : State) (b : Bool) : (s.setBreakerHold b).link = s.link := rfl
@[simp] theorem State.setBreakerHold_svc (s : State) (b : Bool) : (s.setBreakerHold b).svc = s.svc := rfl
@[simp] theorem State.setBreakerHold_pending (s : State) (b : Bool) : (s.setBreakerHold b).pending = s.pending := rfl
@[simp] theorem State.setBreakerHold_grid_state (s : State) (b : Bool) :
    (s.setBreakerHold b).grid.state = s.grid.state := rfl
@[simp] theorem State.setBreakerHold_grid_reconnect (s : State) (b : Bool) :
    (s.setBreakerHold b).grid.reconnect = s.grid.reconnect := rfl
@[simp] theorem State.setBreakerHold_grid_breakerHold (s : State) (b : Bool) :
    (s.setBreakerHold b).grid.breakerHold = b := rfl
@[simp] theorem State.setBreakerHold_grid_permit (s : State) (b : Bool) :
    (s.setBreakerHold b).grid.permit = s.grid.permit := rfl

/-! `State.judgePermit` -/

@[simp] theorem State.judgePermit_ownNumber (s : State) : (s.judgePermit).ownNumber = s.ownNumber := rfl
@[simp] theorem State.judgePermit_ownZone (s : State) : (s.judgePermit).ownZone = s.ownZone := rfl
@[simp] theorem State.judgePermit_lines (s : State) : (s.judgePermit).lines = s.lines := rfl
@[simp] theorem State.judgePermit_chain (s : State) : (s.judgePermit).chain = s.chain := rfl
@[simp] theorem State.judgePermit_env (s : State) : (s.judgePermit).env = s.env := rfl
@[simp] theorem State.judgePermit_balance (s : State) : (s.judgePermit).balance = s.balance := rfl
@[simp] theorem State.judgePermit_peers (s : State) : (s.judgePermit).peers = s.peers := rfl
@[simp] theorem State.judgePermit_claims (s : State) : (s.judgePermit).claims = s.claims := rfl
@[simp] theorem State.judgePermit_thermal (s : State) : (s.judgePermit).thermal = s.thermal := rfl
@[simp] theorem State.judgePermit_fire (s : State) : (s.judgePermit).fire = s.fire := rfl
@[simp] theorem State.judgePermit_conn (s : State) : (s.judgePermit).conn = s.conn := rfl
@[simp] theorem State.judgePermit_link (s : State) : (s.judgePermit).link = s.link := rfl
@[simp] theorem State.judgePermit_svc (s : State) : (s.judgePermit).svc = s.svc := rfl
@[simp] theorem State.judgePermit_pending (s : State) : (s.judgePermit).pending = s.pending := rfl
@[simp] theorem State.judgePermit_grid_state (s : State) :
    (s.judgePermit).grid.state = s.grid.state := rfl
@[simp] theorem State.judgePermit_grid_reconnect (s : State) :
    (s.judgePermit).grid.reconnect = s.grid.reconnect := rfl
@[simp] theorem State.judgePermit_grid_breakerHold (s : State) :
    (s.judgePermit).grid.breakerHold = s.grid.breakerHold := rfl
@[simp] theorem State.judgePermit_grid_permit (s : State) :
    (s.judgePermit).grid.permit = s.permitNow := rfl

/-! `State.zeroPair` -/

@[simp] theorem State.zeroPair_ownNumber (s : State) : (s.zeroPair).ownNumber = s.ownNumber := rfl
@[simp] theorem State.zeroPair_ownZone (s : State) : (s.zeroPair).ownZone = s.ownZone := rfl
@[simp] theorem State.zeroPair_lines (s : State) : (s.zeroPair).lines = s.lines := rfl
@[simp] theorem State.zeroPair_chain (s : State) : (s.zeroPair).chain = s.chain := rfl
@[simp] theorem State.zeroPair_balance (s : State) : (s.zeroPair).balance = s.balance := rfl
@[simp] theorem State.zeroPair_peers (s : State) : (s.zeroPair).peers = s.peers := rfl
@[simp] theorem State.zeroPair_claims (s : State) : (s.zeroPair).claims = s.claims := rfl
@[simp] theorem State.zeroPair_thermal (s : State) : (s.zeroPair).thermal = s.thermal := rfl
@[simp] theorem State.zeroPair_fire (s : State) : (s.zeroPair).fire = s.fire := rfl
@[simp] theorem State.zeroPair_conn (s : State) : (s.zeroPair).conn = s.conn := rfl
@[simp] theorem State.zeroPair_grid (s : State) : (s.zeroPair).grid = s.grid := rfl
@[simp] theorem State.zeroPair_link (s : State) : (s.zeroPair).link = s.link := rfl
@[simp] theorem State.zeroPair_svc (s : State) : (s.zeroPair).svc = s.svc := rfl
@[simp] theorem State.zeroPair_pending (s : State) : (s.zeroPair).pending = s.pending := rfl
@[simp] theorem State.zeroPair_env_ec (s : State) :
    (s.zeroPair).env.ec = 0 := rfl
@[simp] theorem State.zeroPair_env_ed (s : State) :
    (s.zeroPair).env.ed = 0 := rfl
@[simp] theorem State.zeroPair_env_cellTrips (s : State) :
    (s.zeroPair).env.cellTrips = s.env.cellTrips := rfl
@[simp] theorem State.zeroPair_env_overCount (s : State) :
    (s.zeroPair).env.overCount = s.env.overCount := rfl
@[simp] theorem State.zeroPair_env_trip (s : State) :
    (s.zeroPair).env.trip = s.env.trip := rfl
@[simp] theorem State.zeroPair_env_runawayTimer (s : State) :
    (s.zeroPair).env.runawayTimer = s.env.runawayTimer := rfl
@[simp] theorem State.zeroPair_env_ring (s : State) :
    (s.zeroPair).env.ring = s.env.ring := rfl
@[simp] theorem State.zeroPair_env_riseFlag (s : State) :
    (s.zeroPair).env.riseFlag = s.env.riseFlag := rfl
@[simp] theorem State.zeroPair_env_latch (s : State) :
    (s.zeroPair).env.latch = s.env.latch := rfl

/-! `State.setJoinHeld` -/

@[simp] theorem State.setJoinHeld_ownNumber (s : State) (b : Bool) : (s.setJoinHeld b).ownNumber = s.ownNumber := rfl
@[simp] theorem State.setJoinHeld_ownZone (s : State) (b : Bool) : (s.setJoinHeld b).ownZone = s.ownZone := rfl
@[simp] theorem State.setJoinHeld_lines (s : State) (b : Bool) : (s.setJoinHeld b).lines = s.lines := rfl
@[simp] theorem State.setJoinHeld_chain (s : State) (b : Bool) : (s.setJoinHeld b).chain = s.chain := rfl
@[simp] theorem State.setJoinHeld_env (s : State) (b : Bool) : (s.setJoinHeld b).env = s.env := rfl
@[simp] theorem State.setJoinHeld_balance (s : State) (b : Bool) : (s.setJoinHeld b).balance = s.balance := rfl
@[simp] theorem State.setJoinHeld_peers (s : State) (b : Bool) : (s.setJoinHeld b).peers = s.peers := rfl
@[simp] theorem State.setJoinHeld_claims (s : State) (b : Bool) : (s.setJoinHeld b).claims = s.claims := rfl
@[simp] theorem State.setJoinHeld_thermal (s : State) (b : Bool) : (s.setJoinHeld b).thermal = s.thermal := rfl
@[simp] theorem State.setJoinHeld_fire (s : State) (b : Bool) : (s.setJoinHeld b).fire = s.fire := rfl
@[simp] theorem State.setJoinHeld_conn (s : State) (b : Bool) : (s.setJoinHeld b).conn = s.conn := rfl
@[simp] theorem State.setJoinHeld_grid (s : State) (b : Bool) : (s.setJoinHeld b).grid = s.grid := rfl
@[simp] theorem State.setJoinHeld_link (s : State) (b : Bool) : (s.setJoinHeld b).link = s.link := rfl
@[simp] theorem State.setJoinHeld_pending (s : State) (b : Bool) : (s.setJoinHeld b).pending = s.pending := rfl
@[simp] theorem State.setJoinHeld_svc_mode (s : State) (b : Bool) :
    (s.setJoinHeld b).svc.mode = s.svc.mode := rfl
@[simp] theorem State.setJoinHeld_svc_straps (s : State) (b : Bool) :
    (s.setJoinHeld b).svc.straps = s.svc.straps := rfl
@[simp] theorem State.setJoinHeld_svc_config (s : State) (b : Bool) :
    (s.setJoinHeld b).svc.config = s.svc.config := rfl
@[simp] theorem State.setJoinHeld_svc_apCount (s : State) (b : Bool) :
    (s.setJoinHeld b).svc.apCount = s.svc.apCount := rfl
@[simp] theorem State.setJoinHeld_svc_joinHeld (s : State) (b : Bool) :
    (s.setJoinHeld b).svc.joinHeld = b := rfl
@[simp] theorem State.setJoinHeld_svc_gatewayCensus (s : State) (b : Bool) :
    (s.setJoinHeld b).svc.gatewayCensus = s.svc.gatewayCensus := rfl
@[simp] theorem State.setJoinHeld_svc_restart (s : State) (b : Bool) :
    (s.setJoinHeld b).svc.restart = s.svc.restart := rfl
@[simp] theorem State.setJoinHeld_svc_duplicateId (s : State) (b : Bool) :
    (s.setJoinHeld b).svc.duplicateId = s.svc.duplicateId := rfl
@[simp] theorem State.setJoinHeld_svc_configFaultFlag (s : State) (b : Bool) :
    (s.setJoinHeld b).svc.configFaultFlag = s.svc.configFaultFlag := rfl
@[simp] theorem State.setJoinHeld_svc_siteCap (s : State) (b : Bool) :
    (s.setJoinHeld b).svc.siteCap = s.svc.siteCap := rfl

end Sys2Proof.Machine
end

