-- ==== Sys2Proof/Laws/Ops.lean ====
section
/-! SUPPORT. One law for each shared operation: when it does what, and what it leaves. The provers cite these and unfold no
operation. -/

namespace Sys2Proof.Machine

open Sys2Proof

/-! ### The end of a command -/

/-- A command that leaves a state which is steady but for its permit answers that state with the permit judged. -/
theorem finish_of_permit {u t : State} (h : { u with grid := { u.grid with permit := t.grid.permit } } = t)
    (ht : t.Steady) : u.finish = .next t := by
  have hs : u.settle = t := by
    have e1 : u.reviewForced = u := by
      unfold State.reviewForced
      split
      · rename_i hc
        exact forcedLeave_of_not_taken (by have := ht.forced; rw [← h] at this; exact this hc)
      · rfl
    have e2 : u.driveChiller = u := by
      have a := ht.pump1
      have b := ht.pump2
      have c := ht.chillerRun
      rw [← h] at a b c
      unfold State.driveChiller
      simp only at a b c
      simp only [← a, ← b, ← c]
    have e3 : u.permitNow = t.grid.permit := by rw [ht.permit, ← h]; rfl
    unfold State.settle
    rw [e1, updateContainerLevel_of_eq (by have := ht.containerLevel; rw [← h] at this; exact this), e2]
    unfold State.judgePermit
    rw [e3, h]
  unfold State.finish
  rw [hs, if_neg ht.noDue]

/-! ### The transmit queue -/

/-- A frame joins a queue of fewer than 8 entries in class order (R163). -/
theorem enqueue_of_room {s : State} {e : Entry} (h : s.link.queue.length < 8) : s.enqueue e = s.queued e := by
  unfold State.enqueue State.queued
  rw [if_pos h]
  rfl

/-- A frame joins a full queue in place of the youngest entry of the lowest-ranking class, where that class ranks below
its own (R164). -/
theorem enqueue_displaces {s : State} {e v : Entry} (h : 8 ≤ s.link.queue.length)
    (hv : lastWaiting s.link.queue = some v) (hr : e.cls.rank < v.cls.rank) :
    s.enqueue e = ((s.setQueue (insertByClass e (eraseLastWaiting s.link.queue))).congest).reportLoss v := by
  unfold State.enqueue
  rw [if_neg (by omega)]
  simp [hv, hr]

/-- A frame that a full queue has no place for is dropped, and its loss is reported (R164). -/
theorem enqueue_drops {s : State} {e : Entry} (h : 8 ≤ s.link.queue.length)
    (hv : ∀ v, lastWaiting s.link.queue = some v → v.cls.rank ≤ e.cls.rank) :
    s.enqueue e = s.congest.reportLoss e := by
  unfold State.enqueue
  rw [if_neg (by omega)]
  cases hw : lastWaiting s.link.queue with
  | none => rfl
  | some v => simp [Nat.not_lt.mpr (hv v hw)]

/-- What handing over a frame or reporting its loss leaves alone: every part but the link, the own claim states and their
requeue marks, the census state of the fire unit, the join check, the gateway census and the pending restart. -/
structure State.KeepsAllButQueueing (s t : State) : Prop where
  lines : t.lines = s.lines
  chain : t.chain = s.chain
  env : t.env = s.env
  balance : t.balance = s.balance
  peers : t.peers = s.peers
  thermal : t.thermal = s.thermal
  grid : t.grid = s.grid
  pending : t.pending = s.pending
  joinEntries : t.claims.join.entries = s.claims.join.entries
  heatEntries : t.claims.heat.entries = s.claims.heat.entries
  doneResult : t.claims.doneResult = s.claims.doneResult
  tokenHeld : t.claims.tokenHeld = s.claims.tokenHeld
  slotHeld : t.claims.slotHeld = s.claims.slotHeld
  headTimer : t.claims.headTimer = s.claims.headTimer
  hold : t.claims.hold = s.claims.hold
  limit : t.claims.limit = s.claims.limit
  fire : ∃ x, t.fire = { s.fire with census := x }
  conn : ∃ x, t.conn = { s.conn with check := x }
  svc : ∃ x y, t.svc = { s.svc with gatewayCensus := x, restart := y }

theorem State.KeepsAllButQueueing.refl (s : State) : s.KeepsAllButQueueing s := by
  constructor <;> first | rfl | exact ⟨_, rfl⟩ | exact ⟨_, _, rfl⟩

theorem State.KeepsAllButQueueing.trans {s t u : State} (h : s.KeepsAllButQueueing t) (k : t.KeepsAllButQueueing u) :
    s.KeepsAllButQueueing u where
  lines := k.lines.trans h.lines
  chain := k.chain.trans h.chain
  env := k.env.trans h.env
  balance := k.balance.trans h.balance
  peers := k.peers.trans h.peers
  thermal := k.thermal.trans h.thermal
  grid := k.grid.trans h.grid
  pending := k.pending.trans h.pending
  joinEntries := k.joinEntries.trans h.joinEntries
  heatEntries := k.heatEntries.trans h.heatEntries
  doneResult := k.doneResult.trans h.doneResult
  tokenHeld := k.tokenHeld.trans h.tokenHeld
  slotHeld := k.slotHeld.trans h.slotHeld
  headTimer := k.headTimer.trans h.headTimer
  hold := k.hold.trans h.hold
  limit := k.limit.trans h.limit
  fire := by
    obtain ⟨x, hx⟩ := h.fire
    obtain ⟨y, hy⟩ := k.fire
    exact ⟨y, by rw [hy, hx]⟩
  conn := by
    obtain ⟨x, hx⟩ := h.conn
    obtain ⟨y, hy⟩ := k.conn
    exact ⟨y, by rw [hy, hx]⟩
  svc := by
    obtain ⟨x, x', hx⟩ := h.svc
    obtain ⟨y, y', hy⟩ := k.svc
    exact ⟨y, y', by rw [hy, hx]⟩

/-- A list that has lost its own frame keeps its entries (R73). -/
theorem ClaimList.lost_entries (l : ClaimList) : l.lost.entries = l.entries := by
  unfold ClaimList.lost
  split <;> rfl

theorem State.setQueue_keeps (s : State) (q : List Entry) : s.KeepsAllButQueueing (s.setQueue q) := by
  constructor <;> first | rfl | exact ⟨_, rfl⟩ | exact ⟨_, _, rfl⟩

theorem State.congest_keeps (s : State) : s.KeepsAllButQueueing s.congest := by
  constructor <;> first | rfl | exact ⟨_, rfl⟩ | exact ⟨_, _, rfl⟩

theorem State.dueRestart_keeps (s : State) : s.KeepsAllButQueueing s.dueRestart := by
  unfold State.dueRestart
  split
  · constructor <;> first | rfl | exact ⟨_, rfl⟩ | exact ⟨_, _, rfl⟩
  · exact .refl s

/-- Reporting a loss reaches only the marks of the block that queued the frame (R164). -/
theorem State.reportLoss_keeps (s : State) (e : Entry) : s.KeepsAllButQueueing (s.reportLoss e) := by
  unfold State.reportLoss
  split
  · split <;> constructor <;>
      first | rfl | exact ClaimList.lost_entries _ | exact ⟨_, rfl⟩ | exact ⟨_, _, rfl⟩
  · split
    · constructor <;> first | rfl | exact ⟨_, rfl⟩ | exact ⟨_, _, rfl⟩
    · split
      · constructor <;> first | rfl | exact ⟨_, rfl⟩ | exact ⟨_, _, rfl⟩
      · exact .refl s
    · constructor <;> first | rfl | exact ⟨_, rfl⟩ | exact ⟨_, _, rfl⟩
    · exact .refl s
    · exact .refl s
    · exact .refl s
  · split
    · exact s.dueRestart_keeps
    all_goals exact .refl s
  · exact .refl s
  · exact .refl s

/-- Handing over a frame reaches only the queue and the marks of the block whose frame is lost (R163, R164). -/
theorem State.enqueue_keeps (s : State) (e : Entry) : s.KeepsAllButQueueing (s.enqueue e) := by
  unfold State.enqueue
  split
  · exact s.setQueue_keeps _
  · split
    · exact s.congest_keeps.trans (State.reportLoss_keeps _ _)
    · split
      · exact ((s.setQueue_keeps _).trans (State.congest_keeps _)).trans (State.reportLoss_keeps _ _)
      · exact s.congest_keeps.trans (State.reportLoss_keeps _ _)

/-- The length of a queue that a frame has joined. -/
theorem insertByClass_length (e : Entry) (q : List Entry) : (insertByClass e q).length = q.length + 1 := by
  unfold insertByClass
  rw [List.length_append, List.length_cons]
  have := congrArg List.length (List.takeWhile_append_dropWhile (p := fun x => x.cls.rank ≤ e.cls.rank) (l := q))
  rw [List.length_append] at this
  omega

/-- The members of a queue that a frame has joined. -/
theorem mem_insertByClass {e x : Entry} {q : List Entry} : x ∈ insertByClass e q ↔ x = e ∨ x ∈ q := by
  unfold insertByClass
  have := congrArg (fun l => x ∈ l)
    (List.takeWhile_append_dropWhile (p := fun x => x.cls.rank ≤ e.cls.rank) (l := q))
  simp only [List.mem_append, eq_iff_iff] at this
  rw [List.mem_append, List.mem_cons, ← this]
  tauto

/-- The frame on the line leaves room behind it. -/
theorem dropOnLine_length_lt {q : List Entry} {e : Entry} (h : q.find? (·.onLine) = some e) :
    (dropOnLine q).length < q.length := by
  have he := List.find?_some h
  have hm := List.mem_of_find?_eq_some h
  exact List.length_filter_lt_length_iff_exists.mpr ⟨e, hm, by simpa using he⟩

/-- The queue that keeps one ANNOUNCE drops entries alone (R54). -/
theorem oneAnnounce_sublist (q : List Entry) : (oneAnnounce q).Sublist q := by
  induction q with
  | nil => exact .slnil
  | cons e q ih =>
    unfold oneAnnounce
    split
    · exact List.filter_sublist.cons_cons e
    · exact ih.cons_cons e

/-- An entry that the queue of one ANNOUNCE drops is a waiting ANNOUNCE (R54). -/
theorem mem_oneAnnounce_of_not_waiting {x : Entry} {q : List Entry} (hx : x ∈ q) (hw : waitingAnnounce x = false) :
    x ∈ oneAnnounce q := by
  induction q with
  | nil => exact absurd hx List.not_mem_nil
  | cons e q ih =>
    unfold oneAnnounce
    rcases List.mem_cons.mp hx with rfl | hx
    · split <;> exact List.mem_cons_self
    · split
      · exact List.mem_cons_of_mem _ (List.mem_filter.mpr ⟨hx, by simp [hw]⟩)
      · exact List.mem_cons_of_mem _ (ih hx)

/-! ### The module chain -/

/-- A reply is a bad check exactly when its code or its number of values is wrong (R2). -/
theorem badReply_iff {c : ConfigSet} {r : ChainReply} : badReply c r ↔ r.checkOk = false ∨ replyFits c r = false := by
  unfold badReply ChainReply.checkOk replyFits
  cases h : r.body <;> simp [and_assoc]

/-- The class of a reply that is no bad check (R2). -/
theorem classifyReply_of_not_bad {c : ConfigSet} {p : Nat} {r : ChainReply} (h : ¬badReply c r) :
    classifyReply c p r = if r.position = p then .good else .wrongPosition := by
  rw [badReply_iff, not_or, Bool.not_eq_false, Bool.not_eq_false] at h
  unfold classifyReply
  by_cases hp : r.position = p <;> simp [h.1, h.2, hp]

/-- The class of a bad check (R2). -/
theorem classifyReply_of_bad {c : ConfigSet} {p : Nat} {r : ChainReply} (h : badReply c r) :
    classifyReply c p r = .badCheck := by
  rw [badReply_iff] at h
  unfold classifyReply
  rcases h with h | h <;> simp [h]

/-! ### Connection and fire state, restart -/

/-- With no restart pending nothing is cancelled (R181). -/
theorem cancelRestart_of_none {s : State} (h : s.svc.restart = .none) : s.cancelRestart = s := by
  unfold State.cancelRestart
  simp [h]

/-- A change of the connection state with no restart pending. -/
theorem setConn_of_none {s : State} (st : ConnState) (h : s.svc.restart = .none) :
    s.setConn st = { s with conn := { s.conn with state := st } } := cancelRestart_of_none h

/-- A change of the fire state with no restart pending. -/
theorem setFire_of_none {s : State} (st : FireState) (h : s.svc.restart = .none) :
    s.setFire st = { s with fire := { s.fire with state := st } } := cancelRestart_of_none h

/-- Cancelling a restart reaches only its mark and the tie of its reply (R181). -/
theorem cancelRestart_cases (s : State) :
    s.cancelRestart = s
      ∨ (s.svc.restart = .pending ∧ s.restartAllowed = false
        ∧ s.cancelRestart = { s with
          svc := { s.svc with restart := .none }
          link := { s.link with queue := retag .restartReply .plain s.link.queue } }) := by
  unfold State.cancelRestart
  split
  · exact .inr ⟨by tauto, by tauto, rfl⟩
  · exact .inl rfl

/-! ### Receiving -/

/-- A station that hears the link takes a frame with its reception over (R168, R173). -/
theorem receive_of_hears {s : State} (act : State → State) (h : s.Hears) : s.receive act = act s.heard := by
  unfold State.receive State.hears
  simp [h.silent, h.awake, State.heard, State.setReception]

/-- A request that the gateway addresses to the station is judged on the bytes behind its destination (R170, R178). -/
theorem takeRequest_of_addressed {s : State} {dest : Byte} (args : List Byte) (act : List Byte → State → State)
    (h : s.Hears) (ha : s.addressed dest = true) : s.takeRequest 0 (dest :: args) act = act args s.heard := by
  have ha' : s.heard.addressed dest = true := ha
  unfold State.takeRequest
  rw [receive_of_hears _ h]
  simp [ha']

/-- A reply in a queue with room (R178). -/
theorem reply_of_room {s : State} (kind : Byte) (result : ReplyResult) (data : List Byte) (h : s.Room) :
    s.heard.reply kind result data = s.replied kind result data := enqueue_of_room h

/-- Hearing a frame leaves a steady state steady. -/
theorem heard_steady {s : State} (h : s.Steady) : s.heard.Steady :=
  ⟨h.permit, h.containerLevel, h.pump1, h.pump2, h.chillerRun, h.forced, h.noDue⟩

/-- A reply leaves a steady state steady. -/
theorem replied_steady {s : State} {kind : Byte} {result : ReplyResult} {data : List Byte} (h : s.Steady) :
    (s.replied kind result data).Steady :=
  ⟨h.permit, h.containerLevel, h.pump1, h.pump2, h.chillerRun, h.forced, h.noDue⟩

/-! ### Slots and lists -/

/-- Slots that stand as signalled and no rotation due: the evaluation changes nothing (R81, R82). -/
theorem evalSlot_of_current {s : State} (h : s.slotNow = s.claims.slotHeld) (hr : s.rotationDue = false) :
    s.evalSlot = s := by
  have e : s.slotSignal = s := by
    unfold State.slotSignal
    rw [if_pos h]
  unfold State.evalSlot
  rw [e, hr]
  rfl

/-- A token that stands as signalled: the signal changes nothing (R77). -/
theorem signalToken_of_current {s : State} (h : s.tokenNow = s.claims.tokenHeld) : s.signalToken = s := by
  unfold State.signalToken
  rw [if_pos h]

/-- Removing an absent number changes no list. -/
theorem removeNumber_of_absent {n : Nat} {l : List Nat} (h : n ∉ l) : removeNumber n l = l := by
  unfold removeNumber
  rw [List.filter_eq_self]
  intro a ha
  have : a ≠ n := fun e => h (e ▸ ha)
  simp [this]

/-- The members of a list after an append. -/
theorem mem_appendAbsent {n m : Nat} {l : List Nat} : m ∈ appendAbsent n l ↔ m ∈ l ∨ m = n := by
  unfold appendAbsent
  split
  · rename_i h
    constructor
    · exact .inl
    · rintro (h' | rfl)
      · exact h'
      · simpa using h
  · simp

/-- The members of a list after a removal. -/
theorem mem_removeNumber {n m : Nat} {l : List Nat} : m ∈ removeNumber n l ↔ m ∈ l ∧ m ≠ n := by
  unfold removeNumber
  simp

/-! ### The balance set -/

/-- The members after a change of the set (R44). -/
theorem setMembers_members (s : State) (members : List (Nat × Nat)) : (s.setMembers members).balance.members = members := by
  unfold State.setMembers
  split
  · rename_i h
    exact h.symm
  · rfl

/-- A change of the set reaches the set and the masks alone: cells, temperatures and ages of every record stay (R44). -/
theorem writeMasks_records (members : List (Nat × Nat)) (records : List ModuleRecord) (k : Nat) (r : ModuleRecord)
    (h : records[k]? = some r) : (writeMasks members records)[k]? = some { r with mask := maskOf members (k + 1) } := by
  unfold writeMasks
  rw [List.getElem?_map, List.getElem?_zipIdx]
  simp [h]

end Sys2Proof.Machine
end

