-- ==== Sys2Proof/Laws/Blocks.lean ====
section
/-! SUPPORT. What the shared operations of the connection sequencer, the heater, the claim lists and the fire unit leave
alone: none of them touches a reading, a scan, a peer record, a grid state, an input line or the waiting commands. -/

namespace Sys2Proof.Machine

open Sys2Proof

/-- Every reading and setting that the signals between the blocks leave as it is. -/
structure State.KeepsReadings (s t : State) : Prop where
  lines : t.lines = s.lines
  pending : t.pending = s.pending
  config : t.svc.config = s.svc.config
  straps : t.svc.straps = s.svc.straps
  siteCap : t.svc.siteCap = s.svc.siteCap
  joinHeld : t.svc.joinHeld = s.svc.joinHeld
  apTimer : t.peers.apTimer = s.peers.apTimer
  table : t.peers.table = s.peers.table
  scanTimer : t.chain.scanTimer = s.chain.scanTimer
  owed : t.chain.owed = s.chain.owed
  scan : t.chain.scan = s.chain.scan
  record : t.chain.record = s.chain.record
  sense : t.chain.sense = s.chain.sense
  vmin : t.chain.vmin = s.chain.vmin
  vmax : t.chain.vmax = s.chain.vmax
  tmin : t.chain.tmin = s.chain.tmin
  tmax : t.chain.tmax = s.chain.tmax
  dataLoss : t.chain.dataLoss = s.chain.dataLoss
  tempLoss : t.chain.tempLoss = s.chain.tempLoss
  chainBreak : t.chain.chainBreak = s.chain.chainBreak
  staleLeave : t.chain.staleLeave = s.chain.staleLeave
  inlet : t.thermal.inlet = s.thermal.inlet
  gridState : t.grid.state = s.grid.state
  reconnect : t.grid.reconnect = s.grid.reconnect
  breakerHold : t.grid.breakerHold = s.grid.breakerHold

namespace State.KeepsReadings

theorem refl (s : State) : s.KeepsReadings s := by constructor <;> rfl

theorem trans {s t u : State} (h : s.KeepsReadings t) (k : t.KeepsReadings u) : s.KeepsReadings u := by
  constructor
  · exact k.lines.trans h.lines
  · exact k.pending.trans h.pending
  · exact k.config.trans h.config
  · exact k.straps.trans h.straps
  · exact k.siteCap.trans h.siteCap
  · exact k.joinHeld.trans h.joinHeld
  · exact k.apTimer.trans h.apTimer
  · exact k.table.trans h.table
  · exact k.scanTimer.trans h.scanTimer
  · exact k.owed.trans h.owed
  · exact k.scan.trans h.scan
  · exact k.record.trans h.record
  · exact k.sense.trans h.sense
  · exact k.vmin.trans h.vmin
  · exact k.vmax.trans h.vmax
  · exact k.tmin.trans h.tmin
  · exact k.tmax.trans h.tmax
  · exact k.dataLoss.trans h.dataLoss
  · exact k.tempLoss.trans h.tempLoss
  · exact k.chainBreak.trans h.chainBreak
  · exact k.staleLeave.trans h.staleLeave
  · exact k.inlet.trans h.inlet
  · exact k.gridState.trans h.gridState
  · exact k.reconnect.trans h.reconnect
  · exact k.breakerHold.trans h.breakerHold

/-- The frame of the queueing operations is one of these. -/
theorem of_queueing {s t : State} (h : s.KeepsAllButQueueing t) : s.KeepsReadings t := by
  obtain ⟨x, y, hs⟩ := h.svc
  constructor <;> simp [h.lines, h.pending, h.peers, h.chain, h.thermal, h.grid, hs]

end State.KeepsReadings

theorem State.enqueue_readings (s : State) (e : Entry) : s.KeepsReadings (s.enqueue e) := .of_queueing (s.enqueue_keeps e)

/-! ### Changes of connection and fire state, the balance set -/

theorem State.cancelRestart_readings (s : State) : s.KeepsReadings s.cancelRestart := by
  unfold State.cancelRestart
  split <;> constructor <;> rfl

theorem State.setConn_readings (s : State) (st : ConnState) : s.KeepsReadings (s.setConn st) :=
  .trans (by constructor <;> rfl) (State.cancelRestart_readings _)

theorem State.setFire_readings (s : State) (st : FireState) : s.KeepsReadings (s.setFire st) :=
  .trans (by constructor <;> rfl) (State.cancelRestart_readings _)

theorem State.setMembers_readings (s : State) (m : List (Nat × Nat)) : s.KeepsReadings (s.setMembers m) := by
  unfold State.setMembers
  split <;> constructor <;> rfl

theorem State.emptyBalance_readings (s : State) : s.KeepsReadings s.emptyBalance := s.setMembers_readings []

/-! ### The own join claim and the sequencer -/

theorem State.queueJoinDone_readings (s : State) (r : JoinResult) : s.KeepsReadings (s.queueJoinDone r) :=
  .trans (by constructor <;> rfl) (State.enqueue_readings _ _)

theorem State.joinClaim_readings (s : State) : s.KeepsReadings s.joinClaim := by
  unfold State.joinClaim
  split
  · split
    · exact .trans (by constructor <;> rfl) (State.enqueue_readings _ _)
    all_goals constructor <;> rfl
  · exact .refl s

theorem State.joinRelease_readings (s : State) (r : JoinResult) : s.KeepsReadings (s.joinRelease r) := by
  unfold State.joinRelease
  split
  · exact .refl s
  · constructor <;> rfl
  · exact s.queueJoinDone_readings r
  · constructor <;> rfl

theorem State.syncToken_readings (s : State) : s.KeepsReadings s.syncToken := by constructor <;> rfl

theorem State.seqRelease_readings (s : State) (r : JoinResult) : s.KeepsReadings (s.seqRelease r) :=
  (s.joinRelease_readings r).trans (State.syncToken_readings _)

theorem State.abandonCheck_readings (s : State) : s.KeepsReadings s.abandonCheck := by constructor <;> rfl

theorem State.enterWelded_readings (s : State) : s.KeepsReadings s.enterWelded :=
  .trans (by constructor <;> rfl) (State.setConn_readings _ _)

theorem State.finishOpening_readings (s : State) : s.KeepsReadings s.finishOpening :=
  .trans (by constructor <;> rfl) (State.setConn_readings _ _)

theorem State.enterOpening_readings (s : State) (d : ConnState) : s.KeepsReadings (s.enterOpening d) := by
  unfold State.enterOpening
  refine .trans (t := ({ s with conn := { s.conn with
    negDrive := false, preDrive := false, posDrive := false, prechTimer := none, leaveTimer := none
    window := some .opening, dest := some d } } : State).setConn .opening) ?_ ?_
  · exact .trans (by constructor <;> rfl) (State.setConn_readings _ _)
  · dsimp only
    split
    · exact State.finishOpening_readings _
    · exact .refl _

theorem State.leaveWaitToken_readings (s : State) (st : ConnState) : s.KeepsReadings (s.leaveWaitToken st) :=
  s.abandonCheck_readings.trans (State.setConn_readings _ _)

/-- A forced leave works on drives, windows, states and claims alone (R140). -/
theorem State.forcedLeave_readings (s : State) : s.KeepsReadings s.forcedLeave := by
  unfold State.forcedLeave
  split
  · exact (s.enterOpening_readings _).trans (State.seqRelease_readings _ _)
  · exact (s.enterOpening_readings _).trans (State.seqRelease_readings _ _)
  · exact (s.enterOpening_readings _).trans (State.seqRelease_readings _ _)
  · exact (s.enterOpening_readings _).trans (State.seqRelease_readings _ _)
  · exact (s.leaveWaitToken_readings _).trans (State.seqRelease_readings _ _)
  all_goals exact .refl s

theorem State.reviewForced_readings (s : State) : s.KeepsReadings s.reviewForced := by
  unfold State.reviewForced
  split
  · exact s.forcedLeave_readings
  · exact .refl s

/-- A precharge failure (R137). -/
theorem State.prechargeFailure_readings (s : State) : s.KeepsReadings s.prechargeFailure := by
  unfold State.prechargeFailure
  exact .trans (.trans (by constructor <;> rfl) (State.enterOpening_readings _ _)) (State.seqRelease_readings _ _)

theorem State.enterJoined_readings (s : State) : s.KeepsReadings s.enterJoined := by
  unfold State.enterJoined
  exact .trans (.trans (by constructor <;> rfl) (State.setConn_readings _ _)) (State.seqRelease_readings _ _)

theorem State.finishLeave_readings (s : State) : s.KeepsReadings s.finishLeave :=
  .trans (by constructor <;> rfl) (State.setConn_readings _ _)

theorem State.leaveStep3_readings (s : State) : s.KeepsReadings s.leaveStep3 := by
  unfold State.leaveStep3
  dsimp only
  split
  · exact .trans (by constructor <;> rfl) (State.finishLeave_readings _)
  · constructor <;> rfl

theorem State.leaveStep2_readings (s : State) : s.KeepsReadings s.leaveStep2 := by
  unfold State.leaveStep2
  dsimp only
  split
  · exact .trans (by constructor <;> rfl) (State.leaveStep3_readings _)
  · constructor <;> rfl

theorem State.windowSuccess_readings (s : State) (w : WindowUse) : s.KeepsReadings (s.windowSuccess w) := by
  cases w
  · constructor <;> rfl
  · constructor <;> rfl
  · exact s.enterJoined_readings
  · exact s.finishOpening_readings
  · exact s.leaveStep3_readings
  · exact s.finishLeave_readings

theorem State.windowFailure_readings (s : State) (w : WindowUse) : s.KeepsReadings (s.windowFailure w) := by
  cases w
  · exact .trans (by constructor <;> rfl) (State.enterWelded_readings _)
  · exact s.prechargeFailure_readings
  · exact s.prechargeFailure_readings
  · exact .trans (by constructor <;> rfl) (State.enterWelded_readings _)
  · exact s.enterWelded_readings
  · exact s.enterWelded_readings

theorem State.testWindow_readings (s : State) : s.KeepsReadings s.testWindow := by
  unfold State.testWindow
  split
  · exact .refl s
  · split
    · exact s.windowSuccess_readings _
    · exact .refl s

/-! ### The token -/

theorem State.tokenLost_readings (s : State) (g : Bool) : s.KeepsReadings (s.tokenLost g) := by
  unfold State.tokenLost
  dsimp only
  split
  · split
    · exact s.syncToken_readings.trans (State.prechargeFailure_readings _)
    · exact s.syncToken_readings.trans (State.forcedLeave_readings _)
  · split
    · exact s.syncToken_readings.trans (State.abandonCheck_readings _)
    · exact s.syncToken_readings

theorem State.joinReleaseByOther_readings (s : State) (g : Bool) : s.KeepsReadings (s.joinReleaseByOther g) := by
  unfold State.joinReleaseByOther
  dsimp only
  split
  · split
    · exact s.joinRelease_readings _
    · exact ((s.joinRelease_readings _).trans (State.leaveWaitToken_readings _ _)).trans (State.syncToken_readings _)
  · split
    · exact (s.joinRelease_readings _).trans (State.tokenLost_readings _ _)
    · exact s.joinRelease_readings _

theorem State.startCheck_readings (s : State) : s.KeepsReadings s.startCheck :=
  .trans (by constructor <;> rfl) (State.enqueue_readings _ _)

theorem State.signalToken_readings (s : State) : s.KeepsReadings s.signalToken := by
  unfold State.signalToken
  split
  · exact .refl s
  · split
    · split
      · exact s.syncToken_readings.trans (State.startCheck_readings _)
      · exact s.syncToken_readings
    · exact s.tokenLost_readings false

theorem State.changeJoin_readings (s : State) (f : List Nat → List Nat) : s.KeepsReadings (s.changeJoin f) :=
  .trans (by constructor <;> rfl) (State.signalToken_readings _)

/-! ### The heater -/

theorem State.slotSignal_readings (s : State) : s.KeepsReadings s.slotSignal := by
  unfold State.slotSignal
  split
  · exact .refl s
  · split <;> dsimp only <;> split <;> constructor <;> rfl

theorem State.rotate_readings (s : State) : s.KeepsReadings s.rotate :=
  .trans (by constructor <;> rfl) (State.enqueue_readings _ _)

theorem State.evalSlot_readings (s : State) : s.KeepsReadings s.evalSlot := by
  unfold State.evalSlot
  split
  · exact (s.slotSignal_readings.trans (State.rotate_readings _)).trans (State.slotSignal_readings _)
  · exact s.slotSignal_readings

theorem State.changeHeat_readings (s : State) (f : List Nat → List Nat) : s.KeepsReadings (s.changeHeat f) :=
  .trans (by constructor <;> rfl) (State.evalSlot_readings _)

theorem State.setLimit_readings (s : State) (l : Nat) : s.KeepsReadings (s.setLimit l) :=
  .trans (by constructor <;> rfl) (State.evalSlot_readings _)

theorem State.heatClaim_readings (s : State) : s.KeepsReadings s.heatClaim := by
  unfold State.heatClaim
  split
  · split
    · exact .trans (by constructor <;> rfl) (State.enqueue_readings _ _)
    all_goals constructor <;> rfl
  · exact .refl s

theorem State.heatRelease_readings (s : State) : s.KeepsReadings s.heatRelease := by
  unfold State.heatRelease
  split
  · exact .refl s
  · constructor <;> rfl
  · exact .trans (.trans (by constructor <;> rfl) (State.enqueue_readings _ _)) (State.evalSlot_readings _)
  · constructor <;> rfl

theorem State.judgeSoak_readings (s : State) : s.KeepsReadings s.judgeSoak := by
  unfold State.judgeSoak
  split <;> constructor <;> rfl

theorem State.setLevel_readings (s : State) (k : Nat) : s.KeepsReadings (s.setLevel k) := by
  unfold State.setLevel
  split
  · exact .refl s
  · dsimp only
    split
    · exact .trans (.trans (by constructor <;> rfl) (State.emptyBalance_readings _)) (State.judgeSoak_readings _)
    · exact .trans (by constructor <;> rfl) (State.judgeSoak_readings _)

theorem State.beginDemand_readings (s : State) : s.KeepsReadings s.beginDemand :=
  .trans (by constructor <;> rfl) (State.heatClaim_readings _)

theorem State.endDemand_readings (s : State) : s.KeepsReadings s.endDemand := by
  unfold State.endDemand
  split
  · exact .trans (by constructor <;> rfl) (State.heatRelease_readings _)
  · exact .refl s

theorem State.enterInhibited_readings (s : State) : s.KeepsReadings s.enterInhibited := by
  unfold State.enterInhibited
  exact .trans (s.endDemand_readings.trans (by constructor <;> rfl)) (State.setLevel_readings _ _)

theorem State.leaveInhibited_readings (s : State) : s.KeepsReadings s.leaveInhibited := by
  unfold State.leaveInhibited
  split
  · exact .refl s
  · rename_i c _
    have h : ∀ st, s.KeepsReadings ((s.setLevel (coolingLevel c 0 s.chain.tmax)).setThermal st) :=
      fun _ => (s.setLevel_readings _).trans (by constructor <;> rfl)
    refine .trans (h (if coolingLevel c 0 s.chain.tmax = 0 then .idle else .cooling)) ?_
    by_cases hb : ((s.setLevel (coolingLevel c 0 s.chain.tmax)).setThermal
        (if coolingLevel c 0 s.chain.tmax = 0 then .idle else .cooling)).demandBegins c (coolingLevel c 0 s.chain.tmax)
        = true
    · simp only [hb, if_true]
      exact State.beginDemand_readings _
    · rw [if_neg hb]
      exact .refl _

/-- A review of the thermal controller (R87 to R90). -/
theorem State.thermalReview_readings (s : State) : s.KeepsReadings s.thermalReview := by
  unfold State.thermalReview
  split
  · exact .refl s
  · split
    · split
      · exact s.setLevel_readings _
      · exact s.enterInhibited_readings
    · split
      · exact s.leaveInhibited_readings
      · exact .refl s

/-! ### The fire unit and the container fire flag -/

theorem State.setContainerFire_readings (s : State) : s.KeepsReadings s.setContainerFire := by
  unfold State.setContainerFire
  split
  · exact .refl s
  · refine .trans (.trans (.trans (.trans ?_ (State.emptyBalance_readings _))
      (State.joinReleaseByOther_readings _ _)) (State.heatRelease_readings _)) (State.thermalReview_readings _)
    constructor <;> rfl

theorem State.evaluateContainerFire_readings (s : State) : s.KeepsReadings s.evaluateContainerFire := by
  unfold State.evaluateContainerFire
  split
  · exact .trans (by constructor <;> rfl) (State.thermalReview_readings _)
  · exact .refl s

theorem State.queueCall_readings (s : State) : s.KeepsReadings s.queueCall := by
  unfold State.queueCall
  split
  · exact .refl s
  · exact .trans (by constructor <;> rfl) (State.enqueue_readings _ _)

theorem State.enterReleased_readings (s : State) : s.KeepsReadings s.enterReleased := by
  unfold State.enterReleased
  exact .trans ((s.setFire_readings _).trans (by constructor <;> rfl)) (State.enqueue_readings _ _)

theorem State.enterReleaseDelay_readings (s : State) : s.KeepsReadings s.enterReleaseDelay := by
  unfold State.enterReleaseDelay
  split
  · exact (s.setFire_readings _).trans (by constructor <;> rfl)
  · split
    · exact s.enterReleased_readings
    · exact (s.setFire_readings _).trans (by constructor <;> rfl)

theorem State.reviewInhibit_readings (s : State) : s.KeepsReadings s.reviewInhibit := by
  unfold State.reviewInhibit
  split
  · split
    · exact .refl s
    · exact s.enterReleaseDelay_readings
  · split
    · exact (s.setFire_readings _).trans (by constructor <;> rfl)
    · exact .refl s
  · split
    · exact (s.setFire_readings _).trans (by constructor <;> rfl)
    · exact .refl s
  all_goals exact .refl s

/-- Entry to ALARM (R114, R115). -/
theorem State.enterAlarm_readings (s : State) : s.KeepsReadings s.enterAlarm := by
  have h0 : s.KeepsReadings (s.setRepeat none) := by constructor <;> rfl
  have h1 := h0.trans (State.setFire_readings _ .alarm)
  have h2 := h1.trans (State.enqueue_readings _ ((s.setRepeat none).setFire .alarm).fireNotice)
  have h3 : s.KeepsReadings ((((s.setRepeat none).setFire .alarm).enqueue
      ((s.setRepeat none).setFire .alarm).fireNotice).setFireLines false true true) := h2.trans (by constructor <;> rfl)
  have h4 := h3.trans (State.setContainerFire_readings _)
  have h5 : s.KeepsReadings ((((s.setRepeat none).setFire .alarm).enqueue
      ((s.setRepeat none).setFire .alarm).fireNotice).setFireLines false true true).setContainerFire.zeroPair :=
    h4.trans (by constructor <;> rfl)
  exact ((h5.trans (State.emptyBalance_readings _)).trans (State.thermalReview_readings _)).trans
    (State.reviewInhibit_readings _)

theorem State.enterPreAlarm_readings (s : State) : s.KeepsReadings s.enterPreAlarm := by
  unfold State.enterPreAlarm
  exact .trans (.trans ((s.setFire_readings _).trans (State.emptyBalance_readings _))
    (.trans (State.enqueue_readings _ _) (by constructor <;> rfl))) (State.queueCall_readings _)

theorem State.returnToNormal_readings (s : State) : s.KeepsReadings s.returnToNormal := by
  unfold State.returnToNormal
  exact .trans (.trans (by constructor <;> rfl) (State.setFire_readings _ _)) (State.enqueue_readings _ _)

theorem State.judgeSources_readings (s : State) (x : Sources) : s.KeepsReadings (s.judgeSources x) := by
  unfold State.judgeSources
  split
  · split
    · split
      · exact s.enterAlarm_readings
      · exact s.enterPreAlarm_readings
    · exact .refl s
  · split
    · exact s.enterAlarm_readings
    · split
      · exact s.returnToNormal_readings
      · exact .refl s
  all_goals exact .refl s

theorem State.reviewZoneKey_readings (s : State) : s.KeepsReadings s.reviewZoneKey := by
  unfold State.reviewZoneKey
  split
  · exact .refl s
  · exact .trans (by constructor <;> rfl) (State.reviewInhibit_readings _)

/-! ### The thermal controller at a completion -/

theorem State.completionCooling_readings (s : State) (k : Nat) : s.KeepsReadings (s.completionCooling k) := by
  unfold State.completionCooling
  exact .trans (s.endDemand_readings.trans (by constructor <;> rfl)) (State.setLevel_readings _ _)

theorem State.completionHeating_readings (s : State) (c : ConfigSet) : s.KeepsReadings (s.completionHeating c) := by
  unfold State.completionHeating
  refine .trans (s.setLevel_readings 0) ?_
  dsimp only
  split
  · split
    · exact (State.endDemand_readings _).trans (by constructor <;> rfl)
    · exact State.heatClaim_readings _
  · split
    · exact State.beginDemand_readings _
    · constructor <;> rfl

/-- Level and demand at a completion (R89, R91, R93). -/
theorem State.completionLevel_readings (s : State) (c : ConfigSet) : s.KeepsReadings (s.completionLevel c) := by
  unfold State.completionLevel
  split
  · exact .refl s
  · split
    · exact s.completionHeating_readings c
    · exact s.completionCooling_readings _

theorem State.judgeRecovery_readings (s : State) : s.KeepsReadings s.judgeRecovery := by
  unfold State.judgeRecovery
  split <;> constructor <;> rfl

/-- Behind the taking of the inlet, a completion of the thermal controller changes no reading (R15). -/
theorem State.thermalCompletion_readings (s : State) (c : ConfigSet) :
    s.takeInlet.KeepsReadings (s.thermalCompletion c) :=
  ((s.takeInlet.completionLevel_readings c).trans (State.judgeSoak_readings _)).trans (State.judgeRecovery_readings _)

/-! ### SAFE and the end of a command -/

theorem State.enterSafe_readings (s : State) : s.KeepsReadings s.enterSafe := by
  unfold State.enterSafe
  refine .trans (.trans (.trans (.trans ?_ (State.emptyBalance_readings _))
    (State.joinReleaseByOther_readings _ _)) (State.heatRelease_readings _)) (State.thermalReview_readings _)
  constructor <;> rfl

theorem State.setDuplicateId_readings (s : State) : s.KeepsReadings s.setDuplicateId := by
  unfold State.setDuplicateId
  dsimp only
  split
  · exact .trans (by constructor <;> rfl) (State.enterSafe_readings _)
  · constructor <;> rfl

/-- The judgements at the end of a command reach the sequencer, the claims, the chiller lines, the container level and
the permit alone. -/
theorem State.settle_readings (s : State) : s.KeepsReadings s.settle := by
  unfold State.settle
  exact .trans s.reviewForced_readings (by constructor <;> rfl)

end Sys2Proof.Machine
end

