-- ==== Sys2Proof/Laws/PerInstr.lean ====
section
/-! SUPPORT. Statements about every command, one lemma per constructor of `Instr`. -/

namespace Sys2Proof.Laws

/-- The frame that a well-formed command stands for fits a frame (R161) and is received as that command (R169, R183). -/
def LinkFrame.Statement (i : Instr) : Prop :=
  i.wf = true → ∀ f, commandFrame i = some f → f.payload.length ≤ 24 ∧ frameCommand f = i

namespace LinkFrame

/-- A command that stands for no frame. -/
theorem of_none {i : Instr} (h : commandFrame i = none) : Statement i := by
  intro _ f hf
  rw [h] at hf
  cases hf

theorem powerOnReset (straps : StrapPins) : Statement (.powerOnReset straps) := of_none rfl

theorem configLoad (image : List Byte) : Statement (.configLoad image) := of_none rfl

theorem scanIntervalExpiry : Statement (.scanIntervalExpiry) := of_none rfl

theorem chainReplyArrival (reply : ChainReply) : Statement (.chainReplyArrival reply) := of_none rfl

theorem chainReplyWaitExpiry : Statement (.chainReplyWaitExpiry) := of_none rfl

theorem loopSample (loopS loopH : Nat) : Statement (.loopSample loopS loopH) := of_none rfl

theorem runawaySample : Statement (.runawaySample) := of_none rfl

theorem releaseCountdownExpiry : Statement (.releaseCountdownExpiry) := of_none rfl

theorem censusRepeatExpiry : Statement (.censusRepeatExpiry) := of_none rfl

theorem abortInputChange (asserted : Bool) : Statement (.abortInputChange asserted) := of_none rfl

theorem maintenanceKeyChange (asserted : Bool) : Statement (.maintenanceKeyChange asserted) := of_none rfl

theorem chillerFaultInputChange (asserted : Bool) : Statement (.chillerFaultInputChange asserted) := of_none rfl

theorem heatSoakExpiry : Statement (.heatSoakExpiry) := of_none rfl

theorem recoveryExpiry : Statement (.recoveryExpiry) := of_none rfl

theorem apExpiry : Statement (.apExpiry) := of_none rfl

theorem announceArrival (sender : BitVec 5) (payload : List Byte) : Statement (.announceArrival sender payload) := by
  intro hw f hf
  simp only [commandFrame, Option.some.injEq] at hf
  subst hf
  simp only [Instr.wf, announcePayloadOk, Bool.and_eq_true, beq_iff_eq, decide_eq_true_eq] at hw
  simp [frameCommand, broadcastCommand, hw.1.1.1.1.1.1.1]

theorem fireNoticeArrival (sender : BitVec 5) (payload : List Byte) : Statement (.fireNoticeArrival sender payload) := by
  intro hw f hf
  simp only [commandFrame, Option.some.injEq] at hf
  subst hf
  simp only [Instr.wf, fireNoticePayloadOk, Bool.and_eq_true, beq_iff_eq, decide_eq_true_eq] at hw
  simp [frameCommand, broadcastCommand, hw.1.1.1]

theorem joinClaimArrival (sender : BitVec 5) (payload : List Byte) : Statement (.joinClaimArrival sender payload) := by
  intro hw f hf
  simp only [commandFrame, Option.some.injEq] at hf
  subst hf
  simp only [Instr.wf, beq_iff_eq] at hw
  simp [frameCommand, broadcastCommand, hw]

theorem joinDoneArrival (sender : BitVec 5) (payload : List Byte) : Statement (.joinDoneArrival sender payload) := by
  intro hw f hf
  simp only [commandFrame, Option.some.injEq] at hf
  subst hf
  simp only [Instr.wf, joinDonePayloadOk, Bool.and_eq_true, beq_iff_eq, decide_eq_true_eq] at hw
  simp [frameCommand, broadcastCommand, hw.1]

theorem heatClaimArrival (sender : BitVec 5) (payload : List Byte) : Statement (.heatClaimArrival sender payload) := by
  intro hw f hf
  simp only [commandFrame, Option.some.injEq] at hf
  subst hf
  simp only [Instr.wf, beq_iff_eq] at hw
  simp [frameCommand, broadcastCommand, hw]

theorem heatReleaseArrival (sender : BitVec 5) (payload : List Byte) : Statement (.heatReleaseArrival sender payload) := by
  intro hw f hf
  simp only [commandFrame, Option.some.injEq] at hf
  subst hf
  simp only [Instr.wf, beq_iff_eq] at hw
  simp [frameCommand, broadcastCommand, hw]

theorem censusCallArrival (sender : BitVec 5) (payload : List Byte) : Statement (.censusCallArrival sender payload) := by
  intro hw f hf
  simp only [commandFrame, Option.some.injEq] at hf
  subst hf
  simp only [Instr.wf, beq_iff_eq] at hw
  simp [frameCommand, broadcastCommand, hw]

theorem censusWindowCompletion (window : WindowRead) : Statement (.censusWindowCompletion window) := of_none rfl

theorem linkIdleAttemptStart (breakerClosed : Bool) : Statement (.linkIdleAttemptStart breakerClosed) := of_none rfl

theorem lostArbitration : Statement (.lostArbitration) := of_none rfl

theorem attemptBitError (atByte : Nat) : Statement (.attemptBitError atByte) := of_none rfl

theorem ownFrameCompletion : Statement (.ownFrameCompletion) := of_none rfl

theorem headTimerExpiry : Statement (.headTimerExpiry) := of_none rfl

theorem holdTimerExpiry : Statement (.holdTimerExpiry) := of_none rfl

theorem auxInputChange (posClosed negClosed : Bool) : Statement (.auxInputChange posClosed negClosed) := of_none rfl

theorem auxWindowExpiry : Statement (.auxWindowExpiry) := of_none rfl

theorem prechargeTimerExpiry : Statement (.prechargeTimerExpiry) := of_none rfl

theorem leaveTimerExpiry : Statement (.leaveTimerExpiry) := of_none rfl

theorem failureHoldExpiry : Statement (.failureHoldExpiry) := of_none rfl

theorem gridHealthyChange (asserted : Bool) : Statement (.gridHealthyChange asserted) := of_none rfl

theorem reconnectExpiry : Statement (.reconnectExpiry) := of_none rfl

theorem readStatus (sender : BitVec 5) (payload : List Byte) : Statement (.readStatus sender payload) := by
  intro hw f hf
  simp only [commandFrame, Option.some.injEq] at hf
  subst hf
  simp only [Instr.wf, servicePayloadOk, decide_eq_true_eq] at hw
  exact ⟨hw, rfl⟩

theorem readModule (sender : BitVec 5) (payload : List Byte) : Statement (.readModule sender payload) := by
  intro hw f hf
  simp only [commandFrame, Option.some.injEq] at hf
  subst hf
  simp only [Instr.wf, servicePayloadOk, decide_eq_true_eq] at hw
  exact ⟨hw, rfl⟩

theorem setSiteCap (sender : BitVec 5) (payload : List Byte) : Statement (.setSiteCap sender payload) := by
  intro hw f hf
  simp only [commandFrame, Option.some.injEq] at hf
  subst hf
  simp only [Instr.wf, servicePayloadOk, decide_eq_true_eq] at hw
  exact ⟨hw, rfl⟩

theorem holdJoin (sender : BitVec 5) (payload : List Byte) : Statement (.holdJoin sender payload) := by
  intro hw f hf
  simp only [commandFrame, Option.some.injEq] at hf
  subst hf
  simp only [Instr.wf, servicePayloadOk, decide_eq_true_eq] at hw
  exact ⟨hw, rfl⟩

theorem resumeJoin (sender : BitVec 5) (payload : List Byte) : Statement (.resumeJoin sender payload) := by
  intro hw f hf
  simp only [commandFrame, Option.some.injEq] at hf
  subst hf
  simp only [Instr.wf, servicePayloadOk, decide_eq_true_eq] at hw
  exact ⟨hw, rfl⟩

theorem takeOut (sender : BitVec 5) (payload : List Byte) : Statement (.takeOut sender payload) := by
  intro hw f hf
  simp only [commandFrame, Option.some.injEq] at hf
  subst hf
  simp only [Instr.wf, servicePayloadOk, decide_eq_true_eq] at hw
  exact ⟨hw, rfl⟩

theorem returnRack (sender : BitVec 5) (payload : List Byte) : Statement (.returnRack sender payload) := by
  intro hw f hf
  simp only [commandFrame, Option.some.injEq] at hf
  subst hf
  simp only [Instr.wf, servicePayloadOk, decide_eq_true_eq] at hw
  exact ⟨hw, rfl⟩

theorem clearLockout (sender : BitVec 5) (payload : List Byte) : Statement (.clearLockout sender payload) := by
  intro hw f hf
  simp only [commandFrame, Option.some.injEq] at hf
  subst hf
  simp only [Instr.wf, servicePayloadOk, decide_eq_true_eq] at hw
  exact ⟨hw, rfl⟩

theorem fireReset (sender : BitVec 5) (payload : List Byte) : Statement (.fireReset sender payload) := by
  intro hw f hf
  simp only [commandFrame, Option.some.injEq] at hf
  subst hf
  simp only [Instr.wf, servicePayloadOk, decide_eq_true_eq] at hw
  exact ⟨hw, rfl⟩

theorem breakerHold (sender : BitVec 5) (payload : List Byte) : Statement (.breakerHold sender payload) := by
  intro hw f hf
  simp only [commandFrame, Option.some.injEq] at hf
  subst hf
  simp only [Instr.wf, servicePayloadOk, decide_eq_true_eq] at hw
  exact ⟨hw, rfl⟩

theorem breakerRelease (sender : BitVec 5) (payload : List Byte) : Statement (.breakerRelease sender payload) := by
  intro hw f hf
  simp only [commandFrame, Option.some.injEq] at hf
  subst hf
  simp only [Instr.wf, servicePayloadOk, decide_eq_true_eq] at hw
  exact ⟨hw, rfl⟩

theorem censusRequest (sender : BitVec 5) (payload : List Byte) : Statement (.censusRequest sender payload) := by
  intro hw f hf
  simp only [commandFrame, Option.some.injEq] at hf
  subst hf
  simp only [Instr.wf, servicePayloadOk, decide_eq_true_eq] at hw
  exact ⟨hw, rfl⟩

theorem restart (sender : BitVec 5) (payload : List Byte) : Statement (.restart sender payload) := by
  intro hw f hf
  simp only [commandFrame, Option.some.injEq] at hf
  subst hf
  simp only [Instr.wf, servicePayloadOk, decide_eq_true_eq] at hw
  exact ⟨hw, rfl⟩

theorem unknownRequest (sender : BitVec 5) (kind : Byte) (payload : List Byte) : Statement (.unknownRequest sender kind payload) := by
  intro hw f hf
  simp only [commandFrame, Option.some.injEq] at hf
  subst hf
  simp only [Instr.wf, servicePayloadOk, listedServiceKind, Bool.and_eq_true, Bool.not_eq_true', Bool.or_eq_false_iff,
    Bool.and_eq_false_iff, decide_eq_false_iff_not, decide_eq_true_eq, beq_eq_false_iff_ne] at hw
  refine ⟨hw.2, ?_⟩
  change serviceCommand sender kind payload = _
  unfold serviceCommand
  split <;> first | rfl | (exfalso; omega)

theorem receivedFrameDiscard (reason : DiscardReason) : Statement (.receivedFrameDiscard reason) := of_none rfl

end LinkFrame

end Sys2Proof.Laws
end

