-- ==== Sys2Proof/Tests/Slice0.lean ====
section
/-! SUPPORT. The model's own tests: an ill-formed command for each check of WellFormed, results taken from the worked
cases and tables of the manual, and for every statement with hypotheses a state and operands that meet them. -/

namespace Sys2Proof.Tests

open Sys2Proof Sys2Proof.Machine

/-! ### WellFormed refuses -/

/-- An ANNOUNCE payload of ACTIVE, JOINED, NORMAL, COOLING level 1, zone 1 and no flag. -/
def announce (mode conn fire thermal zone flags cond : Byte) : List Byte :=
  [mode, conn, fire, thermal, zone, flags, cond] ++ List.replicate 17 0

theorem test_wf_announce_accepts : (Instr.announceArrival 2 (announce 2 4 0 17 1 31 63)).wf = true := by decide
theorem test_wf_announce_length : (Instr.announceArrival 2 [2, 4, 0, 17, 1, 0]).wf = false := by decide
theorem test_wf_announce_mode : (Instr.announceArrival 2 (announce 0 4 0 17 1 0 0)).wf = false
    ∧ (Instr.announceArrival 2 (announce 5 4 0 17 1 0 0)).wf = false := by decide
theorem test_wf_announce_conn : (Instr.announceArrival 2 (announce 2 10 0 17 1 0 0)).wf = false := by decide
theorem test_wf_announce_fire : (Instr.announceArrival 2 (announce 2 4 6 17 1 0 0)).wf = false := by decide
theorem test_wf_announce_thermal : (Instr.announceArrival 2 (announce 2 4 0 5 1 0 0)).wf = false := by decide
theorem test_wf_announce_zone : (Instr.announceArrival 2 (announce 2 4 0 17 0 0 0)).wf = false
    ∧ (Instr.announceArrival 2 (announce 2 4 0 17 5 0 0)).wf = false := by decide
theorem test_wf_announce_flags : (Instr.announceArrival 2 (announce 2 4 0 17 1 32 0)).wf = false := by decide
theorem test_wf_announce_condition : (Instr.announceArrival 2 (announce 2 4 0 17 1 0 64)).wf = false := by decide
theorem test_wf_notice : (Instr.fireNoticeArrival 2 [1, 5, 15]).wf = true
    ∧ (Instr.fireNoticeArrival 2 [1, 5]).wf = false ∧ (Instr.fireNoticeArrival 2 [0, 5, 0]).wf = false
    ∧ (Instr.fireNoticeArrival 2 [5, 5, 0]).wf = false ∧ (Instr.fireNoticeArrival 2 [1, 6, 0]).wf = false
    ∧ (Instr.fireNoticeArrival 2 [1, 5, 16]).wf = false := by decide
theorem test_wf_claims : (Instr.joinClaimArrival 2 [0]).wf = false ∧ (Instr.joinDoneArrival 2 []).wf = false
    ∧ (Instr.joinDoneArrival 2 [2]).wf = false ∧ (Instr.heatClaimArrival 2 [0]).wf = false
    ∧ (Instr.heatReleaseArrival 2 [0]).wf = false ∧ (Instr.censusCallArrival 2 [1]).wf = false := by decide
theorem test_wf_service_length : (Instr.readStatus 0 (List.replicate 25 0)).wf = false
    ∧ (Instr.readModule 0 (List.replicate 25 0)).wf = false ∧ (Instr.setSiteCap 0 (List.replicate 25 0)).wf = false
    ∧ (Instr.restart 0 (List.replicate 25 0)).wf = false := by decide
theorem test_wf_unknown_kind : (Instr.unknownRequest 0 14 [1]).wf = true ∧ (Instr.unknownRequest 0 13 [1]).wf = false
    ∧ (Instr.unknownRequest 0 1 [1]).wf = false ∧ (Instr.unknownRequest 0 128 [1]).wf = false
    ∧ (Instr.unknownRequest 0 0 (List.replicate 25 0)).wf = false := by decide
theorem test_wf_image : (Instr.configLoad (List.replicate 81 0)).wf = false := by
  simp [Instr.wf]
theorem test_wf_reply_position : (Instr.chainReplyArrival ⟨0, [], 13, .other 0⟩).wf = false := by decide
theorem test_wf_error_byte : (Instr.attemptBitError 0).wf = false ∧ (Instr.attemptBitError 30).wf = false := by decide

/-! ### The frame layer

The check sequence of the nine characters 1 to 9 under this computation is 29B1 hexadecimal, the published check value of
the polynomial of R161 with a register of all ones. -/

theorem test_crc_check_value :
    crc16 [0x31, 0x32, 0x33, 0x34, 0x35, 0x36, 0x37, 0x38, 0x39] = 0x29B1#16 := by
  decide +kernel

/-- JOIN_CLAIM of station 5: class 2 in bits 7 to 5, sender 5, kind 1, length 0 (R161, R183). -/
theorem test_frame_layout : frameBody ⟨2, 5, 1, []⟩ = [0b01000101, 1, 0] := by decide

/-- A class of 5 to 7 and a kind outside its class are discarded (R169). -/
theorem test_unlisted_class_discarded : frameCommand ⟨5, 2, 1, []⟩ = .receivedFrameDiscard .classKindOrLength
    ∧ frameCommand ⟨2, 2, 5, []⟩ = .receivedFrameDiscard .classKindOrLength
    ∧ frameCommand ⟨4, 2, 1, [0]⟩ = .receivedFrameDiscard .classKindOrLength := by decide

theorem test_table_gives_no_bits : decodeTableWord 32 0 = none := rfl

/-- R160: the ten bits of header byte 1 = 40 hexadecimal go most significant bit first, those of 01 least significant first; of
two drivers the dominant one is read. -/
theorem test_levels_of_bytes :
    frameLevels [0x40, 0x01] = [false, false, true, false, false, false, false, false, false, true]
        ++ [false, true, false, false, false, false, false, false, false, true]
      ∧ wired [true, true, false] [true, false, true] = [true, false, false] := by decide

/-- A stop bit read dominant ends the reception (R169). -/
theorem test_dominant_stop_discards :
    decodeLevels (List.replicate 10 false) = .receivedFrameDiscard .stopBitDominant := by decide

/-! ### The worked case of 2.10 and the limit cases of 2.11 -/

/-- The configuration of the worked case, with TABLE_R charge C = 80 and the remaining values within their ranges. -/
def cfg : ConfigSet where
  modules := 2
  cells := 8
  tsens := 2
  vchLim := 3600
  vchTap := 3450
  chTrim := -20
  vdsLim := 2800
  vdsTap := 3000
  ta := 0
  tb := 10
  tc := 45
  tableN := ⟨⟨0, 60, 200, 120⟩, ⟨80, 150, 200, 150⟩⟩
  tableR := ⟨⟨0, 60, 80, 80⟩, ⟨80, 150, 200, 150⟩⟩
  irackMax := 200
  ramp := 10
  vtripHi := 3700
  vtripLo := 2700
  ttrip := 60
  thOn := 5
  thOff := 10
  tc1 := 32
  tc2 := 36
  tc3 := 40
  inletLim := 28
  heatLimitGrid := 4
  heatLimitIsland := 1
  heatHold := 20
  balWindow := 20
  balFloor := 3400
  balCurrent := 5
  matchWindow := 15
  prechDone := 3
  prechMax := 8
  leaveCurrent := 10
  reconnect := 60
  releaseDelay := 30
  runawayRise := 5
  ap := 4
  retriesOff := false
  lPrime := 3580
  pPrime := 3430

/-- A station in ACTIVE with proving complete, fresh records and nothing pending. -/
def base : State :=
  { State.reset with
    chain := { Chain.reset with
      scanTimer := some 100, dataLoss := false, tempLoss := false, staleLeave := false
      sense := ⟨0, 8000, 8000, some 20, 0⟩, vmin := 3302, vmax := 3511, tmin := 8, tmax := 31 }
    env := { Envelope.reset with ec := 20, ed := 95, runawayTimer := some 1000 }
    peers := ⟨some 200, [], false, 0, false⟩
    claims := { ClaimUnit.reset with limit := 1 }
    fire := { FireUnit.reset with loopTimer := some 100 }
    conn := { Connection.reset with proving := .complete }
    svc := { Service.reset ⟨0, 0, false⟩ with mode := .active, config := some cfg, siteCap := 100 } }

/-- The pair after an evaluation on given aggregates. -/
def pairAfter (ec ed : Nat) (tmin : Int) (fire : FireState) : Nat × Nat :=
  let s := { base with
    chain := { base.chain with tmin := tmin }
    env := { base.env with ec := ec, ed := ed }
    fire := { base.fire with state := fire } }
  ((s.evaluatePair cfg).env.ec, (s.evaluatePair cfg).env.ed)

theorem test_worked_case_evaluations : pairAfter 20 95 8 .normal = (27, 100) ∧ pairAfter 27 100 (-1) .normal = (0, 80)
    ∧ pairAfter 0 80 2 .normal = (10, 90) ∧ pairAfter 20 100 2 .normal = (27, 100) := by decide
theorem test_worked_case_pre_alarm : pairAfter 27 100 8 .preAlarm = (13, 50) := by decide
theorem test_taper_limit_cases : taperCharge cfg 60 3430 = 60 ∧ taperCharge cfg 60 3431 = 59
    ∧ taperCharge cfg 60 3579 = 0 ∧ taperCharge cfg 60 3580 = 0 ∧ taperDischarge cfg 150 3000 = 150
    ∧ taperDischarge cfg 150 2999 = 149 ∧ taperDischarge cfg 150 2801 = 0 ∧ taperDischarge cfg 150 2800 = 0 := by decide
theorem test_overcurrent_limit_of_worked_case : overLimit 27 100 1150 = false ∧ overLimit 27 100 1151 = true
    ∧ overLimit 27 100 (-347) = false ∧ overLimit 27 100 (-348) = true := by decide

/-- The table of R91, with TC1 = 32, TC2 = 36 and TC3 = 40. -/
theorem test_cooling_table : coolingLevel cfg 0 31 = 0 ∧ coolingLevel cfg 0 37 = 2 ∧ coolingLevel cfg 2 34 = 2
    ∧ coolingLevel cfg 2 33 = 1 ∧ coolingLevel cfg 2 29 = 0 ∧ coolingLevel cfg 3 30 = 1 := by decide

/-! ### Deciding the premises -/

/-- A check of `Steady`. -/
def steadyCheck (s : State) : Bool :=
  s.grid.permit == s.permitNow && s.peers.containerLevel == s.containerLevelNow
    && s.thermal.pump1 == (s.svc.straps.chiller && s.svc.mode != .loading
      && (s.peers.containerLevel == 1 || s.peers.containerLevel == 3))
    && s.thermal.pump2 == (s.svc.straps.chiller && s.svc.mode != .loading
      && (s.peers.containerLevel == 2 || s.peers.containerLevel == 3))
    && s.thermal.chillerRun == (s.svc.straps.chiller && s.svc.mode != .loading && s.peers.containerLevel != 0)
    && (!s.forcedCause || !takesForcedLeave s.conn.state) && s.svc.restart != .due

theorem steady_of_check {s : State} (h : steadyCheck s = true) : s.Steady := by
  simp only [steadyCheck, Bool.and_eq_true, beq_iff_eq, bne_iff_ne, ne_eq] at h
  obtain ⟨⟨⟨⟨⟨⟨h1, h2⟩, h3⟩, h4⟩, h5⟩, h6⟩, h7⟩ := h
  exact ⟨h1, h2, h3, h4, h5, fun hc => by simpa [hc] using h6, h7⟩

/-- A check of `SignalsCurrent`. -/
def signalsCheck (s : State) : Bool :=
  s.claims.tokenHeld == s.tokenNow && s.claims.slotHeld == s.slotNow
    && (!(s.conn.state == .precharge || s.conn.state == .closing)
      || (s.claims.tokenHeld && s.claims.join.entries.head? == some s.ownNumber))
    && (s.conn.check == .none || (s.conn.state == .waitToken && s.claims.tokenHeld))

theorem signals_of_check {s : State} (h : signalsCheck s = true) : s.SignalsCurrent := by
  simp only [signalsCheck, Bool.and_eq_true, Bool.or_eq_true, beq_iff_eq, Bool.not_eq_true', Bool.or_eq_false_iff,
    beq_eq_false_iff_ne, ne_eq] at h
  obtain ⟨⟨⟨h1, h2⟩, h3⟩, h4⟩ := h
  refine ⟨h1, h2, fun hj => ?_, fun hj => ?_, fun hc => ?_⟩
  · rcases h3 with h3 | h3
    · exact absurd hj (by tauto)
    · exact h3.1
  · rcases h3 with h3 | h3
    · exact absurd hj (by tauto)
    · exact h3.2
  · rcases h4 with h4 | h4
    · exact absurd h4 hc
    · exact h4

theorem hears_of_check {s : State} (h : (s.onLine.isNone && s.svc.mode != .loading) = true) : s.Hears := by
  simp only [Bool.and_eq_true, Option.isNone_iff_eq_none, bne_iff_ne, ne_eq] at h
  exact ⟨h.1, h.2⟩

/-- What a command leaves of a state. -/
def after (c : Instr) (s : State) : State :=
  match exec c s with
  | .next t => t
  | .fault _ => s
  | .refused _ => s

/-- Room in the queue. -/
theorem room_of_check {s : State} (h : decide (s.link.queue.length < 8) = true) : s.Room :=
  (of_decide_eq_true h : s.link.queue.length < 8)

/-! ### The states of the witnesses -/

/-- A scan in flight. -/
def run (position tryNo : Nat) (replied : Bool) (good bad : List Nat) : ScanRun :=
  ⟨position, tryNo, replied, [], good, bad⟩

/-- `base` with a scan in flight. -/
def scanning (r : ScanRun) : State := { base with chain := { base.chain with scan := some r } }

/-- `base` in another connection state with its drives. -/
def conn (state : ConnState) (pos neg : Bool) (window : Option WindowUse) : State :=
  { base with conn := { base.conn with state := state, posDrive := pos, negDrive := neg, window := window } }

/-- A rack on the bus, its contacts closed. -/
def joined : State := { conn .joined true true none with lines := { base.lines with auxPos := true, auxNeg := true } }

/-- A leave in progress. -/
def leaving : State := { joined with conn := { joined.conn with state := .leaving, leaveTimer := some 5000 } }

/-- The token held in a connection state. -/
def underToken (state : ConnState) (pos neg : Bool) (window : Option WindowUse) : State :=
  { conn state pos neg window with
    claims := { base.claims with join := ⟨[1], .listed, false⟩, tokenHeld := true, headTimer := some 10000 } }

/-- Precharge under the token, the negative contactor closed. -/
def precharge : State :=
  { underToken .precharge false true none with
    lines := { base.lines with auxNeg := true }
    conn := { (underToken .precharge false true none).conn with preDrive := true, prechTimer := some 8000 } }

/-- Closing under the token. -/
def closing : State := { underToken .closing true true (some .posClose) with lines := { base.lines with auxNeg := true } }

/-- Waiting for the token, with a join check pending under it. -/
def checking : State :=
  { underToken .waitToken false false none with
    conn := { (underToken .waitToken false false none).conn with check := .callPending false } }

/-- Heating in the own slot of a heat list. -/
def heatingWith (entries : List Nat) (hold : HoldTimer) : State :=
  { base with
    claims := { base.claims with heat := ⟨entries, .listed, false⟩, slotHeld := true, hold := hold }
    thermal := { base.thermal with state := .heating, demand := true, heater := true } }

/-- Waiting for a slot behind the other entries of the list. -/
def heatWaitWith (entries : List Nat) : State :=
  { base with
    claims := { base.claims with heat := ⟨entries, .listed, false⟩ }
    thermal := { base.thermal with state := .heatWait, demand := true } }

/-- A fire state with its outputs, the station off the bus. -/
def fireIn (f : FireState) (countdown : Timer) : State :=
  { base with
    env := { base.env with ec := 0, ed := 0 }
    peers := { base.peers with containerFire := true, containerLevel := 3 }
    thermal := { base.thermal with state := .inhibited, level := 3, valve := true }
    fire := { base.fire with
      state := f, countdown := countdown, fireLine := true, tripLine := true, release := f == .released
      loopS := ⟨.alarm, none, 0⟩, loopH := ⟨.alarm, none, 0⟩ } }

/-- PRE_ALARM on smoke. -/
def preAlarm (census : CensusState) : State :=
  { base with fire := { base.fire with
      state := .preAlarm, loopS := ⟨.alarm, none, 0⟩, repeatTimer := some 2000, census := census } }

/-- A loop that has given two samples of the class alarm. -/
def almostAlarm : LoopRecord := ⟨.normal, some .alarm, 2⟩

/-- A peer's record. -/
def peer (n age : Nat) : PeerRecord :=
  ⟨n, 1, .normal, false, some 0, some false, some false, age, if age < 4 then .present else .stale⟩

/-- `base` with an own frame on the line. -/
def sending (e : Entry) : State :=
  { base with link := { base.link with queue := [{ e with onLine := true }] } }

/-- A gateway's own-number byte under `base`: station 1. -/
def dest : Byte := 1

/-- `base` in another mode. -/
def inMode (m : Mode) : State :=
  { base with
    svc := { base.svc with mode := m }
    thermal := { base.thermal with state := .inhibited, valve := true }
    env := { base.env with ec := 0, ed := 0 } }

/-! ### The step and the whole machine -/

theorem witness_StepRunsFrontCommand :
    ({ base with pending := [.apExpiry, .ownFrameCompletion] } : State).pending = .apExpiry :: [.ownFrameCompletion]
      ∧ base.pending = [] := ⟨rfl, rfl⟩
theorem witness_EveryCommandAnswersNext : movesLines .apExpiry = false := rfl
theorem witness_EveryCommandSettles : ∃ t, exec .scanIntervalExpiry base = .next t := ⟨_, rfl⟩

/-- The permit is driven in one next state and withheld in another. -/
theorem witness_PermitExactlyUnderSevenConditions :
    (after .reconnectExpiry { base with grid := ⟨.returning, some 300000, false, false⟩ }).grid.permit = true
      ∧ (after .reconnectExpiry base).grid.permit = false := by decide

/-! ### The invariants -/

/-- Module records with the masks of a balance set. -/
def richModules : List ModuleRecord :=
  { ModuleRecord.reset with mask := [3, 5] } :: { ModuleRecord.reset with mask := [8] }
    :: List.replicate 10 ModuleRecord.reset

/-- A station on the bus, heating in its slot, with peers on both lists, a frame on the line and a balance set. -/
def rich : State :=
  { joined with
    claims := { base.claims with
      join := ⟨[2, 3], .notClaimed, false⟩, heat := ⟨[1, 4], .listed, false⟩, slotHeld := true, hold := .running 1200000 }
    thermal := { base.thermal with state := .heating, demand := true, heater := true }
    balance := ⟨[(1, 3), (1, 5), (2, 8)], some ⟨0, 31, false⟩⟩
    chain := { base.chain with modules := richModules }
    peers := { base.peers with table := [peer 2 0, peer 3 3, peer 4 4] }
    link := { base.link with queue := [{ joinDoneFrame .ok with onLine := true, errors := 3 }, announceFrame] }
    pending := [.ownFrameCompletion] }

theorem witness_ThermalTableKept : rich.ThermalTable ∧ ∃ t, step rich = .next t :=
  ⟨by constructor <;> decide, _, rfl⟩
theorem witness_DrivesFollowKept : rich.DrivesFollow ∧ ∃ t, step rich = .next t :=
  ⟨by constructor <;> decide, _, rfl⟩
theorem witness_SignalsCurrentKept :
    precharge.SignalsCurrent ∧ precharge.DrivesFollow ∧ ∃ t, step precharge = .next t :=
  ⟨signals_of_check (by decide), by constructor <;> decide, _, rfl⟩
theorem witness_FireOutputsKept : (fireIn .releaseDelay (some 30000)).FireOutputs
    ∧ ∃ t, step (fireIn .releaseDelay (some 30000)) = .next t := ⟨by constructor <;> decide, _, rfl⟩
theorem witness_EnvelopeWithinKept : rich.EnvelopeWithin ∧ ∃ t, step rich = .next t :=
  ⟨⟨by decide, by decide, fun c h => by cases h; decide, by decide, by decide⟩, _, rfl⟩
theorem witness_BalanceSoundKept : rich.BalanceSound ∧ ∃ t, step rich = .next t := by
  refine ⟨⟨by decide, fun p => ?_, by decide, by decide, fun c h => by cases h; decide, by decide, fun p h1 h2 => ?_,
    fun _ => ⟨by decide, by decide, by decide, by decide, cfg, _, rfl, rfl, by decide⟩⟩, _, rfl⟩
  · simp only [rich, List.filter_cons, List.filter_nil, beq_iff_eq]
    split_ifs <;> (simp; try omega)
  · interval_cases p <;> decide
theorem witness_ListsProperKept : rich.ListsProper ∧ ∃ t, step rich = .next t := ⟨by constructor <;> decide, _, rfl⟩
theorem witness_QueueSoundKept : rich.QueueSound ∧ ∃ t, step rich = .next t := ⟨by constructor <;> decide, _, rfl⟩

/-! ### The frame layer, reset and configuration -/

theorem witness_FramesReceivedAsSent : (Instr.joinDoneArrival 5 [1]).wf = true
    ∧ commandFrame (.joinDoneArrival 5 [1]) = some ⟨2, 5, 2, [1]⟩
    ∧ (Instr.unknownRequest 0 14 []).wf = true ∧ commandFrame (.unknownRequest 0 14 []) = some ⟨3, 0, 14, []⟩ := by decide

/-- The image of `cfg`, written out by the table of 11.6, and its checksum. -/
def image : List Byte :=
  [2, 8, 2, 0x0E, 0x10, 0x0D, 0x7A, 0xFF, 0xEC, 0x0A, 0xF0, 0x0B, 0xB8, 0, 10, 45]
    ++ [0, 0, 0, 60, 0, 200, 0, 120, 0, 80, 0, 150, 0, 200, 0, 150]
    ++ [0, 0, 0, 60, 0, 80, 0, 80, 0, 80, 0, 150, 0, 200, 0, 150]
    ++ [0, 200, 10, 0x0E, 0x74, 0x0A, 0x8C, 60, 5, 10, 32, 36, 40, 28, 4, 1]
    ++ [20, 20, 0x0D, 0x48, 5, 15, 3, 8, 10, 60, 30, 5, 4, 0, 0x0F, 0x3B]

/-- The worked image is accepted as `cfg`. -/
theorem witness_ConfigLoadAccepted : loadImage image = some cfg := by decide
theorem witness_ConfigLoadRefused : loadImage [] = none ∧ base.Steady ∧ base.svc.mode ≠ .loading :=
  ⟨rfl, steady_of_check (by decide), by decide⟩
theorem witness_AcceptedImageValues : (∃ c, loadImage image = some c) ∧ loadImage (image.set 0 3) = none :=
  ⟨⟨cfg, by decide⟩, by decide⟩

/-! ### The module chain -/

theorem witness_ScanIntervalStartsOrOwes :
    (base.Steady ∧ base.chain.scanTimer ≠ none ∧ base.chain.scan = none)
      ∧ ((scanning (run 0 1 false [] [])).Steady ∧ (scanning (run 0 1 false [] [])).chain.scanTimer ≠ none
        ∧ (scanning (run 0 1 false [] [])).chain.scan ≠ none)
      ∧ State.reset.Steady ∧ State.reset.chain.scanTimer = none :=
  ⟨⟨steady_of_check (by decide), by decide⟩, ⟨steady_of_check (by decide), by decide⟩, steady_of_check (by decide), rfl⟩

/-- Position 1 of 2, whose reply has 8 cell voltages and 2 temperatures; position 0 of the rack sense unit. -/
theorem witness_GoodReplyStored :
    ((scanning (run 1 1 false [0] [])).Steady ∧ base.svc.config = some cfg ∧ (1 : Nat) ≠ 0 ∧ 1 < cfg.modules
        ∧ [3400, 3401, 3402, 3403, 3404, 3405, 3406, 3407].length = cfg.cells
        ∧ [TempReading.value 20, .openSensor].length = cfg.tsens)
      ∧ (scanning (run 0 1 false [] [])).Steady ∧ 0 < cfg.modules :=
  ⟨⟨steady_of_check (by decide), by decide⟩, steady_of_check (by decide), by decide⟩

/-- The saturated ends of R7 and R8. -/
theorem test_readings_saturate : storeTemp (.value (-41)) = some (-40) ∧ storeTemp (.value 126) = some 125
    ∧ storeCurrent 5001 = 5000 ∧ storeVoltage (-1) = 0 ∧ storeVoltage 15001 = 15000 ∧ storeCell 5001 = 5000 := by decide

theorem witness_FailedTriesRetried :
    (scanning (run 1 2 false [0] [])).Steady ∧ 2 < triesOf cfg
      ∧ (scanning (run 1 3 true [0] [])).Steady ∧ triesOf cfg ≤ 3 ∧ 1 < cfg.modules
      ∧ badReply cfg { check := 0, bytes := [], position := 1, body := .other 0 }
      ∧ badReply cfg { check := 0xFFFF, bytes := [], position := 1, body := .module [] [] } :=
  ⟨steady_of_check (by decide), by decide, steady_of_check (by decide), by decide, by decide,
    badReply_iff.mpr (by decide), badReply_iff.mpr (by decide)⟩

/-- The last try without a reply behind a try with one is CHECK_FAIL, and the scan goes on (R3, the case of 1.7). -/
theorem test_check_fail_after_silence :
    (after .chainReplyWaitExpiry (scanning (run 1 3 true [0] []))).chain.scan.map (fun r => (r.position, r.bad))
      = some (2, [1]) := by decide

theorem witness_TerminatedScanRecord :
    base.svc.config = some cfg ∧ base.svc.restart = .none ∧ 2 ≤ cfg.modules
      ∧ (triesOf cfg ≤ 3 ∧ (run 2 3 false [0] [1]).replied = false)
      ∧ ¬badReply cfg { check := 0xFFFF, bytes := [], position := 0, body := .rackSense 0 0 0 .openSensor } ∧ (0 : Nat) ≠ 2 :=
  ⟨by decide, by decide, by decide, by decide, fun h => absurd (badReply_iff.mp h) (by decide), by decide⟩

/-- What a terminated scan records (R6): last read 0 of 2, two positions not read. -/
theorem test_terminated_record :
    (after .chainReplyWaitExpiry (scanning (run 1 3 false [0] []))).chain.record = ⟨1, .terminated, some 0, 2, []⟩ := by
  decide

/-- A good reply of module 2. -/
def lastReply : ChainReply :=
  { check := 0xFFFF, bytes := [], position := 2
    body := .module [3400, 3400, 3400, 3400, 3400, 3400, 3400, 3400] [.value 20, .value 21] }

theorem witness_CompletedScanEvaluates :
    base.svc.config = some cfg ∧ (scanning (run 2 1 false [0, 1] [])).svc.restart = .none ∧ 2 = cfg.modules
      ∧ ¬badReply cfg lastReply
      ∧ (triesOf cfg ≤ (run 2 3 true [0, 1] []).tryNo ∧ (run 2 3 true [0, 1] []).replied = true) :=
  ⟨by decide, by decide, by decide, fun h => absurd (badReply_iff.mp h) (by decide), by decide⟩

/-- The completion with a last module that failed its check (R3, R6). -/
theorem test_check_fail_at_last_position :
    (after .chainReplyWaitExpiry (scanning (run 2 3 true [0, 1] []))).chain.record
      = ⟨1, .completeWithBad, some 2, 0, [2]⟩ := by decide

/-- A scan whose last module is about to answer, in another connection state. -/
def ending (s : State) : State :=
  { s with chain := { s.chain with
      scan := some (run 2 1 false [0, 1] [])
      modules := List.replicate 12 ⟨List.replicate 8 3400, [some 20, some 20], 0, []⟩ } }

/-- The sequencer at a completion: the claim of R129, the match of R135 and the current test of R143, without a forced-leave
cause. -/
theorem witness_CompletedScanEvaluates_sequencer :
    (after (.chainReplyArrival lastReply) (ending base)).conn.state = .waitToken
      ∧ (after (.chainReplyArrival lastReply) (ending precharge)).conn.state = .closing
      ∧ (after (.chainReplyArrival lastReply) (ending leaving)).conn.window = some .leavePos
      ∧ (after (.chainReplyArrival lastReply) (ending base)).forcedCause = false
      ∧ (ending base).link.queue.length ≤ 6 := by decide

/-! ### The envelope -/

/-- Each band at its lower threshold. -/
theorem witness_BandOfTemperature : (cfg.ta < cfg.tb ∧ cfg.tb < cfg.tc) ∧ (-1 : Int) < cfg.ta
    ∧ (cfg.ta ≤ 0 ∧ (0 : Int) < cfg.tb) ∧ (cfg.tb ≤ 10 ∧ (10 : Int) < cfg.tc) ∧ cfg.tc ≤ 45 := by decide
/-- Each part of a taper at its ends. -/
theorem witness_TapersRoundDown :
    (cfg.pPrime < cfg.lPrime ∧ ((3430 : Nat) : Int) ≤ cfg.pPrime ∧ cfg.lPrime ≤ ((3580 : Nat) : Int)
        ∧ cfg.pPrime < ((3431 : Nat) : Int) ∧ ((3579 : Nat) : Int) < cfg.lPrime ∧ cfg.lPrime ≤ 4400)
      ∧ cfg.vdsLim < cfg.vdsTap ∧ cfg.vdsTap ≤ 3000 ∧ 2800 ≤ cfg.vdsLim ∧ cfg.vdsLim < 2801 ∧ 2999 < cfg.vdsTap := by
  decide

theorem witness_TargetsOfAnEvaluation :
    (fireIn .alarm none).peers.containerFire = true
      ∧ ((preAlarm .idle).fire.state = .preAlarm ∧ (preAlarm .idle).svc.mode = .active
        ∧ fireAlarmed (preAlarm .idle).fire.state = false ∧ (preAlarm .idle).peers.containerFire = false
        ∧ (preAlarm .idle).chain.dataLoss = false ∧ (preAlarm .idle).chain.tempLoss = false
        ∧ (preAlarm .idle).env.trip = false)
      ∧ base.fire.state = .normal := by decide
theorem witness_RampRisesSlowlyFallsAtOnce : base.env.ec < base.chargeTarget cfg ∧ base.env.ed < base.dischargeTarget cfg
    ∧ ({ base with env := { base.env with ec := 101, ed := 101 } } : State).chargeTarget cfg ≤ 101
    ∧ ({ base with env := { base.env with ec := 101, ed := 101 } } : State).dischargeTarget cfg ≤ 101 := by decide

/-- One A above the overcurrent limit of the worked case, at the limit, and a cell beyond its trip voltage. -/
theorem witness_TripCountsJudged :
    (11 * (100 : Int) + 50 < 1151 ∧ ¬11 * (100 : Int) + 50 < 1150)
      ∧ (0 ∈ [0, 1] ∧ 0 ∉ [1]) ∧ base.env.cellTrips[1 - 1]? = some 0 ∧ 1 ≤ cfg.modules ∧ cfg.vtripHi < 3701
      ∧ 2699 < cfg.vtripLo ∧ cfg.ttrip ≤ 60 := by decide

/-! ### Balancing -/

/-- A rack that is eligible, with a member that stays. -/
def balancing : State :=
  { base with
    chain := { base.chain with vmax := 3500, vmin := 3400 }
    balance := ⟨[(1, 3)], some ⟨0, 30, false⟩⟩ }

theorem witness_BalanceRebuild :
    (balancing.svc.mode = .active ∧ balancing.fire.state = .normal ∧ balancing.peers.containerFire = false
        ∧ balancing.thermal.level < 3 ∧ (50 : Int) ≤ 10 * cfg.balCurrent ∧ ¬(51 : Int) ≤ 10 * cfg.balCurrent
        ∧ (44 : Int) < cfg.tc ∧ ¬(45 : Int) < cfg.tc)
      ∧ (balancing.balance.members.Nodup ∧ balancing.balance.members.length ≤ 8
        ∧ ∀ m ∈ balancing.balance.members, 1 ≤ m.1 ∧ m.1 ≤ cfg.modules ∧ 1 ≤ m.2 ∧ m.2 ≤ cfg.cells)
      ∧ ∀ p, (balancing.balance.members.filter (fun m => m.1 == p)).length ≤ 2 :=
  ⟨by decide, by decide, fun p => by
    simp only [balancing, List.filter_cons, List.filter_nil]
    split_ifs <;> simp⟩

/-- The thresholds of R48 and R49: with Vmin 3400 and a window of 20 mV a member stays at 3417 and goes at 3416, and a cell joins at
3420 and not at 3419. -/
theorem test_balance_thresholds :
    let r := fun (member : Bool) (v : Nat) =>
      ({ balancing with
          balance := { balancing.balance with members := if member then [(1, 1)] else [] }
          chain := { balancing.chain with modules := [{ ModuleRecord.reset with cells := [v, 3400], age := 0 }] } } : State).rebuilt
        cfg ⟨0, 30, false⟩
    r true 3417 = [(1, 1)] ∧ r true 3416 = [] ∧ r false 3420 = [(1, 1)] ∧ r false 3419 = [] := by decide

/-- The fill of 3.5: eleven candidates, three of them passed over, eight members. -/
def fillModules : List ModuleRecord :=
  [[3390, 3390, 3431, 3390, 3412, 3390, 3405, 3390], [3431, 3390, 3390, 3390, 3390, 3402, 3390, 3390],
    [3390, 3440, 3390, 3424, 3390, 3390, 3390, 3418], [3390, 3380, 3390, 3390, 3390, 3390, 3390, 3390],
    [3409, 3390, 3420, 3390, 3390, 3390, 3390, 3415]].map
    (fun v => { ModuleRecord.reset with cells := v, age := 0, temps := [some 28, some 27] })

theorem test_balance_fill_of_worked_sequence :
    let c := { cfg with modules := 5 }
    let s := { base with
      chain := { base.chain with modules := fillModules, vmin := 3380, vmax := 3440 }
      thermal := { base.thermal with level := 1 } }
    s.rebuilt c ⟨-18, 28, false⟩ = [(1, 3), (1, 5), (2, 1), (2, 6), (3, 2), (3, 4), (5, 3), (5, 8)] := by decide +kernel

/-! ### Thermal control -/

/-- Every level at its threshold and at its hysteresis, and below both. -/
theorem witness_LevelAndDemandAtCompletion_level :
    cfg.tc1 < cfg.tc2 ∧ cfg.tc2 < cfg.tc3 ∧ cfg.tc3 ≤ 40 ∧ (3 ≤ 3 ∧ cfg.tc3 - 2 ≤ 38) ∧ ¬cfg.tc3 - 2 ≤ (37 : Int)
      ∧ cfg.tc2 ≤ 36 ∧ ¬cfg.tc2 - 2 ≤ (33 : Int) ∧ cfg.tc1 ≤ 32 ∧ ¬cfg.tc1 - 2 ≤ (29 : Int) ∧ base.thermal.level ≤ 3
      ∧ base.chain.tempLoss = false ∧ State.reset.chain.tempLoss = true := by decide

theorem witness_LevelAndDemandAtCompletion_demand :
    (base.ThermalTable ∧ base.thermal.state ≠ .inhibited ∧ base.nextLevel cfg = 0 ∧ base.thermal.demand = false)
      ∧ ((fireIn .alarm none).ThermalTable ∧ (fireIn .alarm none).thermal.state = .inhibited)
      ∧ (heatingWith [1] (.running 1200000)).ThermalTable ∧ (heatingWith [1] (.running 1200000)).thermal.demand = true
      ∧ ({ base with chain := { base.chain with tmax := 32 } } : State).nextLevel cfg ≠ 0 :=
  ⟨⟨by constructor <;> decide, by decide⟩, ⟨by constructor <;> decide, by decide⟩, by constructor <;> decide, by decide⟩

/-- Demand begins below TH_ON, stays between the thresholds and ends at TH_OFF (R93). -/
theorem test_demand_thresholds :
    (({ base with chain := { base.chain with tmin := 4 } } : State).thermalCompletion cfg).thermal.state = .heatWait
      ∧ (({ base with chain := { base.chain with tmin := 5 } } : State).thermalCompletion cfg).thermal.state = .idle
      ∧ (({ heatWaitWith [2, 1] with chain := { base.chain with tmin := 9 } } : State).thermalCompletion cfg).thermal.state
        = .heatWait
      ∧ (({ heatWaitWith [2, 1] with chain := { base.chain with tmin := 10 } } : State).thermalCompletion cfg).thermal.state
        = .idle := by decide

/-- Heating demand at the lower end of its range, with each own claim state; and with COOLING_DEGRADED and a valid inlet. -/
def asking (o : OwnClaim) (tmin : Int) : State :=
  { heatWaitWith [2, 1] with
    claims := { base.claims with heat := ⟨[2, 1], o, false⟩ }, chain := { base.chain with tmin := tmin } }
def coolingAt (level : Nat) (degraded : Bool) (inlet : Int) : State :=
  { base with
    thermal := { base.thermal with state := .cooling, valve := true, level := level, degraded := degraded }
    chain := { base.chain with tmax := 40, sense := { base.chain.sense with inlet := some inlet } } }

theorem asking_table (o : OwnClaim) : (asking o 9).ThermalTable ∧ (asking o 10).ThermalTable := by
  rcases o with _ | (_ | _) | _ | (_ | _) <;> constructor <;> constructor <;> decide

/-- The claim asked for at TH_OFF − 1 and given back at TH_OFF, in every own claim state; INLET_LIM and INLET_LIM − 4. -/
theorem witness_LevelAndDemandAtCompletion_claims :
    (∀ o, (asking o 9).ThermalTable ∧ (asking o 9).Room ∧ (asking o 9).svc.mode = .active ∧ (asking o 9).nextLevel cfg = 0
        ∧ (asking o 9).thermal.demand = true ∧ ¬cfg.thOff ≤ (9 : Int) ∧ (asking o 9).chain.tempLoss = false)
      ∧ (∀ o, (asking o 10).ThermalTable ∧ (asking o 10).Room ∧ cfg.thOff ≤ (10 : Int))
      ∧ ((coolingAt 3 false 28).ThermalTable ∧ (coolingAt 3 false 28).svc.config = some cfg ∧ cfg.inletLim ≤ 28)
      ∧ (coolingAt 3 true 24).ThermalTable ∧ (coolingAt 3 true 24).lines.chillerFault = false
      ∧ (24 : Int) < cfg.inletLim - 3 ∧ ¬(25 : Int) < cfg.inletLim - 3 :=
  ⟨fun o => ⟨(asking_table o).1, room_of_check (by rfl), rfl, by rfl, rfl, by decide, rfl⟩,
    fun o => ⟨(asking_table o).2, room_of_check (by rfl), by decide⟩,
    ⟨by constructor <;> decide, by decide⟩, by constructor <;> decide, by decide⟩

/-- Demand asks for the slot and gives it back (R94, R71, R72); a heat-soak at INLET_LIM, a recovery below INLET_LIM − 3 (R98,
R99). -/
theorem test_heat_claim_and_degraded_at_completion :
    ((asking .notClaimed 9).thermalCompletion cfg).link.queue = [heatClaimFrame]
      ∧ ((asking .listed 10).thermalCompletion cfg).link.queue = [heatReleaseFrame]
      ∧ ((coolingAt 3 false 28).thermalCompletion cfg).thermal.soakTimer = some 600000
      ∧ ((coolingAt 3 false 27).thermalCompletion cfg).thermal.soakTimer = none
      ∧ ((coolingAt 3 true 24).thermalCompletion cfg).thermal.recoveryTimer = some 300000
      ∧ ((coolingAt 3 true 25).thermalCompletion cfg).thermal.recoveryTimer = none := by decide

/-- A reading of position 0 in the middle of a scan does not reach the recovery condition (R15). -/
theorem test_inlet_kept_between_completions :
    let s := { coolingAt 3 true 24 with thermal := { (coolingAt 3 true 24).thermal with inlet := some 25 } }
    (after (.chillerFaultInputChange false) s).thermal.recoveryTimer = none
      ∧ (after (.chillerFaultInputChange false) (s.thermalCompletion cfg)).thermal.recoveryTimer = some 300000 := by decide

theorem witness_DegradedCoolingEvents :
    (base.Steady ∧ base.svc.config = some cfg ∧ scanningMode base.svc.mode = true ∧ base.thermal.soakTimer = none
        ∧ base.thermal.recoveryTimer = none)
      ∧ (State.reset.Steady ∧ scanningMode State.reset.svc.mode = false)
      ∧ ({ base with thermal := { base.thermal with soakTimer := some 600000 } } : State).Steady
      ∧ ({ base with thermal := { base.thermal with recoveryTimer := some 300000 } } : State).Steady :=
  ⟨⟨steady_of_check (by decide), by decide⟩, ⟨steady_of_check (by decide), by decide⟩, steady_of_check (by decide),
    steady_of_check (by decide)⟩

/-! ### Fire -/

/-- The thresholds of the classes (R103), and the third sample of one class (R104). -/
theorem witness_LoopSampleWithoutAlarm :
    (base.Steady ∧ base.fire.loopTimer ≠ none ∧ base.fire.state = .normal
        ∧ (base.fire.loopS.sampled (loopClass 11999)).state ≠ .alarm
        ∧ (base.fire.loopH.sampled (loopClass 2000)).state ≠ .alarm)
      ∧ ((preAlarm .idle).Steady ∧ (preAlarm .idle).fire.state = .preAlarm
        ∧ ((preAlarm .idle).fire.loopS.sampled (loopClass 12000)).state = .alarm
        ∧ ((preAlarm .idle).fire.loopH.sampled (loopClass 35000)).state ≠ .alarm)
      ∧ ((fireIn .released none).Steady ∧ (fireIn .released none).fire.loopTimer ≠ none
        ∧ fireAlarmed (fireIn .released none).fire.state = true)
      ∧ State.reset.Steady ∧ State.reset.fire.loopTimer = none
      ∧ (LoopClass.normal ≠ almostAlarm.state → False)
      ∧ (LoopClass.alarm ≠ almostAlarm.state ∧ almostAlarm.pendingClass = some .alarm ∧ almostAlarm.count = 2)
      ∧ (LoopClass.short ≠ almostAlarm.state ∧ almostAlarm.pendingClass ≠ some .short)
      ∧ LoopRecord.count ⟨.normal, some .alarm, 1⟩ ≠ 2 :=
  ⟨⟨steady_of_check (by decide), by decide⟩, ⟨steady_of_check (by decide), by decide⟩,
    ⟨steady_of_check (by decide), by decide⟩, steady_of_check (by decide), by decide⟩

/-- One loop about to come into alarm. -/
def smoke : State := { base with fire := { base.fire with loopS := almostAlarm } }

/-- The same for the heat loop, and PRE_ALARM on smoke about to clear. -/
def heat : State := { base with fire := { base.fire with loopH := almostAlarm } }
def clearing : State :=
  { preAlarm .idle with fire := { (preAlarm .idle).fire with loopS := ⟨.alarm, some .normal, 2⟩ } }

theorem witness_FirstSourceRaisesPreAlarm_heat :
    (heat.Steady ∧ (heat.fire.loopH.sampled (loopClass 12000)).state = .alarm
        ∧ (heat.fire.loopS.sampled (loopClass 5000)).state ≠ .alarm)
      ∧ clearing.Steady ∧ clearing.fire.loopTimer ≠ none ∧ clearing.fire.state = .preAlarm ∧ clearing.Room
      ∧ (clearing.fire.loopS.sampled (loopClass 11999)).state ≠ .alarm
      ∧ (clearing.fire.loopH.sampled (loopClass 5000)).state ≠ .alarm ∧ clearing.env.latch = false :=
  ⟨⟨steady_of_check (by decide), by decide⟩, steady_of_check (by decide), by decide, by decide, room_of_check (by decide),
    by decide⟩

theorem witness_FirstSourceRaisesPreAlarm :
    smoke.Steady ∧ smoke.fire.loopTimer ≠ none ∧ smoke.fire.state = .normal ∧ smoke.fire.census = .idle
      ∧ smoke.svc.restart = .none ∧ smoke.link.queue.length ≤ 6 ∧ smoke.zonePeerAlarm = false
      ∧ smoke.fire.loopS.state ≠ .alarm ∧ (smoke.fire.loopS.sampled (loopClass 12000)).state = .alarm
      ∧ (smoke.fire.loopH.sampled (loopClass 5000)).state ≠ .alarm ∧ smoke.env.latch = false :=
  ⟨steady_of_check (by decide), by decide⟩

/-- A station on the bus in PRE_ALARM, heat about to come into alarm beside smoke. -/
def smokeAndHeat : State :=
  { joined with fire := { (preAlarm .callPending).fire with loopH := almostAlarm } }

theorem witness_SecondSourceRaisesAlarm :
    smokeAndHeat.fire.loopTimer ≠ none ∧ smokeAndHeat.svc.mode ≠ .loading ∧ smokeAndHeat.fire.state = .preAlarm
      ∧ smokeAndHeat.fire.loopH.state ≠ .alarm
      ∧ (smokeAndHeat.fire.loopS.sampled (loopClass 34999)).state = .alarm
      ∧ (smokeAndHeat.fire.loopH.sampled (loopClass 34999)).state = .alarm ∧ smokeAndHeat.svc.restart = .none
      ∧ smokeAndHeat.inhibited = false ∧ smokeAndHeat.lines.abort = false ∧ smokeAndHeat.releaseDelayMs ≠ 0
      ∧ smokeAndHeat.link.queue.length < 8
      ∧ ({ smokeAndHeat with lines := { smokeAndHeat.lines with abort := true } } : State).inhibited = false
      ∧ ({ smokeAndHeat with fire := { smokeAndHeat.fire with serviceKey := true } } : State).inhibited = true := by decide

/-- The table of 7.4 at the entry of an alarm: the countdown of 30 s, the contactors released (R113, R116, R138). -/
theorem test_second_source_on_the_bus :
    let t := after (.loopSample 20000 20000) smokeAndHeat
    t.fire.state = .releaseDelay ∧ t.fire.countdown = some 30000 ∧ t.conn.state = .opening ∧ t.conn.posDrive = false
      ∧ t.link.queue = [newEntry .fire 1 [1, 2, 3] .plain] := by decide

/-- The runaway latch beside a loop that comes into ALARM, in PRE_ALARM; and a first loop in NORMAL while a record of the own zone
that is STALE shows ALARM. -/
def latchAndSmoke : State :=
  { base with
    env := { base.env with latch := true }
    fire := { (preAlarm .idle).fire with loopS := almostAlarm } }
def smokeUnderPeerAlarm : State :=
  { smoke with peers := { smoke.peers with table := [{ peer 2 5 with fire := .alarm }] } }

theorem witness_SecondSourceRaisesAlarm_others :
    (latchAndSmoke.fire.loopTimer ≠ none ∧ latchAndSmoke.svc.mode ≠ .loading ∧ latchAndSmoke.svc.restart = .none
        ∧ latchAndSmoke.fire.state = .preAlarm ∧ latchAndSmoke.fire.loopS.state ≠ .alarm
        ∧ (latchAndSmoke.fire.loopS.sampled (loopClass 12000)).state = .alarm ∧ latchAndSmoke.env.latch = true)
      ∧ smokeUnderPeerAlarm.fire.state = .normal ∧ smokeUnderPeerAlarm.svc.restart = .none
      ∧ (smokeUnderPeerAlarm.fire.loopS.sampled (loopClass 34999)).state = .alarm
      ∧ smokeUnderPeerAlarm.fire.loopS.state ≠ .alarm ∧ smokeUnderPeerAlarm.peers.containerFire = false
      ∧ ∃ r ∈ smokeUnderPeerAlarm.peers.table, r.zone = smokeUnderPeerAlarm.ownZone ∧ fireAlarmed r.fire = true := by decide

/-- The notice of ALARM, and no call (R110, R113, R121). -/
theorem test_alarm_on_a_second_sign :
    (after (.loopSample 20000 5000) latchAndSmoke).link.queue = [newEntry .fire 1 [1, 2, 5] .plain]
      ∧ (after (.loopSample 20000 5000) smokeUnderPeerAlarm).link.queue = [newEntry .fire 1 [1, 2, 1] .plain]
      ∧ (after (.loopSample 20000 5000) smokeUnderPeerAlarm).fire.state = .releaseDelay := by decide

/-- A rise of RUNAWAY_RISE about to be seen, alone, beside smoke in PRE_ALARM, and under a zone peer's alarm. -/
def rising : State := { base with env := { base.env with ring := [26] } }
def risingBesideSmoke : State := { preAlarm .idle with env := rising.env }
def risingUnderPeerAlarm : State := { rising with peers := smokeUnderPeerAlarm.peers }

theorem witness_RunawaySampleJudged_alarm :
    (rising.Steady ∧ rising.zonePeerAlarm = false ∧ rising.fire.census = .idle ∧ rising.link.queue.length ≤ 6)
      ∧ (risingBesideSmoke.Steady ∧ risingBesideSmoke.svc.config = some cfg ∧ risingBesideSmoke.env.runawayTimer ≠ none
        ∧ risingBesideSmoke.env.latch = false ∧ risingBesideSmoke.svc.restart = .none ∧ risingBesideSmoke.svc.mode ≠ .loading
        ∧ risingBesideSmoke.fire.state = .preAlarm ∧ risingBesideSmoke.fire.loopS.state = .alarm)
      ∧ (risingUnderPeerAlarm.Steady ∧ risingUnderPeerAlarm.fire.state = .normal
        ∧ ∃ r ∈ risingUnderPeerAlarm.peers.table, r.zone = risingUnderPeerAlarm.ownZone ∧ fireAlarmed r.fire = true)
      ∧ ((preAlarm .idle).Steady ∧ (preAlarm .idle).fire.loopS.state = .alarm ∧ (preAlarm .idle).env.ring = [])
      ∧ (fireIn .released none).Steady ∧ (fireIn .released none).env.runawayTimer ≠ none :=
  ⟨⟨steady_of_check (by decide), by decide⟩, ⟨steady_of_check (by decide), by decide⟩,
    ⟨steady_of_check (by decide), by decide⟩, ⟨steady_of_check (by decide), by decide⟩, steady_of_check (by decide),
    by decide⟩

/-- The notices of PRE_ALARM on a rise and of ALARM on smoke and a rise, and the ring in ALARM or later (R106, R110, R113). -/
theorem test_runaway_sample_notices :
    (after .runawaySample rising).link.queue = [newEntry .fire 1 [1, 1, 4] .plain, censusCall 1 1 .fireCall]
      ∧ (after .runawaySample risingBesideSmoke).link.queue = [newEntry .fire 1 [1, 2, 5] .plain]
      ∧ (after .runawaySample risingUnderPeerAlarm).fire.state = .releaseDelay
      ∧ (after .runawaySample (fireIn .released none)).env.ring = [31] := by decide

theorem witness_RunawaySampleJudged :
    (State.reset.Steady ∧ State.reset.env.runawayTimer = none)
      ∧ (base.Steady ∧ base.svc.config = some cfg ∧ base.env.runawayTimer ≠ none ∧ base.chain.dataLoss = false
        ∧ base.fire.state = .normal ∧ ([] ++ [base.chain.tmax]).any (fun x => cfg.runawayRise ≤ base.chain.tmax - x) = false)
      ∧ (({ base with chain := { base.chain with dataLoss := true } } : State).Steady)
      ∧ ({ base with env := { base.env with ring := [26] } } : State).Steady
      ∧ ([26] ++ [base.chain.tmax]).any (fun x => cfg.runawayRise ≤ base.chain.tmax - x) = true ∧ base.env.latch = false
      ∧ base.fire.loopS.state ≠ .alarm ∧ base.fire.loopH.state ≠ .alarm ∧ base.zonePeerAlarm = false
      ∧ base.svc.restart = .none :=
  ⟨⟨steady_of_check (by decide), rfl⟩, ⟨steady_of_check (by decide), by decide⟩, steady_of_check (by decide),
    steady_of_check (by decide), by decide⟩

theorem witness_FireTimersExpire :
    ((fireIn .releaseDelay (some 30000)).Steady ∧ (fireIn .releaseDelay (some 30000)).Room
        ∧ (fireIn .releaseDelay (some 30000)).fire.state = .releaseDelay
        ∧ (fireIn .releaseDelay (some 30000)).fire.countdown ≠ none)
      ∧ ((preAlarm .idle).Steady ∧ (preAlarm .idle).Room ∧ (preAlarm .idle).fire.repeatTimer ≠ none)
      ∧ ((preAlarm .callPending).Steady ∧ (preAlarm .callPending).Room)
      ∧ base.Steady ∧ base.Room ∧ base.fire.countdown = none ∧ base.fire.repeatTimer = none :=
  ⟨⟨steady_of_check (by decide), room_of_check (by decide), by decide⟩,
    ⟨steady_of_check (by decide), room_of_check (by decide), by decide⟩,
    ⟨steady_of_check (by decide), room_of_check (by decide)⟩, steady_of_check (by decide), room_of_check (by decide),
    by decide⟩

/-- RELEASE_HELD with the abort input asserted, under a delay of 30 s and under one of 0. -/
def held : State := { fireIn .releaseHeld none with lines := { base.lines with abort := true } }
def heldWithoutDelay : State := { held with svc := { held.svc with config := some { cfg with releaseDelay := 0 } } }

theorem witness_AbortHoldsCountdown :
    ((fireIn .releaseDelay (some 30000)).Steady ∧ (fireIn .releaseDelay (some 30000)).svc.restart = .none)
      ∧ (held.Steady ∧ held.fire.state = .releaseHeld ∧ held.releaseDelayMs ≠ 0)
      ∧ (heldWithoutDelay.Steady ∧ heldWithoutDelay.releaseDelayMs = 0) ∧ base.Steady :=
  ⟨⟨steady_of_check (by decide), by decide⟩, ⟨steady_of_check (by decide), by decide⟩,
    ⟨steady_of_check (by decide), by decide⟩, steady_of_check (by decide)⟩

/-- ALARM with the key asserted. -/
def alarmUnderKey : State :=
  { fireIn .alarm none with
    lines := { base.lines with key := true }
    fire := { (fireIn .alarm none).fire with serviceKey := true } }

theorem witness_KeyInhibitsRelease :
    ((fireIn .releaseDelay (some 30000)).Steady ∧ (fireIn .releaseDelay (some 30000)).svc.mode ≠ .loading)
      ∧ (alarmUnderKey.Steady ∧ alarmUnderKey.fire.state = .alarm ∧ alarmUnderKey.peers.zoneKey = false
        ∧ alarmUnderKey.lines.abort = false ∧ alarmUnderKey.releaseDelayMs ≠ 0)
      ∧ (base.Steady ∧ takesForcedLeave base.conn.state = false)
      ∧ joined.Steady ∧ joined.fire.state = .normal ∧ joined.claims.join.own = .notClaimed
      ∧ joined.claims.tokenHeld = false ∧ joined.lines.auxPos = true :=
  ⟨⟨steady_of_check (by decide), by decide⟩, ⟨steady_of_check (by decide), by decide⟩,
    ⟨steady_of_check (by decide), by decide⟩, steady_of_check (by decide), by decide⟩

/-! ### Peer view -/

/-- LISTENING with three expiries counted, and with two. -/
def listening (count : Nat) : State :=
  { inMode .listening with svc := { (inMode .listening).svc with apCount := count } }

theorem witness_ApExpiryAgesAndSweeps :
    (State.reset.Steady ∧ State.reset.svc.restart = .none ∧ State.reset.peers.apTimer = none)
      ∧ (rich.Steady ∧ rich.peers.apTimer ≠ none ∧ rich.svc.mode ≠ .listening)
      ∧ ((listening 3).Steady ∧ (listening 3).peers.apTimer ≠ none ∧ (listening 3).svc.mode = .listening)
      ∧ (listening 2).Steady ∧ (listening 2).svc.apCount ≠ 3 :=
  ⟨⟨steady_of_check (by decide), by decide⟩, ⟨steady_of_check (by decide), by decide⟩,
    ⟨steady_of_check (by decide), by decide⟩, steady_of_check (by decide), by decide⟩

/-- A claim whose frame was dropped, with an ANNOUNCE that waits; a queue of 4 entries and of 5; and a full queue. -/
def owing : State :=
  { base with
    claims := { base.claims with join := ⟨[], .claimQueued false, true⟩ }
    peers := { base.peers with table := [peer 2 10] }
    link := { base.link with queue := [announceFrame], congestion := true } }
def holding (n : Nat) : State :=
  { base with link := { base.link with
      queue := List.replicate n (serviceReply 1 .done [] .plain), congestion := n ≠ 8 } }

theorem witness_ApExpiryAgesAndSweeps_queue :
    (owing.Steady ∧ owing.SignalsCurrent ∧ owing.rotationDue = false ∧ owing.peers.apTimer ≠ none
        ∧ owing.svc.mode ≠ .listening ∧ owing.ZoneKeyCurrent
        ∧ (∀ r ∈ owing.peers.table, r.age ≠ 3 ∧ r.age < 11) ∧ owing.link.queue.length + 1 < 8)
      ∧ ((holding 4).Steady ∧ (holding 4).SignalsCurrent ∧ (holding 5).Steady ∧ (holding 5).SignalsCurrent)
      ∧ (holding 8).Steady ∧ (holding 8).SignalsCurrent ∧ (holding 8).link.queue.length = 8
      ∧ ∀ e ∈ (holding 8).link.queue, (e.cls == .announce && !e.onLine) = false :=
  ⟨⟨steady_of_check (by decide), signals_of_check (by decide), by decide⟩,
    ⟨steady_of_check (by decide), signals_of_check (by decide), steady_of_check (by decide), signals_of_check (by decide)⟩,
    steady_of_check (by decide), signals_of_check (by decide), by decide⟩

/-- The dropped claim goes out ahead of the ANNOUNCE (R73); LINK_CONGESTION is cleared at 4 entries, not at 5 (R164). -/
theorem test_ap_repeats_and_congestion :
    (after .apExpiry owing).link.queue = [joinClaimFrame, announceFrame]
      ∧ (after .apExpiry (holding 4)).link.congestion = false ∧ (after .apExpiry (holding 5)).link.congestion = true
      ∧ (after .apExpiry (holding 8)).link.congestion = true := by decide

/-- ALARM under the key of a zone peer whose record is about to become STALE. -/
def alarmUnderPeerKey : State :=
  { fireIn .alarm none with
    peers := { (fireIn .alarm none).peers with table := [{ peer 2 3 with key := true }], zoneKey := true } }

theorem witness_ApExpiryAgesAndSweeps_zoneKey :
    alarmUnderPeerKey.Steady ∧ alarmUnderPeerKey.svc.restart = .none ∧ alarmUnderPeerKey.peers.apTimer ≠ none
      ∧ alarmUnderPeerKey.fire.state = .alarm ∧ alarmUnderPeerKey.fire.serviceKey = false
      ∧ (after .apExpiry alarmUnderPeerKey).peers.zoneKey = false ∧ alarmUnderPeerKey.releaseDelayMs ≠ 0 :=
  ⟨steady_of_check (by decide), by decide⟩

/-- A zone peer's key takes the countdown back, and its end starts it in full (R65, R116); a peer of another zone has no part
in it. -/
theorem test_zone_key_and_countdown :
    (after .apExpiry alarmUnderPeerKey).fire.countdown = some 30000
      ∧ (after (.fireNoticeArrival 2 [1, 0, 8]) (fireIn .releaseDelay (some 30000))).fire.state = .alarm
      ∧ (after (.fireNoticeArrival 2 [2, 0, 8]) (fireIn .releaseDelay (some 30000))).fire.state = .releaseDelay
      ∧ (after (.announceArrival 2 (announce 2 0 0 0 1 4 0)) (fireIn .releaseHeld none)).fire.state = .alarm
      ∧ (after (.announceArrival 2 (announce 2 0 0 0 1 0 0)) alarmUnderPeerKey).fire.state = .releaseDelay := by decide

/-- R59 and R76 at the boundaries: the record of age 3 becomes STALE and leaves the lists, that of age 11 is removed. -/
theorem test_sweep_at_age_4 :
    let t := after .apExpiry { rich with peers := { rich.peers with table := [peer 2 0, peer 3 3, peer 4 11] } }
    t.peers.table.map (fun r => (r.number, r.age, r.presence)) = [(2, 1, .present), (3, 4, .stale)]
      ∧ t.claims.join.entries = [2] ∧ t.claims.heat.entries = [1] := by decide

/-- The first zone and the last code of every field. -/
theorem witness_AnnounceRecordedAndRepaired :
    base.Hears ∧ base.svc.restart = .none ∧ announcePayloadOk (announce 4 9 5 4 4 31 63) = true
      ∧ announcePayloadOk (announce 1 0 2 0 1 0 0) = true ∧ base.isPeer (2 : BitVec 5).toNat = true
      ∧ base.isPeer (16 : BitVec 5).toNat = true ∧ (1 : Nat) = base.ownZone ∧ (preAlarm .idle).Hears :=
  ⟨hears_of_check (by decide), by decide, by decide, by decide, by decide, by decide, by decide,
    hears_of_check (by decide)⟩

/-- A key that begins in RELEASE_DELAY, and one that ends in ALARM, under an ANNOUNCE and under a FIRE_NOTICE. -/
theorem witness_zone_key_changes :
    ((fireIn .releaseDelay (some 30000)).Hears ∧ (fireIn .releaseDelay (some 30000)).svc.restart = .none
        ∧ (fireIn .releaseDelay (some 30000)).fire.state = .releaseDelay
        ∧ (fireIn .releaseDelay (some 30000)).peers.zoneKey = false ∧ announcePayloadOk (announce 2 0 0 0 1 4 0) = true
        ∧ fireNoticePayloadOk [1, 0, 8] = true ∧ ([1, 0, 8] : List Byte).getD 1 0 ≠ 5
        ∧ (after (.announceArrival 2 (announce 2 0 0 0 1 4 0)) (fireIn .releaseDelay (some 30000))).peers.zoneKey = true
        ∧ (after (.fireNoticeArrival 2 [1, 0, 8]) (fireIn .releaseDelay (some 30000))).peers.zoneKey = true)
      ∧ alarmUnderPeerKey.Hears ∧ alarmUnderPeerKey.isPeer (2 : BitVec 5).toNat = true
      ∧ (after (.announceArrival 2 (announce 2 0 0 0 1 0 0)) alarmUnderPeerKey).peers.zoneKey = false
      ∧ (after (.fireNoticeArrival 2 [1, 4, 0]) alarmUnderPeerKey).peers.zoneKey = false :=
  ⟨⟨hears_of_check (by decide), by decide⟩, hears_of_check (by decide), by decide⟩

theorem witness_OwnNumberAnnounceMakesSafe :
    joined.Hears ∧ joined.svc.restart = .none ∧ announcePayloadOk (announce 2 4 0 0 1 0 0) = true
      ∧ (1 : BitVec 5).toNat = joined.ownNumber ∧ joined.svc.mode = .active
      ∧ (inMode .configFault).Hears ∧ (inMode .configFault).svc.mode ≠ .listening
      ∧ (inMode .configFault).svc.mode ≠ .active :=
  ⟨hears_of_check (by decide), by decide, by decide, by decide, by decide, hears_of_check (by decide), by decide⟩

/-- A notice of ALARM in the own zone, and one of RELEASED to a station in ALARM with its key released. -/
theorem witness_FireNoticeRecorded :
    ((fireIn .alarm none).Steady ∧ (fireIn .alarm none).Hears ∧ (fireIn .alarm none).Room
        ∧ (fireIn .alarm none).FireOutputs ∧ fireNoticePayloadOk [1, 5, 0] = true
        ∧ (1 : Nat) = (fireIn .alarm none).ownZone ∧ (fireIn .alarm none).fire.serviceKey = false
        ∧ alarmUnderKey.Steady ∧ alarmUnderKey.FireOutputs ∧ alarmUnderKey.fire.serviceKey = true)
      ∧ (preAlarm .idle).Hears ∧ fireNoticePayloadOk [1, 2, 15] = true ∧ base.isPeer (2 : BitVec 5).toNat = true
      ∧ base.peers.record 2 = none ∧ rich.peers.record 2 = some (peer 2 0) :=
  ⟨⟨steady_of_check (by decide), hears_of_check (by decide), room_of_check (by decide), by constructor <;> decide,
    by decide, by decide, by decide, steady_of_check (by decide), by constructor <;> decide, by decide⟩,
    hears_of_check (by decide), by decide⟩

/-- A station whose own release waits under a reclaim mark, and one that heats in its slot with its claim to join queued. -/
def joinListReleasing : State :=
  { base with claims := { base.claims with join := ⟨[2, 1], .releaseQueued true, false⟩ } }
def heatingAndClaiming : State :=
  { heatingWith [1] .served with
    claims := { (heatingWith [1] .served).claims with join := ⟨[], .claimQueued false, false⟩ } }

theorem witness_peer_alarm_releases_claims :
    (checking.Hears ∧ checking.svc.restart = .none ∧ checking.peers.containerFire = false ∧ checking.link.queue.length ≤ 3
        ∧ checking.claims.join.own = .listed ∧ checking.conn.state = .waitToken)
      ∧ (heatingAndClaiming.Hears ∧ heatingAndClaiming.svc.restart = .none ∧ heatingAndClaiming.peers.containerFire = false
        ∧ heatingAndClaiming.claims.heat.own = .listed ∧ heatingAndClaiming.claims.join.own = .claimQueued false)
      ∧ (base.claims.join.own = .notClaimed ∧ (joinListReleasing).Hears ∧ joinListReleasing.claims.join.own = .releaseQueued true)
      ∧ announcePayloadOk (announce 2 0 5 0 4 0 0) = true ∧ fireNoticePayloadOk [4, 2, 1] = true
      ∧ base.isPeer (2 : BitVec 5).toNat = true ∧ (1 : BitVec 5).toNat = checking.ownNumber :=
  ⟨⟨hears_of_check (by decide), by decide⟩, ⟨hears_of_check (by decide), by decide⟩,
    ⟨by decide, hears_of_check (by decide), by decide⟩, by decide⟩

/-- R83 by a notice of another zone, by an ANNOUNCE and by a notice under the own number (R60). -/
theorem test_peer_alarm_releases_claims :
    (after (.fireNoticeArrival 2 [4, 2, 1]) checking).link.queue = [joinDoneFrame .failed]
      ∧ (after (.fireNoticeArrival 2 [4, 2, 1]) checking).conn.state = .openRack
      ∧ (after (.announceArrival 2 (announce 2 0 3 0 4 0 0)) heatingAndClaiming).link.queue = [heatReleaseFrame]
      ∧ (after (.announceArrival 2 (announce 2 0 3 0 4 0 0)) heatingAndClaiming).claims.join.own = .claimQueued true
      ∧ (after (.fireNoticeArrival 1 [1, 2, 1]) checking).claims.join.own = .releaseQueued false
      ∧ (after (.fireNoticeArrival 1 [1, 2, 1]) checking).peers.table = [] := by decide

/-- PRE_ALARM beside a zone peer in PRE_ALARM, and beside one whose last record was ALARM. -/
theorem witness_FireNoticeRecorded_preAlarm :
    ((preAlarm .idle).Steady ∧ (preAlarm .idle).Hears ∧ (preAlarm .idle).Room ∧ (preAlarm .idle).svc.restart = .none
        ∧ (preAlarm .idle).ListsProper ∧ fireNoticePayloadOk [1, 1, 1] = true ∧ (preAlarm .idle).fire.census = .idle
        ∧ (1 : Nat) = (preAlarm .idle).ownZone ∧ ∀ r ∈ (preAlarm .idle).peers.table, r.number ≠ 2 → False)
      ∧ ((preAlarm .callPending).Steady ∧ (preAlarm .callPending).ListsProper ∧ (preAlarm .callPending).Room)
      ∧ fireNoticePayloadOk [2, 1, 1] = true ∧ fireNoticePayloadOk [1, 0, 0] = true :=
  ⟨⟨steady_of_check (by decide), hears_of_check (by decide), room_of_check (by decide), rfl, by constructor <;> decide,
    by decide⟩, ⟨steady_of_check (by decide), by constructor <;> decide, room_of_check (by decide)⟩, by decide⟩

/-- R111: a zone PRE_ALARM asks for one call. -/
theorem test_zone_pre_alarm_calls :
    (after (.fireNoticeArrival 2 [1, 1, 1]) (preAlarm .idle)).link.queue = [censusCall 1 1 .fireCall]
      ∧ (after (.fireNoticeArrival 2 [1, 1, 1]) (preAlarm .callPending)).link.queue = []
      ∧ (after (.fireNoticeArrival 2 [2, 1, 1]) (preAlarm .idle)).link.queue = [] := by decide

/-! ### Claim lists -/

/-- `base` with a join list, the own entry LISTED when it is on it. -/
def joinList (entries : List Nat) (own : OwnClaim) : State :=
  { base with claims := { base.claims with join := ⟨entries, own, false⟩, headTimer := some 11000 } }

/-- The own number behind the peer 2, in WAIT_TOKEN. -/
def waiting : State :=
  { joinList [2, 1, 3] .listed with conn := { base.conn with state := .waitToken } }

theorem witness_PeerJoinFramesKeepTheList :
    (base.Steady ∧ base.SignalsCurrent ∧ base.Hears ∧ base.isPeer (2 : BitVec 5).toNat = true
        ∧ (2 : BitVec 5).toNat ∉ base.claims.join.entries)
      ∧ ((joinList [3, 2] .notClaimed).Steady ∧ (joinList [3, 2] .notClaimed).SignalsCurrent
        ∧ (joinList [3, 2] .notClaimed).Hears)
      ∧ ((joinList [2] .notClaimed).Steady ∧ (joinList [2] .notClaimed).SignalsCurrent ∧ (joinList [2] .notClaimed).Hears)
      ∧ ((joinList [2, 3] .notClaimed).Steady ∧ (joinList [2, 3] .notClaimed).SignalsCurrent
        ∧ (joinList [2, 3] .notClaimed).Hears ∧ 2 ∉ [3] ∧ 3 ≠ (joinList [2, 3] .notClaimed).ownNumber)
      ∧ waiting.Steady ∧ waiting.SignalsCurrent ∧ waiting.Hears ∧ waiting.Room
      ∧ waiting.claims.join.entries = 2 :: waiting.ownNumber :: [3] ∧ 2 ∉ [3] :=
  ⟨⟨steady_of_check (by decide), signals_of_check (by decide), hears_of_check (by decide), by decide⟩,
    ⟨steady_of_check (by decide), signals_of_check (by decide), hears_of_check (by decide)⟩,
    ⟨steady_of_check (by decide), signals_of_check (by decide), hears_of_check (by decide)⟩,
    ⟨steady_of_check (by decide), signals_of_check (by decide), hears_of_check (by decide), by decide⟩,
    steady_of_check (by decide), signals_of_check (by decide), hears_of_check (by decide), room_of_check (by decide),
    by decide⟩

/-- A slot served for the whole hold time, with a list of L entries. -/
def served : State := heatingWith [1] .served

theorem witness_PeerHeatFramesKeepTheList :
    (base.Steady ∧ base.SignalsCurrent ∧ base.Hears ∧ base.claims.slotHeld = false ∧ base.claims.heat.own ≠ .listed)
      ∧ (served.Steady ∧ served.SignalsCurrent ∧ served.Hears ∧ served.Room ∧ (2 : Nat) ∉ served.claims.heat.entries
        ∧ served.claims.limit ≤ served.claims.heat.entries.length ∧ served.thermal.state = .heating)
      ∧ ((heatWaitWith [2, 1]).Steady ∧ (heatWaitWith [2, 1]).SignalsCurrent ∧ (heatWaitWith [2, 1]).Hears
        ∧ 2 ∈ (heatWaitWith [2, 1]).claims.heat.entries ∧ (heatWaitWith [2, 1]).rotationDue = false
        ∧ (heatWaitWith [2, 1]).claims.slotHeld = false ∧ (heatWaitWith [2, 1]).svc.config = some cfg
        ∧ (heatWaitWith [2, 1]).ownNumber ∈ ([2, 1].filter (fun x => x != 2)).take (heatWaitWith [2, 1]).claims.limit) :=
  ⟨⟨steady_of_check (by decide), signals_of_check (by decide), hears_of_check (by decide), by decide⟩,
    ⟨steady_of_check (by decide), signals_of_check (by decide), hears_of_check (by decide), room_of_check (by decide),
      by decide⟩,
    steady_of_check (by decide), signals_of_check (by decide), hears_of_check (by decide), by decide⟩

/-- A LISTED claim behind a peer while the thermal state is IDLE. -/
def listedWithoutDemand : State := { base with claims := { base.claims with heat := ⟨[2, 1], .listed, false⟩ } }

/-- A peer behind the own entry that holds its slot, a slot gained in another state than HEAT_WAIT, and a peer ahead of it with another still between it and position L. -/
theorem witness_PeerHeatFramesKeepTheList_stands :
    ((heatingWith [1, 2] (.running 1200000)).Steady ∧ (heatingWith [1, 2] (.running 1200000)).SignalsCurrent
        ∧ (heatingWith [1, 2] (.running 1200000)).Hears ∧ (heatingWith [1, 2] (.running 1200000)).claims.slotHeld = true
        ∧ (heatingWith [1, 2] (.running 1200000)).claims.hold ≠ .served)
      ∧ ((heatWaitWith [2, 3, 1]).Steady ∧ (heatWaitWith [2, 3, 1]).SignalsCurrent ∧ (heatWaitWith [2, 3, 1]).Hears
        ∧ (heatWaitWith [2, 3, 1]).ownNumber ∉ ([2, 3, 1].filter (fun x => x != 2)).take (heatWaitWith [2, 3, 1]).claims.limit)
      ∧ (listedWithoutDemand.Steady ∧ listedWithoutDemand.SignalsCurrent ∧ listedWithoutDemand.Hears
        ∧ listedWithoutDemand.svc.config = some cfg ∧ listedWithoutDemand.claims.slotHeld = false
        ∧ listedWithoutDemand.thermal.state ≠ .heatWait
        ∧ listedWithoutDemand.ownNumber ∈ ([2, 1].filter (fun x => x != 2)).take listedWithoutDemand.claims.limit)
      ∧ served.Steady ∧ served.claims.slotHeld = true ∧ ([1].filter (fun x => x != 2)).length ≤ served.claims.limit :=
  ⟨⟨steady_of_check (by decide), signals_of_check (by decide), hears_of_check (by decide), by decide⟩,
    ⟨steady_of_check (by decide), signals_of_check (by decide), hears_of_check (by decide), by decide⟩,
    ⟨steady_of_check (by decide), signals_of_check (by decide), hears_of_check (by decide), by decide⟩,
    steady_of_check (by decide), by decide⟩

/-- A list of L entries, and one of L + 1. -/
theorem witness_ClaimTimersExpire_hold :
    ((heatingWith [1] (.running 1200000)).Steady ∧ (heatingWith [1] (.running 1200000)).SignalsCurrent
        ∧ (heatingWith [1] (.running 1200000)).claims.heat.entries.length
          ≤ (heatingWith [1] (.running 1200000)).claims.limit)
      ∧ ((heatingWith [1, 2] (.running 1200000)).Steady ∧ (heatingWith [1, 2] (.running 1200000)).SignalsCurrent
        ∧ (heatingWith [1, 2] (.running 1200000)).Room
        ∧ (heatingWith [1, 2] (.running 1200000)).claims.limit
          < (heatingWith [1, 2] (.running 1200000)).claims.heat.entries.length)
      ∧ base.Steady ∧ base.SignalsCurrent ∧ base.claims.hold = .stopped ∧ base.claims.headTimer = none :=
  ⟨⟨steady_of_check (by decide), signals_of_check (by decide), by decide⟩,
    ⟨steady_of_check (by decide), signals_of_check (by decide), room_of_check (by decide), by decide⟩,
    steady_of_check (by decide), signals_of_check (by decide), by decide⟩

theorem witness_ClaimTimersExpire_head :
    ((joinList [2] .notClaimed).Steady ∧ (joinList [2] .notClaimed).SignalsCurrent
        ∧ (joinList [2] .notClaimed).claims.headTimer ≠ none ∧ 2 ≠ (joinList [2] .notClaimed).ownNumber)
      ∧ ((joinList [2, 3] .notClaimed).Steady ∧ (joinList [2, 3] .notClaimed).SignalsCurrent)
      ∧ ((joinList [1, 2] (.releaseQueued false)).Steady ∧ (joinList [1, 2] (.releaseQueued false)).SignalsCurrent
        ∧ (joinList [1, 2] (.releaseQueued false)).claims.join.own ≠ .listed)
      ∧ precharge.Steady ∧ precharge.SignalsCurrent ∧ precharge.Room ∧ precharge.claims.headTimer ≠ none
      ∧ precharge.claims.join.entries.head? = some precharge.ownNumber ∧ precharge.lines.auxNeg = true
      ∧ precharge.svc.restart = .none :=
  ⟨⟨steady_of_check (by decide), signals_of_check (by decide), by decide⟩,
    ⟨steady_of_check (by decide), signals_of_check (by decide)⟩,
    ⟨steady_of_check (by decide), signals_of_check (by decide), by decide⟩,
    steady_of_check (by decide), signals_of_check (by decide), room_of_check (by decide), by decide⟩

/-- A peer ahead of the own entry, LISTED in WAIT_TOKEN and in OPEN, and queued; and the own entry at the head in WAIT_TOKEN. -/
theorem witness_ClaimTimersExpire_next :
    (waiting.Steady ∧ waiting.SignalsCurrent ∧ waiting.Room ∧ waiting.claims.headTimer ≠ none
        ∧ waiting.claims.join.entries = 2 :: waiting.ownNumber :: [3] ∧ 2 ∉ waiting.ownNumber :: [3]
        ∧ waiting.conn.state = .waitToken ∧ waiting.claims.join.own = .listed)
      ∧ ((joinList [2, 1] .listed).Steady ∧ (joinList [2, 1] .listed).SignalsCurrent
        ∧ (joinList [2, 1] .listed).conn.state ≠ .waitToken)
      ∧ ((joinList [2, 1] (.releaseQueued false)).Steady ∧ (joinList [2, 1] (.releaseQueued false)).SignalsCurrent)
      ∧ checking.Steady ∧ checking.SignalsCurrent ∧ checking.Room ∧ checking.svc.restart = .none
      ∧ checking.claims.headTimer ≠ none ∧ checking.conn.state = .waitToken
      ∧ checking.claims.join.entries.head? = some checking.ownNumber :=
  ⟨⟨steady_of_check (by decide), signals_of_check (by decide), room_of_check (by decide), by decide⟩,
    ⟨steady_of_check (by decide), signals_of_check (by decide), by decide⟩,
    ⟨steady_of_check (by decide), signals_of_check (by decide)⟩,
    steady_of_check (by decide), signals_of_check (by decide), room_of_check (by decide), by decide⟩

/-! ### Connection sequencer -/

/-- `base` with a window open in OPEN, and an opening in progress. -/
def proving : State := { base with conn := { base.conn with proving := .pending, window := some .proving } }
def opening : State :=
  { conn .opening false false (some .opening) with
    conn := { (conn .opening false false (some .opening)).conn with dest := some .openRack } }
def leavingPos : State :=
  { leaving with conn := { leaving.conn with leaveTimer := none, posDrive := false, window := some .leavePos } }
def leavingNeg : State := { leavingPos with conn := { leavingPos.conn with negDrive := false, window := some .leaveNeg } }
def prechargeClosing : State := { precharge with conn := { precharge.conn with window := some .negClose } }

theorem witness_AuxContactsConfirmWindows :
    (base.Steady ∧ base.svc.restart = .none ∧ base.conn.window = none)
      ∧ (proving.Steady ∧ proving.conn.window = some .proving)
      ∧ (prechargeClosing.Steady ∧ prechargeClosing.conn.window = some .negClose)
      ∧ (closing.Steady ∧ closing.Room ∧ closing.conn.window = some .posClose ∧ closing.conn.state = .closing
        ∧ closing.claims.join.own = .listed)
      ∧ (opening.Steady ∧ opening.conn.window = some .opening ∧ opening.conn.state = .opening
        ∧ opening.conn.dest = some .openRack)
      ∧ (leavingPos.Steady ∧ leavingPos.conn.window = some .leavePos ∧ leavingPos.conn.state = .leaving)
      ∧ leavingNeg.Steady ∧ leavingNeg.conn.window = some .leaveNeg ∧ leavingNeg.conn.state = .leaving :=
  ⟨⟨steady_of_check (by decide), by decide⟩, ⟨steady_of_check (by decide), by decide⟩,
    ⟨steady_of_check (by decide), by decide⟩, ⟨steady_of_check (by decide), room_of_check (by decide), by decide⟩,
    ⟨steady_of_check (by decide), by decide⟩, ⟨steady_of_check (by decide), by decide⟩,
    steady_of_check (by decide), by decide⟩

theorem witness_ConnectionExpiries :
    (base.Steady ∧ base.svc.restart = .none ∧ base.conn.window = none ∧ base.conn.prechTimer = none
        ∧ base.conn.leaveTimer = none)
      ∧ (proving.Steady ∧ opening.Steady ∧ leavingPos.Steady ∧ leavingNeg.Steady)
      ∧ (prechargeClosing.Steady ∧ prechargeClosing.SignalsCurrent ∧ prechargeClosing.Room
        ∧ prechargeClosing.conn.state = .precharge ∧ prechargeClosing.conn.prechTimer ≠ none
        ∧ prechargeClosing.claims.join.own = .listed ∧ prechargeClosing.lines.auxNeg = true)
      ∧ (closing.Steady ∧ closing.SignalsCurrent ∧ closing.Room ∧ closing.lines.auxNeg = true)
      ∧ leaving.Steady ∧ leaving.conn.state = .leaving ∧ leaving.conn.leaveTimer ≠ none ∧ leaving.lines.auxPos = true :=
  ⟨⟨steady_of_check (by decide), by decide⟩,
    ⟨steady_of_check (by decide), steady_of_check (by decide), steady_of_check (by decide), steady_of_check (by decide)⟩,
    ⟨steady_of_check (by decide), signals_of_check (by decide), room_of_check (by decide), by decide⟩,
    ⟨steady_of_check (by decide), signals_of_check (by decide), room_of_check (by decide), by decide⟩,
    steady_of_check (by decide), by decide⟩

/-- Both contacts show open at the failure; and a leave whose positive contact, or both, already show open. -/
def opened (s : State) : State := { s with lines := { s.lines with auxPos := false, auxNeg := false } }
def negStillClosed (s : State) : State := { s with lines := { s.lines with auxPos := false, auxNeg := true } }

theorem witness_ConnectionExpiries_open :
    ((opened prechargeClosing).Steady ∧ (opened prechargeClosing).SignalsCurrent ∧ (opened prechargeClosing).Room
        ∧ (opened prechargeClosing).conn.window = some .negClose ∧ (opened prechargeClosing).claims.join.own = .listed)
      ∧ ((opened closing).Steady ∧ (opened closing).SignalsCurrent ∧ (opened closing).Room
        ∧ (opened closing).conn.window = some .posClose)
      ∧ ((opened precharge).Steady ∧ (opened precharge).SignalsCurrent ∧ (opened precharge).conn.prechTimer ≠ none)
      ∧ (opened leaving).Steady ∧ (negStillClosed leaving).Steady ∧ (opened leaving).conn.leaveTimer ≠ none :=
  ⟨⟨steady_of_check (by decide), signals_of_check (by decide), room_of_check (by decide), by decide⟩,
    ⟨steady_of_check (by decide), signals_of_check (by decide), room_of_check (by decide), by decide⟩,
    ⟨steady_of_check (by decide), signals_of_check (by decide), by decide⟩, steady_of_check (by decide),
    steady_of_check (by decide), by decide⟩

/-- The opening succeeds at once (R127, R138): OPEN after the first failure, LOCKOUT after the third. -/
theorem test_failure_with_open_contacts :
    (after .auxWindowExpiry (opened prechargeClosing)).conn.state = .openRack
      ∧ (after .auxWindowExpiry { opened prechargeClosing with
          conn := { prechargeClosing.conn with failCount := 2 } }).conn.state = .lockout
      ∧ (after .leaveTimerExpiry (opened leaving)).conn.state = .outOfService
      ∧ (after .leaveTimerExpiry (negStillClosed leaving)).conn.window = some .leaveNeg := by decide

/-- The third precharge failure in succession gives LOCKOUT (R137). -/
theorem test_third_failure_locks_out :
    let s := { precharge with conn := { precharge.conn with failCount := 2 } }
    (after .prechargeTimerExpiry s).conn.dest = some .lockout ∧ (after .prechargeTimerExpiry precharge).conn.dest = some .openRack := by
  decide

/-! ### Grid -/

/-- `base` in a grid state with its timer and limit. -/
def grid (g : GridState) (reconnect : Timer) (limit : Nat) (s : State) : State :=
  { s with
    grid := ⟨g, reconnect, false, g == .up⟩
    lines := { s.lines with gridHealthy := true }
    claims := { s.claims with limit := limit } }

/-- GRID_UP with an own slot at position 2 of the list, and GRID_RETURNING with the own entry waiting there. -/
def upHeating : State := grid .up none 4 (heatingWith [2, 1] (.running 1200000))
def returningWaiting : State := grid .returning (some 300000) 1 (heatWaitWith [2, 1])

theorem witness_GridFollowsHealthyInput :
    (State.reset.Steady ∧ State.reset.SignalsCurrent ∧ scanningMode State.reset.svc.mode = false)
      ∧ (base.Steady ∧ base.SignalsCurrent ∧ base.grid.state = .down ∧ base.grid.reconnect = none
        ∧ scanningMode base.svc.mode = true ∧ base.svc.config = some cfg)
      ∧ ((grid .returning (some 300000) 1 base).Steady ∧ (grid .returning (some 300000) 1 base).SignalsCurrent
        ∧ (grid .returning (some 300000) 1 base).grid.reconnect ≠ none
        ∧ (grid .returning (some 300000) 1 base).claims.heat.own ≠ .listed)
      ∧ ((grid .up none 4 base).Steady ∧ (grid .up none 4 base).SignalsCurrent)
      ∧ (upHeating.Steady ∧ upHeating.SignalsCurrent ∧ upHeating.claims.slotHeld = true
        ∧ upHeating.thermal.state = .heating
        ∧ upHeating.ownNumber ∉ upHeating.claims.heat.entries.take cfg.heatLimitIsland)
      ∧ returningWaiting.Steady ∧ returningWaiting.SignalsCurrent ∧ returningWaiting.claims.heat.own = .listed
      ∧ returningWaiting.claims.slotHeld = false ∧ returningWaiting.thermal.state = .heatWait
      ∧ returningWaiting.ownNumber ∈ returningWaiting.claims.heat.entries.take cfg.heatLimitGrid :=
  ⟨⟨steady_of_check (by decide), signals_of_check (by decide), by decide⟩,
    ⟨steady_of_check (by decide), signals_of_check (by decide), by decide⟩,
    ⟨steady_of_check (by decide), signals_of_check (by decide), by decide⟩,
    ⟨steady_of_check (by decide), signals_of_check (by decide)⟩,
    ⟨steady_of_check (by decide), signals_of_check (by decide), by decide⟩,
    steady_of_check (by decide), signals_of_check (by decide), by decide⟩

/-- A listed claim whose slot stays: at position 1 it is held under either limit, at position 2 under neither. -/
theorem witness_GridFollowsHealthyInput_stays :
    ((grid .up none 4 (heatingWith [1] (.running 1200000))).Steady
        ∧ (grid .up none 4 (heatingWith [1] (.running 1200000))).SignalsCurrent
        ∧ 1 ∈ [1].take cfg.heatLimitIsland)
      ∧ (grid .returning (some 300000) 1 (heatingWith [1] (.running 1200000))).Steady
      ∧ (grid .returning (some 300000) 1 (heatingWith [1] (.running 1200000))).SignalsCurrent :=
  ⟨⟨steady_of_check (by decide), signals_of_check (by decide), by decide⟩, steady_of_check (by decide),
    signals_of_check (by decide)⟩

/-! ### The link controller -/

theorem witness_CensusCallFreezesAnswer :
    base.Steady ∧ base.Hears ∧ isStation (0 : BitVec 5).toNat = false ∧ isStation (17 : BitVec 5).toNat = false
      ∧ isStation (1 : BitVec 5).toNat = true ∧ isStation (16 : BitVec 5).toNat = true :=
  ⟨steady_of_check (by decide), hears_of_check (by decide), by decide⟩

/-- A state with a census window open. -/
def windowOpen (a : CensusAnswer) (s : State) : State := { s with link := { s.link with census := some a } }

/-- A good window in which the stations of a dominant bit answered yes, and a failed one. -/
def goodWindow (answer1 answer2 : Byte) : WindowRead := ⟨true, false, true, false, answer1, answer2⟩
def failedWindow : WindowRead := ⟨true, true, true, false, 255, 255⟩

/-- A join check on the string and bus voltages in units of 0.1 V. -/
def checkAt (stringV busV : Nat) : State :=
  windowOpen ⟨2, 0, false, some .joinCheckCall⟩
    { checking with chain := { checking.chain with sense := ⟨0, stringV, busV, some 20, 0⟩ } }

theorem witness_CensusWindowJudged :
    (base.Steady ∧ base.svc.restart = .none ∧ base.Room ∧ base.link.census = none)
      ∧ ((windowOpen ⟨1, 1, true, none⟩ (preAlarm .idle)).Steady ∧ failedWindow.stop1Dominant = true)
      ∧ ((windowOpen ⟨1, 1, true, some .fireCall⟩ (preAlarm .callPending)).Steady
        ∧ (1 : Byte).toNat = (preAlarm .callPending).ownZone ∧ (preAlarm .callPending).fire.state = .preAlarm
        ∧ windowYes (goodWindow 0xFE 0x7F) 1 = true ∧ windowYes (goodWindow 0xFF 0x7F) 16 = true
        ∧ windowYes (goodWindow 0xFF 0xFF) 2 = false)
      ∧ (windowOpen ⟨4, 0, true, some .gatewayCall⟩
          { base with svc := { base.svc with gatewayCensus := some (4, 0) } }).Steady
      ∧ ((checkAt 8000 8150).Steady ∧ (checkAt 8000 8150).Room ∧ (checkAt 8000 8150).svc.config = some cfg
        ∧ (checkAt 8000 8150).conn.check = .callPending false ∧ (checkAt 8000 8150).conn.state = .waitToken
        ∧ (checkAt 8000 8150).claims.join.own = .listed ∧ (checkAt 8000 8150).svc.gatewayCensus = none
        ∧ (checkAt 8000 8150).lines.auxNeg = false)
      ∧ (checkAt 8000 499).Steady ∧ (checkAt 8000 500).Steady :=
  ⟨⟨steady_of_check (by decide), by decide, room_of_check (by decide), rfl⟩, ⟨steady_of_check (by decide), by decide⟩,
    ⟨steady_of_check (by decide), by decide⟩, steady_of_check (by decide),
    ⟨steady_of_check (by decide), room_of_check (by decide), by decide⟩, steady_of_check (by decide),
    steady_of_check (by decide)⟩

/-- A window that only the gateway's census waits for, with an identical call in the queue; and the failed windows of the fire
unit outside PRE_ALARM and of the join check. -/
def gatewayWaits : State :=
  windowOpen ⟨4, 0, true, none⟩
    { base with
      svc := { base.svc with gatewayCensus := some (4, 0) }
      link := { base.link with queue := [censusCall 4 0 .gatewayCall, censusCall 3 0 .gatewayCall] } }

theorem witness_CensusWindowJudged_gateway :
    (gatewayWaits.Steady ∧ gatewayWaits.Room ∧ gatewayWaits.svc.restart = .none)
      ∧ ((windowOpen ⟨1, 1, true, some .fireCall⟩ base).Steady ∧ base.fire.state ≠ .preAlarm)
      ∧ ((checkAt 8000 8150).Steady ∧ (checkAt 8000 8150).conn.check ≠ .none)
      ∧ (⟨1, 1, true, some .fireCall⟩ : CensusAnswer).own ≠ none ∧ (⟨1, 1, true, none⟩ : CensusAnswer).own = none :=
  ⟨⟨steady_of_check (by decide), room_of_check (by decide), by decide⟩, ⟨steady_of_check (by decide), by decide⟩,
    ⟨steady_of_check (by decide), by decide⟩, by decide⟩

/-- R172 and R180: the identical call goes, then the reply with the answer bytes is queued. -/
theorem test_gateway_census_done :
    (after (.censusWindowCompletion (goodWindow 0xFE 0xFF)) gatewayWaits).link.queue
      = [censusCall 3 0 .gatewayCall, serviceReply 12 .done [0xFE, 0xFF] .plain] := by decide

/-- Stations 1 and 16 of the window of 10.5: the caller, station 2, drives the start bits (R171). -/
theorem test_window_levels :
    let w := readWindow (wired (windowDrive 2 ⟨1, 1, false, some .fireCall⟩)
      (wired (windowDrive 1 ⟨1, 1, true, none⟩) (windowDrive 16 ⟨1, 1, true, none⟩)))
    w = goodWindow 0xFE 0x7F := by decide

/-- R133 at its boundaries: a gap of MATCH_WINDOW joins and one above it does not; below 50 V another rack's yes decides. -/
theorem test_join_check_boundaries :
    (after (.censusWindowCompletion (goodWindow 255 255)) (checkAt 8000 8150)).conn.state = .precharge
      ∧ (after (.censusWindowCompletion (goodWindow 255 255)) (checkAt 8000 8151)).conn.state = .openRack
      ∧ (after (.censusWindowCompletion (goodWindow 255 255)) (checkAt 8000 499)).conn.state = .precharge
      ∧ (after (.censusWindowCompletion (goodWindow 255 255)) (checkAt 8000 500)).conn.state = .openRack := by decide
theorem test_join_check_dead_bus :
    (after (.censusWindowCompletion (goodWindow 0xFD 255)) (checkAt 8000 499)).conn.mismatch = true
      ∧ (after (.censusWindowCompletion (goodWindow 0xFE 255)) (checkAt 8000 499)).conn.mismatch = false := by decide

/-- `base` with an ANNOUNCE that waits. -/
def announceWaits : State := { base with link := { base.link with queue := [announceFrame] } }

theorem witness_AttemptAndArbitration :
    (announceWaits.Steady ∧ announceWaits.onLine = none ∧ announceWaits.link.census = none
        ∧ announceWaits.link.queue = announceFrame :: [])
      ∧ (base.Steady ∧ base.link.queue = [])
      ∧ (sending joinClaimFrame).Steady ∧ (sending joinClaimFrame).onLine ≠ none ∧ base.thermal.level ≤ 3 :=
  ⟨⟨steady_of_check (by decide), by decide⟩, ⟨steady_of_check (by decide), rfl⟩, steady_of_check (by decide), by decide⟩

/-- An ANNOUNCE on the line ahead of one that waits: after lost arbitration one waits (R54). -/
theorem test_one_announce_waits :
    let s := { base with link := { base.link with queue := [{ announceFrame with onLine := true }, announceFrame] } }
    (after .lostArbitration s).link.queue = [announceFrame]
      ∧ (after (.attemptBitError 5) s).link.queue = [{ announceFrame with errors := 1 }] := by decide

/-- The frames of each clause on the line, with three bit errors, and two header errors counted. -/
def lastTry (e : Entry) (s : State) : State :=
  { s with link := { s.link with queue := [{ e with onLine := true, errors := 3 }] } }
def twoHeaderErrors : State :=
  { sending announceFrame with link := { (sending announceFrame).link with headerErrors := 2 } }

theorem witness_BitErrorsDropTheFrame :
    (base.Steady ∧ base.svc.restart = .none ∧ base.onLine = none)
      ∧ ((sending announceFrame).Steady ∧ (sending announceFrame).onLine.map (·.errors) = some 0)
      ∧ ((lastTry announceFrame base).Steady ∧ (lastTry announceFrame base).onLine.map (·.cls) = some .announce
        ∧ (lastTry announceFrame base).onLine.map (·.errors) = some 3)
      ∧ (lastTry (serviceReply 1 .done [] .plain) base).Steady
      ∧ (lastTry (censusCall 1 1 .fireCall) (preAlarm .callPending)).Steady
      ∧ (lastTry (censusCall 4 0 .gatewayCall) base).Steady
      ∧ (lastTry joinClaimFrame (joinList [] (.claimQueued false))).Steady
      ∧ (lastTry heatClaimFrame
          { base with claims := { base.claims with heat := ⟨[], .claimQueued true, false⟩ } }).Steady
      ∧ twoHeaderErrors.Steady ∧ twoHeaderErrors.link.headerErrors + 1 = 3 ∧ twoHeaderErrors.svc.mode = .active :=
  ⟨⟨steady_of_check (by decide), by decide⟩, ⟨steady_of_check (by decide), by decide⟩,
    ⟨steady_of_check (by decide), by decide⟩, steady_of_check (by decide), steady_of_check (by decide),
    steady_of_check (by decide), steady_of_check (by decide), steady_of_check (by decide), steady_of_check (by decide),
    by decide⟩

/-- An error in frame byte 2 counts as one in the header and an error in byte 3 does not (R167). -/
theorem test_header_error_boundary :
    (after (.attemptBitError 2) twoHeaderErrors).svc.mode = .safe
      ∧ (after (.attemptBitError 3) twoHeaderErrors).link.headerErrors = 0
      ∧ (after (.attemptBitError 3) twoHeaderErrors).svc.mode = .active := by decide

/-- Frames on the line with the claim states that their clauses name. -/
def sendingFrom (e : Entry) (s : State) : State := { s with link := { s.link with queue := [{ e with onLine := true }] } }
def firstClaim : State :=
  sendingFrom joinClaimFrame
    { joinList [] (.claimQueued false) with conn := { base.conn with state := .waitToken } }
def heatClaim (entries : List Nat) : State :=
  sendingFrom heatClaimFrame
    { heatWaitWith entries with claims := { base.claims with heat := ⟨entries, .claimQueued false, false⟩ } }

theorem witness_OwnFrameCompletes :
    ((sending announceFrame).Steady ∧ (sending announceFrame).SignalsCurrent
        ∧ (sending announceFrame).svc.restart ≠ .pending ∧ (sending announceFrame).link.queue.length ≤ 8
        ∧ (sending announceFrame).onLine.map (·.cls) = some .announce)
      ∧ ((sending (censusCall 4 0 .gatewayCall)).Steady ∧ (sending (censusCall 4 0 .gatewayCall)).SignalsCurrent)
      ∧ ((sendingFrom joinClaimFrame (joinList [2] (.claimQueued false))).Steady
        ∧ (sendingFrom joinClaimFrame (joinList [2] (.claimQueued false))).SignalsCurrent)
      ∧ (firstClaim.Steady ∧ firstClaim.SignalsCurrent ∧ firstClaim.onLine.map (·.kind) = some 1
        ∧ firstClaim.ownNumber ∉ firstClaim.claims.join.entries ∧ firstClaim.conn.state = .waitToken)
      ∧ ((sendingFrom (joinDoneFrame .ok) (joinList [1] (.releaseQueued false))).Steady
        ∧ (sendingFrom (joinDoneFrame .ok) (joinList [1] (.releaseQueued false))).SignalsCurrent)
      ∧ ((sendingFrom (joinDoneFrame .ok) (joinList [1, 2] (.releaseQueued false))).Steady
        ∧ (sendingFrom (joinDoneFrame .ok) (joinList [1, 2] (.releaseQueued false))).SignalsCurrent)
      ∧ ((heatClaim [2]).Steady ∧ (heatClaim [2]).SignalsCurrent ∧ 1 ≤ [2].length ∧ (heatClaim [2]).claims.limit = 1)
      ∧ ((heatClaim []).Steady ∧ (heatClaim []).SignalsCurrent ∧ (heatClaim []).thermal.state = .heatWait
        ∧ (heatClaim []).svc.config = some cfg) :=
  ⟨⟨steady_of_check (by decide), signals_of_check (by decide), by decide⟩,
    ⟨steady_of_check (by decide), signals_of_check (by decide)⟩,
    ⟨steady_of_check (by decide), signals_of_check (by decide)⟩,
    ⟨steady_of_check (by decide), signals_of_check (by decide), by decide⟩,
    ⟨steady_of_check (by decide), signals_of_check (by decide)⟩,
    ⟨steady_of_check (by decide), signals_of_check (by decide)⟩,
    ⟨steady_of_check (by decide), signals_of_check (by decide), by decide⟩,
    steady_of_check (by decide), signals_of_check (by decide), by decide⟩

/-- Claims under the cancel mark. -/
def cancelledJoin (entries : List Nat) : State :=
  sendingFrom joinClaimFrame { joinList entries (.claimQueued true) with
    claims := { (joinList entries (.claimQueued true)).claims with headTimer := if entries = [] then none else some 11000 } }
def cancelledHeat : State :=
  sendingFrom heatClaimFrame { base with claims := { base.claims with heat := ⟨[2], .claimQueued true, false⟩ } }

theorem witness_OwnFrameCompletes_cancelled :
    ((cancelledJoin []).Steady ∧ (cancelledJoin []).SignalsCurrent ∧ (cancelledJoin []).ownNumber = 1
        ∧ (cancelledJoin []).onLine.map (·.kind) = some 1)
      ∧ ((cancelledJoin [2]).Steady ∧ (cancelledJoin [2]).SignalsCurrent)
      ∧ cancelledHeat.Steady ∧ cancelledHeat.SignalsCurrent ∧ cancelledHeat.onLine.map (·.kind) = some 3 :=
  ⟨⟨steady_of_check (by decide), signals_of_check (by decide), by decide⟩,
    ⟨steady_of_check (by decide), signals_of_check (by decide)⟩,
    steady_of_check (by decide), signals_of_check (by decide), by decide⟩

/-- A cancelled claim is released straight after it (R71, R72). -/
theorem test_cancelled_claims :
    let t := after .ownFrameCompletion (cancelledJoin [])
    (t.claims.join.entries, t.claims.join.own, t.link.queue) = ([1], .releaseQueued false, [joinDoneFrame .failed])
      ∧ t.claims.headTimer = some 10000
      ∧ (after .ownFrameCompletion cancelledHeat).link.queue = [heatReleaseFrame] := by decide

/-- The heater release of each mark. -/
def heatRelease (reclaim : Bool) : State :=
  sendingFrom heatReleaseFrame
    { base with
      claims := { base.claims with heat := ⟨[1, 2], .releaseQueued reclaim, false⟩ }
      thermal := { base.thermal with state := if reclaim then .heatWait else .idle, demand := reclaim } }

theorem witness_OwnFrameCompletes_release :
    (heatRelease false).Steady ∧ (heatRelease false).SignalsCurrent ∧ (heatRelease true).Steady
      ∧ (heatRelease true).SignalsCurrent ∧ (heatRelease true).onLine.map (·.kind) = some 4 :=
  ⟨steady_of_check (by decide), signals_of_check (by decide), steady_of_check (by decide), signals_of_check (by decide),
    by decide⟩

/-- A check sequence with one wrong byte. -/
theorem witness_DiscardedFrameHasNoEffect :
    (base.Steady ∧ base.onLine = none ∧ DiscardReason.idleEarly ≠ .classKindOrLength)
      ∧ ((sending announceFrame).Steady ∧ (sending announceFrame).onLine ≠ none)
      ∧ (⟨2, 5, 1, []⟩ : Frame).payload.length ≤ 24
      ∧ hiByte (crc16 (frameBody ⟨2, 5, 1, []⟩)) + 1 ≠ hiByte (crc16 (frameBody ⟨2, 5, 1, []⟩)) :=
  ⟨⟨steady_of_check (by decide), by decide⟩, ⟨steady_of_check (by decide), by decide⟩, by decide,
    (by decide : ∀ b : Byte, b + 1 ≠ b) _⟩

/-- The queue of 10.7 with its eight entries, and the frames that its table hands over. -/
def burst : State :=
  { base with link := { base.link with queue :=
    [{ newEntry .fire 1 [1, 1, 1] .plain with onLine := true }, censusCall 1 1 .fireCall, heatReleaseFrame,
      joinDoneFrame .failed, serviceReply 1 .done [] .plain, serviceReply 1 .done [] .plain,
      serviceReply 1 .done [] .plain, announceFrame] } }

theorem test_burst_of_worked_sequence :
    let t := burst.enqueue (newEntry .fire 1 [1, 2, 3] .plain)
    t.link.queue.map (fun e => (e.cls.rank, e.kind.toNat))
        = [(0, 1), (0, 1), (1, 1), (2, 4), (2, 2), (3, 128), (3, 128), (3, 128)]
      ∧ t.link.congestion = true
      ∧ (t.enqueue (serviceReply 2 .done [] .plain)).link.queue = t.link.queue
      ∧ t.enqueueAnnounce.link.queue = t.link.queue := by decide

/-! ### Gateway requests -/

/-- The own number, the broadcast address and the address of the own zone reach station 1 of zone 1 (R170). -/
theorem test_addresses : base.addressed 1 = true ∧ base.addressed 31 = true ∧ base.addressed 25 = true
    ∧ base.addressed 2 = false ∧ base.addressed 26 = false := by decide

theorem witness_RequestJudgement :
    base.Steady ∧ base.Hears ∧ base.Room ∧ requestForm (.readStatus 0 [dest]) = some (0, 1, [dest])
      ∧ base.addressed 2 = false ∧ base.addressed dest = true ∧ (2 : BitVec 5) ≠ 0
      ∧ requestLength 0 = none ∧ requestLength 14 = none ∧ requestLength 1 = some 0 ∧ requestLength 13 = some 0
      ∧ requestLength 12 = some 2 ∧ requestMode 12 .safe = false ∧ requestMode 1 .loading = false
      ∧ requestForm (.unknownRequest 0 14 [dest]) = some (0, 14, [dest]) :=
  ⟨steady_of_check (by decide), hears_of_check (by decide), room_of_check (by decide), by decide⟩

/-- A restart pending, its reply on the line. -/
def restarting : State :=
  sendingFrom (serviceReply 13 .done [] .restartReply) { base with svc := { base.svc with restart := .pending } }

/-- A full queue whose last entry is an ANNOUNCE, and one without. -/
def fullQueue (last : Entry) : State :=
  { base with link := { base.link with queue := List.replicate 7 (serviceReply 1 .done [] .plain) ++ [last] } }

theorem witness_RequestJudgement_full :
    ((fullQueue announceFrame).Steady ∧ (fullQueue announceFrame).Hears ∧ (fullQueue announceFrame).link.queue.length = 8
        ∧ (fullQueue announceFrame).addressed dest = true
        ∧ (fullQueue announceFrame).link.queue
          = List.replicate 7 (serviceReply 1 .done [] .plain) ++ announceFrame :: [])
      ∧ (fullQueue (serviceReply 2 .done [] .plain)).Steady ∧ (fullQueue (serviceReply 2 .done [] .plain)).Hears
      ∧ (joinClaimFrame.cls.rank < announceFrame.cls.rank ∧ announceFrame.cls.rank ≤ announceFrame.cls.rank)
      ∧ restarting.svc.restart = .pending :=
  ⟨⟨steady_of_check (by decide), hears_of_check (by decide), by decide⟩, steady_of_check (by decide),
    hears_of_check (by decide), by decide⟩

/-- Positions 1 and M, halves 1 and 2 of 9 cells, and the values next to them. -/
theorem witness_ReadingsReplied :
    (base.Steady ∧ base.Hears ∧ base.Room ∧ base.addressed dest = true ∧ base.chain.record.lastRead = none)
      ∧ cfg.modules = 2 ∧ cfg.cells = 8 ∧ ({ cfg with cells := 9 } : ConfigSet).cells ≠ 8
      ∧ ((inMode .configFault).Steady ∧ (inMode .configFault).Hears ∧ (inMode .configFault).Room
        ∧ (inMode .configFault).addressed dest = true) :=
  ⟨⟨steady_of_check (by decide), hears_of_check (by decide), room_of_check (by decide), by decide⟩, by decide, by decide,
    by decide, steady_of_check (by decide), hears_of_check (by decide), room_of_check (by decide), by decide⟩

/-- The last position and the next, and the second half of eight cells (R179). -/
theorem test_read_module_range :
    (after (.readModule 0 [dest, 2, 1]) base).link.queue.map (fun e => (e.payload.getD 1 0, e.payload.length)) = [(2, 24)]
      ∧ (after (.readModule 0 [dest, 3, 1]) base).link.queue.map (·.payload) = [[0, 130]]
      ∧ (after (.readModule 0 [dest, 1, 2]) base).link.queue.map (·.payload) = [[0, 130]] := by decide

theorem witness_SettingsAndDeferredRequests :
    (base.Steady ∧ base.Hears ∧ base.Room ∧ base.addressed dest = true ∧ base.svc.mode = .active
        ∧ base.svc.config = some cfg ∧ base.svc.gatewayCensus = none ∧ base.conn.state = .openRack
        ∧ base.fire.state = .normal ∧ base.svc.restart = .none)
      ∧ (({ base with svc := { base.svc with gatewayCensus := some (1, 4) } } : State).Steady
        ∧ ((1 : Byte) = 1 ∧ 1 ≤ (4 : Byte).toNat ∧ (4 : Byte).toNat ≤ 4) ∧ ¬(5 : Byte).toNat ≤ 4)
      ∧ (joined.Steady ∧ joined.Hears ∧ joined.Room ∧ joined.conn.state ≠ .openRack)
      ∧ restarting.Steady ∧ restarting.svc.restart = .pending
      ∧ restarting.onLine.map (fun e => (e.cls, e.purpose)) = some (.service, .restartReply) :=
  ⟨⟨steady_of_check (by decide), hears_of_check (by decide), room_of_check (by decide), by decide⟩,
    ⟨steady_of_check (by decide), by decide⟩,
    ⟨steady_of_check (by decide), hears_of_check (by decide), room_of_check (by decide), by decide⟩,
    steady_of_check (by decide), by decide⟩

/-- A pending restart whose station is about to see smoke, and one that a further RESTART finds. -/
def restartingInSmoke : State := { restarting with fire := { base.fire with loopS := almostAlarm } }
def restartWaiting : State :=
  { base with
    svc := { base.svc with restart := .pending }
    link := { base.link with queue := [serviceReply 13 .done [] .restartReply] } }

theorem witness_SettingsAndDeferredRequests_cancelled :
    (restartingInSmoke.svc.restart = .pending ∧ restartingInSmoke.AllowsRestart ∧ restartingInSmoke.svc.mode ≠ .loading
        ∧ restartingInSmoke.fire.loopTimer ≠ none ∧ restartingInSmoke.link.queue.length ≤ 6
        ∧ restartingInSmoke.zonePeerAlarm = false ∧ restartingInSmoke.env.latch = false
        ∧ restartingInSmoke.fire.loopS.state ≠ .alarm
        ∧ (restartingInSmoke.fire.loopS.sampled (loopClass 12000)).state = .alarm
        ∧ (restartingInSmoke.fire.loopH.sampled (loopClass 5000)).state ≠ .alarm
        ∧ ¬(after (.loopSample 12000 5000) restartingInSmoke).AllowsRestart)
      ∧ restartWaiting.Steady ∧ restartWaiting.Hears ∧ restartWaiting.Room ∧ restartWaiting.AllowsRestart
      ∧ restartWaiting.svc.restart = .pending :=
  ⟨⟨by decide, ⟨Or.inl rfl, rfl⟩, by decide, by decide, by decide, by decide, by decide, by decide, by decide, by decide,
    fun h => absurd h.2 (by decide)⟩, steady_of_check (by decide), hears_of_check (by decide), room_of_check (by decide),
    ⟨Or.inl rfl, rfl⟩, by decide⟩

/-- The reply of a cancelled restart goes out and no reset follows (R181). -/
theorem test_cancelled_restart :
    let t := after (.loopSample 12000 5000) restartingInSmoke
    t.svc.restart = .none ∧ (after .ownFrameCompletion t).svc.mode = .active
      ∧ (after .ownFrameCompletion restartingInSmoke).svc.mode = .loading := by decide

/-- The site cap at IRACK_MAX and above it (R27). -/
theorem test_site_cap : (after (.setSiteCap 0 [dest, 0, 200]) base).svc.siteCap = 200
    ∧ (after (.setSiteCap 0 [dest, 0, 201]) base).svc.siteCap = 200
    ∧ (after (.setSiteCap 0 [dest, 0, 15]) base).env.ec = 15 := by decide

/-- A latched trip whose condition has gone, and a welded rack whose contacts show open. -/
def tripped : State := { base with env := { base.env with trip := true } }
def lockedOut : State := conn .lockout false false none
def weldedOpen : State := conn .welded false false none
def outOfService : State := conn .outOfService false false none

theorem witness_ServiceRequestsOfTheRack_takeOut :
    (base.Steady ∧ base.Hears ∧ base.Room ∧ base.addressed dest = true ∧ base.svc.restart = .none
        ∧ base.svc.mode = .active ∧ base.svc.config = some cfg ∧ base.conn.state = .openRack)
      ∧ (joined.Steady ∧ joined.Hears ∧ joined.Room ∧ joined.chain.sense.age = 0
        ∧ ((joined.chain.sense.current : Int) ≤ 10 * cfg.leaveCurrent
          ∧ -(10 * cfg.leaveCurrent : Int) ≤ joined.chain.sense.current) ∧ joined.lines.auxPos = true)
      ∧ (¬(101 : Int) ≤ 10 * cfg.leaveCurrent ∧ ¬-(10 * cfg.leaveCurrent : Int) ≤ -101
        ∧ (100 : Int) ≤ 10 * cfg.leaveCurrent)
      ∧ (leaving.Steady ∧ leaving.Hears ∧ leaving.Room) ∧ (outOfService.Steady ∧ outOfService.Hears ∧ outOfService.Room)
      ∧ (closing.Steady ∧ closing.Hears ∧ closing.Room)
      ∧ checking.Steady ∧ checking.Hears ∧ checking.Room ∧ checking.conn.state = .waitToken
      ∧ checking.link.queue.length ≤ 6 :=
  ⟨⟨steady_of_check (by decide), hears_of_check (by decide), room_of_check (by decide), by decide⟩,
    ⟨steady_of_check (by decide), hears_of_check (by decide), room_of_check (by decide), by decide⟩, by decide,
    ⟨steady_of_check (by decide), hears_of_check (by decide), room_of_check (by decide)⟩,
    ⟨steady_of_check (by decide), hears_of_check (by decide), room_of_check (by decide)⟩,
    ⟨steady_of_check (by decide), hears_of_check (by decide), room_of_check (by decide)⟩,
    steady_of_check (by decide), hears_of_check (by decide), room_of_check (by decide), by decide⟩

theorem witness_ServiceRequestsOfTheRack_clear :
    (tripped.Steady ∧ tripped.Hears ∧ tripped.Room ∧ tripped.env.trip = true
        ∧ ¬((∃ n ∈ tripped.env.cellTrips, n ≠ 0) ∨ tripped.env.overCount ≠ 0) ∧ tripped.conn.state ≠ .lockout)
      ∧ (lockedOut.Steady ∧ lockedOut.Hears ∧ lockedOut.Room)
      ∧ weldedOpen.Steady ∧ weldedOpen.Hears ∧ weldedOpen.Room ∧ weldedOpen.lines.auxPos = false
      ∧ weldedOpen.lines.auxNeg = false :=
  ⟨⟨steady_of_check (by decide), hears_of_check (by decide), room_of_check (by decide), by decide⟩,
    ⟨steady_of_check (by decide), hears_of_check (by decide), room_of_check (by decide)⟩,
    steady_of_check (by decide), hears_of_check (by decide), room_of_check (by decide), by decide⟩

/-- RELEASED after the loops have returned to normal; a container fire flag left by a peer, with the peer's alarm gone and
with it standing. -/
def released : State :=
  { fireIn .released none with
    fire := { (fireIn .released none).fire with loopS := ⟨.normal, none, 0⟩, loopH := ⟨.normal, none, 0⟩ } }
def containerFireOf (f : FireState) : State :=
  { base with
    env := { base.env with ec := 0, ed := 0 }
    peers := { base.peers with containerFire := true, containerLevel := 3, table := [{ peer 2 0 with fire := f }] }
    thermal := { base.thermal with state := .inhibited, level := 3, valve := true } }

/-- The notice of NORMAL and the reply of an accepted FIRE_RESET (R122), and the reply where a flag alone is cleared (R61). -/
theorem test_fire_reset_replies :
    (after (.fireReset 0 [dest]) released).link.queue
        = [newEntry .fire 1 [1, 0, 0] .plain, serviceReply 9 .done [] .plain]
      ∧ (after (.fireReset 0 [dest]) (containerFireOf .normal)).link.queue = [serviceReply 9 .done [] .plain]
      ∧ released.link.queue.length ≤ 5 ∧ (containerFireOf .normal).link.queue.length ≤ 6 := by decide

theorem witness_ServiceRequestsOfTheRack_fireReset :
    (released.Steady ∧ released.Hears ∧ released.Room ∧ released.fire.state ≠ .normal
        ∧ released.fire.loopS.state ≠ .alarm ∧ released.fire.loopH.state ≠ .alarm ∧ released.env.riseFlag = false
        ∧ released.anyPeerAlarm = false)
      ∧ ((fireIn .alarm none).Steady ∧ (fireIn .alarm none).Hears ∧ (fireIn .alarm none).Room
        ∧ (fireIn .alarm none).fire.loopS.state = .alarm)
      ∧ ((containerFireOf .normal).Steady ∧ (containerFireOf .normal).Hears ∧ (containerFireOf .normal).Room
        ∧ (containerFireOf .normal).anyPeerAlarm = false ∧ (containerFireOf .normal).fire.state = .normal)
      ∧ (containerFireOf .alarm).Steady ∧ (containerFireOf .alarm).Hears ∧ (containerFireOf .alarm).Room
      ∧ (containerFireOf .alarm).anyPeerAlarm = true :=
  ⟨⟨steady_of_check (by decide), hears_of_check (by decide), room_of_check (by decide), by decide⟩,
    ⟨steady_of_check (by decide), hears_of_check (by decide), room_of_check (by decide), by decide⟩,
    ⟨steady_of_check (by decide), hears_of_check (by decide), room_of_check (by decide), by decide⟩,
    steady_of_check (by decide), hears_of_check (by decide), room_of_check (by decide), by decide⟩

/-! ### What a command may reach -/

/-- A RESTART with room, and a command that reaches one kind of state and leaves another. -/
theorem witness_CommandsReachOnlyTheirParts :
    (rich.Steady ∧ rich.DrivesFollow ∧ rich.svc.restart = .none ∧ rich.Room ∧ (Instr.restart 0 [dest]).wf = true
        ∧ Part.mode ∉ reaches (.restart 0 [dest]) ∧ ∃ t, exec (.restart 0 [dest]) rich = .next t)
      ∧ base.Steady ∧ base.DrivesFollow ∧ base.svc.restart = .none ∧ Part.scan ∈ reaches .scanIntervalExpiry
      ∧ Part.pair ∉ reaches .scanIntervalExpiry ∧ (after .scanIntervalExpiry base).chain.scan ≠ base.chain.scan :=
  ⟨⟨steady_of_check (by decide), by constructor <;> decide, rfl, room_of_check (by decide), by decide, by decide, _, rfl⟩,
    steady_of_check (by decide), by constructor <;> decide, rfl, by decide, by decide, by decide⟩

/-- SAFE with every latch set: a trip, a released fire, DUPLICATE_ID. -/
def everyLatch : State :=
  { fireIn .released none with
    env := { (fireIn .released none).env with trip := true, latch := true }
    svc := { base.svc with mode := .safe, duplicateId := true } }

theorem witness_LatchedUntilCleared :
    (everyLatch.Steady ∧ everyLatch.DrivesFollow ∧ everyLatch.svc.restart = .none ∧ fireAlarmed everyLatch.fire.state = true
        ∧ everyLatch.peers.containerFire = true ∧ ∃ t, exec .apExpiry everyLatch = .next t)
      ∧ (lockedOut.Steady ∧ lockedOut.DrivesFollow ∧ lockedOut.svc.restart = .none ∧ lockedOut.svc.mode ≠ .loading)
      ∧ (weldedOpen.Steady ∧ weldedOpen.DrivesFollow ∧ weldedOpen.svc.restart = .none)
      ∧ (outOfService.Steady ∧ outOfService.DrivesFollow ∧ outOfService.svc.restart = .none)
      ∧ (inMode .configFault).Steady ∧ (inMode .configFault).DrivesFollow ∧ (inMode .configFault).svc.restart = .none :=
  ⟨⟨steady_of_check (by decide), by constructor <;> decide, rfl, rfl, rfl, _, rfl⟩,
    ⟨steady_of_check (by decide), by constructor <;> decide, rfl, by decide⟩,
    ⟨steady_of_check (by decide), by constructor <;> decide, rfl⟩,
    ⟨steady_of_check (by decide), by constructor <;> decide, rfl⟩,
    steady_of_check (by decide), by constructor <;> decide, rfl⟩

end Sys2Proof.Tests
end

namespace Sys2Proof.Machine

open Sys2Proof

/-! ### Reset (R182) -/

/-- What a reset leaves needs no judgement: it stands in LOADING with the grid down, the rack off the bus and every level 0. -/
theorem resetWith_steady (lines : Lines) (pending : List Instr) : (State.resetWith lines pending).Steady where
  permit := rfl
  containerLevel := rfl
  pump1 := (Bool.and_false _).symm
  pump2 := (Bool.and_false _).symm
  chillerRun := (Bool.and_false _).symm
  forced := fun _ => rfl
  noDue := fun h => nomatch h

/-- Settles O17: the reset state is steady, so the command answers it as it is. -/
theorem powerOnResetValues : Obligations.PowerOnResetValues := fun _ _ =>
  finish_of_steady (resetWith_steady _ _)

/-! ### The chain controller between completions -/

/-- The chain controller's state, with the stale-data condition as it stands, is not judged at the end of a command (R140). -/
theorem State.Steady.setChain {s : State} {ch : Chain} (h : s.Steady) (hs : ch.staleLeave = s.chain.staleLeave) :
    ({ s with chain := ch } : State).Steady where
  permit := h.permit
  containerLevel := h.containerLevel
  pump1 := h.pump1
  pump2 := h.pump2
  chillerRun := h.chillerRun
  forced := fun hc => h.forced (by simpa only [State.forcedCause, hs] using hc)
  noDue := h.noDue

/-- A command that changes the chain controller alone, and not the stale-data condition, answers that change. -/
theorem finish_of_chain {s : State} {ch : Chain} (h : s.Steady) (hs : ch.staleLeave = s.chain.staleLeave) :
    ({ s with chain := ch } : State).finish = .next { s with chain := ch } := finish_of_steady (h.setChain hs)

/-- Settles O21: a scan interval with no scan in flight starts one, with one in flight it makes the next one owed. -/
theorem scanIntervalStartsOrOwes : Obligations.ScanIntervalStartsOrOwes := by
  intro s hs
  refine ⟨fun ht hn => ?_, fun ht hn => ?_, fun ht => ?_⟩ <;>
    change s.scanInterval.finish = _ <;> unfold State.scanInterval
  · rw [if_pos (Option.isSome_iff_ne_none.mpr ht), if_neg (by simp [hn])]
    exact finish_of_chain hs rfl
  · rw [if_pos (Option.isSome_iff_ne_none.mpr ht), if_pos (Option.isSome_iff_ne_none.mpr hn)]
    exact finish_of_chain hs rfl
  · rw [if_neg (by simp [ht])]
    exact finish_of_steady hs

/-- A reply within a transaction ends its try with the reply's class (R2). -/
theorem exec_chainReplyArrival {s : State} {c : ConfigSet} {r : ScanRun} (hc : s.svc.config = some c)
    (hr : s.chain.scan = some r) (reply : ChainReply) :
    exec (.chainReplyArrival reply) s = (s.tryResult c r reply.body (classifyReply c r.position reply)).finish := by
  change (s.replyArrives reply).finish = _
  simp only [State.replyArrives, hc, hr]

/-- A reply wait that expires within a transaction ends its try without a reply (R1). -/
theorem exec_chainReplyWaitExpiry {s : State} {c : ConfigSet} {r : ScanRun} (hc : s.svc.config = some c)
    (hr : s.chain.scan = some r) :
    exec .chainReplyWaitExpiry s = (s.endTry c r r.replied).finish := by
  change s.replyWaitExpires.finish = _
  simp only [State.replyWaitExpires, hc, hr, State.tryResult]

/-- The transaction ahead of the last position is followed by the one to the next position (R5). -/
theorem continueScan_of_lt {s : State} {c : ConfigSet} {p : Nat} (goods bad : List Nat) (hp : p < c.modules) :
    s.continueScan c p goods bad = { s with chain := { s.chain with
      scan := some { position := p + 1, tryNo := 1, replied := false, command := (s.moduleRecord (p + 1)).mask,
                     good := goods, bad := bad } } } := by
  unfold State.continueScan State.beginTransaction
  rw [if_pos hp, if_neg (Nat.succ_ne_zero p)]

/-- A reading stored within a range is the nearest value of the range (R7, R8). -/
theorem clampInt_eq {lo hi : Int} (h : lo ≤ hi) (x : Int) : clampInt lo hi x = max lo (min hi x) := by
  unfold clampInt
  split <;> [skip; split] <;> omega

/-- Updating the record of one position leaves the record of the next as it is. -/
theorem getD_modify_next (records : List ModuleRecord) (f : ModuleRecord → ModuleRecord) {p : Nat} (hp : p ≠ 0) :
    (records.modify (p - 1) f).getD (p + 1 - 1) ModuleRecord.reset = records.getD (p + 1 - 1) ModuleRecord.reset := by
  have hne : p - 1 ≠ p := by omega
  simp [List.getD_eq_getElem?_getD, hne]

/-- A good reply ahead of the last position is stored, and the next transaction begins (R3, R5). -/
theorem exec_goodReply {s : State} {c : ConfigSet} {r : ScanRun} {reply : ChainReply} (hc : s.svc.config = some c)
    (hr : s.chain.scan = some r) (hgood : ¬badReply c reply) (hpos : reply.position = r.position)
    (hp : r.position < c.modules) :
    exec (.chainReplyArrival reply) s =
      (let t := s.storeReply r.position reply.body
      ({ t with chain := { t.chain with
        scan := some { position := r.position + 1, tryNo := 1, replied := false,
                       command := (t.moduleRecord (r.position + 1)).mask, good := r.good ++ [r.position],
                       bad := r.bad } } } : State)).finish := by
  rw [exec_chainReplyArrival hc hr, classifyReply_of_not_bad hgood, if_pos hpos, State.tryResult, State.endTransaction,
    continueScan_of_lt _ _ hp]

/-- Settles O22: a reply with a computed check code and the values of its position is GOOD, and the record stored leaves the mask
of the next position as it was. -/
theorem goodReplyStored : Obligations.GoodReplyStored := by
  refine ⟨?_, ?_, fun x => ?_, rfl, rfl, clampInt_eq (by decide), fun v => ?_⟩
  · intro s c r bytes cells temps hs hc hr h0 hp hcells htemps
    have hgood : ¬badReply c ⟨crc16 bytes, bytes, r.position, .module cells temps⟩ := by
      simp [badReply_iff, ChainReply.checkOk, replyFits, h0, hcells, htemps]
    rw [exec_goodReply hc hr hgood rfl hp]
    simp only [State.storeReply, State.moduleRecord, getD_modify_next _ _ h0]
    exact finish_of_chain hs rfl
  · intro s c r bytes current stringV busV inlet hs hc hr h0 hm
    have hgood : ¬badReply c ⟨crc16 bytes, bytes, 0, .rackSense current stringV busV inlet⟩ := by
      simp [badReply_iff, ChainReply.checkOk, replyFits]
    rw [exec_goodReply hc hr hgood h0.symm (h0 ▸ hm), h0]
    simp only [State.storeReply, State.moduleRecord]
    exact finish_of_chain hs rfl
  · exact congrArg some (clampInt_eq (by decide) x)
  · rw [storeVoltage, clampInt_eq (by decide), Int.toNat_of_nonneg (le_max_left _ _)]

/-- A failed try with tries left is followed by the next one (R3). -/
theorem endTry_of_left {s : State} {c : ConfigSet} {r : ScanRun} (replied : Bool) (h : r.tryNo < triesOf c) :
    s.endTry c r replied =
      { s with chain := { s.chain with scan := some { r with tryNo := r.tryNo + 1, replied := replied } } } := if_pos h

/-- The last try of a transaction that had a reply enters its position as bad, and the scan goes on (R3). -/
theorem endTry_of_spent {s : State} {c : ConfigSet} {r : ScanRun} (h : triesOf c ≤ r.tryNo) :
    s.endTry c r true = s.continueScan c r.position r.good (r.bad ++ [r.position]) := if_neg (Nat.not_lt.mpr h)

/-- Settles O23: both ways in which a try fails end in the same place, the next try or the position entered as bad. -/
theorem failedTriesRetried : Obligations.FailedTriesRetried := by
  intro s c r hs hc hr
  have harrive : ∀ reply : ChainReply, badReply c reply →
      exec (.chainReplyArrival reply) s = (s.endTry c r true).finish := fun reply hbad => by
    rw [exec_chainReplyArrival hc hr, classifyReply_of_bad hbad]
    rfl
  refine ⟨by simp [State.chainRequest, hr, chainRequestOf], fun hleft => ⟨?_, fun reply hbad => ?_⟩,
    fun hspent hp => ⟨fun hreplied => ?_, fun reply hbad => ?_⟩⟩
  · rw [exec_chainReplyWaitExpiry hc hr, endTry_of_left _ hleft]
    exact finish_of_chain hs rfl
  · rw [harrive reply hbad, endTry_of_left _ hleft]
    exact finish_of_chain hs rfl
  · rw [exec_chainReplyWaitExpiry hc hr, hreplied, endTry_of_spent hspent, continueScan_of_lt _ _ hp]
    exact finish_of_chain hs rfl
  · rw [harrive reply hbad, endTry_of_spent hspent, continueScan_of_lt _ _ hp]
    exact finish_of_chain hs rfl

/-! ### The trips at a completion (R16 to R18) -/

/-- The readings of a module are out of limits: a cell voltage outside VTRIP_LO to VTRIP_HI, or a valid temperature at TTRIP or
above (R16). -/
theorem outOfLimits_iff {c : ConfigSet} {r : ModuleRecord} :
    outOfLimits c r = true ↔ (∃ v ∈ r.cells, c.vtripHi < v ∨ v < c.vtripLo) ∨ ∃ x, some x ∈ r.temps ∧ c.ttrip ≤ x := by
  unfold outOfLimits
  simp only [Bool.or_eq_true, List.any_eq_true, decide_eq_true_eq, Option.any_eq_true]
  exact or_congr Iff.rfl ⟨fun ⟨_, hm, x, hx, hle⟩ => ⟨x, hx ▸ hm, hle⟩, fun ⟨x, hm, hle⟩ => ⟨_, hm, x, rfl, hle⟩⟩

/-- The current exceeds a limit of the pair (R17). -/
theorem overLimit_iff {ec ed : Nat} {i : Int} :
    overLimit ec ed i = true ↔ 11 * (ed : Int) + 50 < i ∨ 11 * (ec : Int) + 50 < -i := by
  simp [overLimit]

/-- The trip count of one place after a completion (R16). -/
theorem nextCellTrips_getElem? (c : ConfigSet) (goods : List Nat) (records : List ModuleRecord) (counts : List Nat) (k : Nat) :
    (nextCellTrips c goods records counts)[k]? = counts[k]?.map (fun n =>
      if k < c.modules then nextCellTrip c (goods.contains (k + 1)) (records.getD k ModuleRecord.reset) n else n) := by
  simp [nextCellTrips, List.getElem?_zipIdx, Function.comp_def]

/-- Some count reached its limit: at some place it was another number and is the limit now (R16, R17). -/
theorem reached_iff {limit : Nat} {old new : List Nat} :
    reached limit old new = true ↔ ∃ k n : Nat, old[k]? = some n ∧ n ≠ limit ∧ new[k]? = some limit := by
  simp only [reached, List.any_eq_true, Bool.and_eq_true, bne_iff_ne, beq_iff_eq, Prod.exists,
    List.mem_iff_getElem?, List.getElem?_zip_eq_some]
  constructor
  · rintro ⟨n, m, ⟨k, ho, hn⟩, hne, rfl⟩
    exact ⟨k, n, ho, hne, hn⟩
  · rintro ⟨k, n, ho, hne, hn⟩
    exact ⟨n, limit, ⟨k, ho, hn⟩, hne, rfl⟩

/-- Settles O30: each count follows its own rule place by place, and PROTECTION_TRIP the counts that reached their limit. -/
theorem tripCountsJudged : Obligations.TripCountsJudged := by
  intro s c goods exceeds beyond t
  have hover : t.env.overCount
      = nextOverCount (goods.contains 0) (overLimit s.env.ec s.env.ed s.chain.sense.current) s.env.overCount := rfl
  have hcount : ∀ k, t.env.cellTrips[k]? = s.env.cellTrips[k]?.map (fun n => if k < c.modules then
      nextCellTrip c (goods.contains (k + 1)) (s.chain.modules.getD k ModuleRecord.reset) n else n) :=
    nextCellTrips_getElem? c goods s.chain.modules s.env.cellTrips
  have hbeyond : ∀ p, outOfLimits c (s.moduleRecord p) = true ↔ beyond p := fun p => outOfLimits_iff
  refine ⟨fun h0 => ?_, fun h0 hx => ?_, fun h0 hx => ?_, fun p n h1 hp hn => ?_, fun p hp => ?_, ?_, rfl, rfl, rfl⟩
  · simp [hover, nextOverCount, h0]
  · simp [hover, nextOverCount, h0, overLimit_iff.mpr hx]
  · simp [hover, nextOverCount, h0, Bool.eq_false_iff.mpr (overLimit_iff.not.mpr hx)]
  · have hplace : t.env.cellTrips[p - 1]? = some (nextCellTrip c (goods.contains p) (s.moduleRecord p) n) := by
      rw [hcount, hn, Option.map_some, if_pos (by omega), Nat.sub_add_cancel h1, State.moduleRecord]
    refine ⟨fun hg => ?_, fun hg hb => ?_, fun hg hb => ?_⟩ <;> rw [hplace]
    · simp [nextCellTrip, hg]
    · simp [nextCellTrip, hg, (hbeyond p).mpr hb]
    · simp [nextCellTrip, hg, Bool.eq_false_iff.mpr ((hbeyond p).not.mpr hb)]
  · have hout : ¬p - 1 < c.modules := by omega
    simp [hcount, hout]
  · have htrip : t.env.trip = (s.env.trip || reached 3 s.env.cellTrips t.env.cellTrips
        || reached 30 [s.env.overCount] [t.env.overCount]) := rfl
    rw [htrip, Bool.or_eq_true, Bool.or_eq_true, reached_iff, or_assoc]
    refine or_congr Iff.rfl (or_comm.trans (or_congr ?_ Iff.rfl))
    simp [reached]

end Sys2Proof.Machine

namespace Sys2Proof.Machine

open Sys2Proof

/-! ### What the claim, connection and heater operations leave of protection, fire and settings -/

/-- A module record without its balance mask: what the replies and completions of the chain leave of it (R7, R9). -/
def ModuleRecord.unmasked (r : ModuleRecord) : ModuleRecord := { r with mask := [] }

/-- What the queue, the claim lists, the sequencer and the heater never change: the envelope unit, the records but for their
masks, the balance inputs, the peer view, the fire unit but for its census, the settings, and that no restart is pending. -/
structure State.KeepsProtection (s t : State) : Prop where
  env : t.env = s.env
  records : t.chain.modules.map ModuleRecord.unmasked = s.chain.modules.map ModuleRecord.unmasked
  taken : t.balance.taken = s.balance.taken
  peers : t.peers = s.peers
  fire : t.fire = { s.fire with census := t.fire.census }
  svc : t.svc = { s.svc with gatewayCensus := t.svc.gatewayCensus, restart := t.svc.restart }
  restart : s.svc.restart = .none → t.svc.restart = .none

namespace State.KeepsProtection

theorem refl (s : State) : s.KeepsProtection s := ⟨rfl, rfl, rfl, rfl, rfl, rfl, id⟩

theorem trans {s t u : State} (h : s.KeepsProtection t) (k : t.KeepsProtection u) : s.KeepsProtection u where
  env := k.env.trans h.env
  records := k.records.trans h.records
  taken := k.taken.trans h.taken
  peers := k.peers.trans h.peers
  fire := by rw [k.fire, h.fire]
  svc := by rw [k.svc, h.svc]
  restart := k.restart ∘ h.restart

/-- The frame of the queueing operations is one of these, where the pending restart is not touched. -/
theorem of_queueing {s t : State} (h : s.KeepsAllButQueueing t) (hr : s.svc.restart = .none → t.svc.restart = .none) :
    s.KeepsProtection t where
  env := h.env
  records := by rw [h.chain]
  taken := by rw [h.balance]
  peers := h.peers
  fire := by
    obtain ⟨x, hx⟩ := h.fire
    rw [hx]
  svc := by
    obtain ⟨x, y, hx⟩ := h.svc
    rw [hx]
  restart := hr

/-- A change of the claim unit, the thermal controller, the sequencer or the link alone. -/
theorem update (s : State) (c : ClaimUnit) (th : Thermal) (x : Connection) (l : Link) :
    s.KeepsProtection { s with claims := c, thermal := th, conn := x, link := l } := ⟨rfl, rfl, rfl, rfl, rfl, rfl, id⟩

end State.KeepsProtection

/-- The connection states that no forced leave and no signal of the claim unit changes (R139, R144, R145). -/
def latchedState : ConnState → Bool
  | .lockout => true
  | .welded => true
  | .outOfService => true
  | .openRack => false
  | .waitToken => false
  | .precharge => false
  | .closing => false
  | .joined => false
  | .leaving => false
  | .opening => false

/-- No forced leave is taken in a latched state (R140). -/
theorem takesForcedLeave_of_latched {st : ConnState} (h : latchedState st = true) : takesForcedLeave st = false := by
  cases st <;> simp_all [latchedState, takesForcedLeave]

/-- The same, with a latched connection state kept too. -/
structure State.KeepsSafe (s t : State) : Prop extends s.KeepsProtection t where
  conn : latchedState s.conn.state = true → t.conn.state = s.conn.state

namespace State.KeepsSafe

theorem refl (s : State) : s.KeepsSafe s := ⟨.refl s, fun _ => rfl⟩

theorem trans {s t u : State} (h : s.KeepsSafe t) (k : t.KeepsSafe u) : s.KeepsSafe u where
  toKeepsProtection := h.toKeepsProtection.trans k.toKeepsProtection
  conn := fun hl => (k.conn (by rwa [h.conn hl])).trans (h.conn hl)

/-- An operation that keeps the connection state itself. -/
theorem of_state {s t : State} (h : s.KeepsProtection t) (hs : t.conn.state = s.conn.state) : s.KeepsSafe t :=
  ⟨h, fun _ => hs⟩

/-- An operation that runs in states which are not latched alone. -/
theorem of_unlatched {s t : State} (h : s.KeepsProtection t) (hs : latchedState s.conn.state = false) : s.KeepsSafe t :=
  ⟨h, fun hl => absurd hl (by simp [hs])⟩

end State.KeepsSafe

/-- What the queue, the own join claim and the sequencer never change: protection, fire and settings, and besides them the chain
controller, the balance unit and the thermal controller. -/
structure State.KeepsBlocks (s t : State) : Prop extends s.KeepsProtection t where
  chain : t.chain = s.chain
  balance : t.balance = s.balance
  thermal : t.thermal = s.thermal

namespace State.KeepsBlocks

theorem refl (s : State) : s.KeepsBlocks s := ⟨.refl s, rfl, rfl, rfl⟩

theorem trans {s t u : State} (h : s.KeepsBlocks t) (k : t.KeepsBlocks u) : s.KeepsBlocks u where
  toKeepsProtection := h.toKeepsProtection.trans k.toKeepsProtection
  chain := k.chain.trans h.chain
  balance := k.balance.trans h.balance
  thermal := k.thermal.trans h.thermal

/-- A change of the claim unit, the sequencer or the link alone. -/
theorem update (s : State) (c : ClaimUnit) (x : Connection) (l : Link) :
    s.KeepsBlocks { s with claims := c, conn := x, link := l } := ⟨.update s _ _ _ _, rfl, rfl, rfl⟩

end State.KeepsBlocks

/-- The same, with the connection state kept too: what the queue and the own join claim never change. -/
structure State.KeepsConnState (s t : State) : Prop extends s.KeepsBlocks t where
  state : t.conn.state = s.conn.state

namespace State.KeepsConnState

theorem refl (s : State) : s.KeepsConnState s := ⟨.refl s, rfl⟩

theorem trans {s t u : State} (h : s.KeepsConnState t) (k : t.KeepsConnState u) : s.KeepsConnState u :=
  ⟨h.toKeepsBlocks.trans k.toKeepsBlocks, k.state.trans h.state⟩

theorem safe {s t : State} (h : s.KeepsConnState t) : s.KeepsSafe t := .of_state h.toKeepsProtection h.state

/-- A change of the claim unit alone. -/
theorem setClaims (s : State) (c : ClaimUnit) : s.KeepsConnState { s with claims := c } := ⟨.update s _ _ _, rfl⟩

/-- A change of the link alone. -/
theorem setLink (s : State) (l : Link) : s.KeepsConnState { s with link := l } := ⟨.update s _ _ _, rfl⟩

end State.KeepsConnState

/-! ### The queue, the restart, the balance set -/

/-- With no restart pending, none becomes due at the report of a loss (R181). -/
theorem State.reportLoss_restart {s : State} (e : Entry) (h : s.svc.restart = .none) :
    (s.reportLoss e).svc.restart = .none := by
  have hdue : s.dueRestart = s := if_neg (by simp [h])
  unfold State.reportLoss
  split
  · split <;> exact h
  · split
    case _ => exact h
    case _ => split <;> exact h
    all_goals exact h
  · split
    case _ => rw [hdue]; exact h
    all_goals exact h
  · exact h
  · exact h

/-- With no restart pending, none becomes due as a frame is handed over (R163, R181). -/
theorem State.enqueue_restart {s : State} (e : Entry) (h : s.svc.restart = .none) : (s.enqueue e).svc.restart = .none := by
  unfold State.enqueue
  split
  · exact h
  · split
    · exact State.reportLoss_restart e h
    · split
      · exact State.reportLoss_restart _ h
      · exact State.reportLoss_restart e h

/-- The frame of the queueing operations is one of these, where the pending restart is not touched. -/
theorem State.KeepsConnState.of_queueing {s t : State} (h : s.KeepsAllButQueueing t)
    (hr : s.svc.restart = .none → t.svc.restart = .none) : s.KeepsConnState t where
  toKeepsProtection := .of_queueing h hr
  chain := h.chain
  balance := h.balance
  thermal := h.thermal
  state := by
    obtain ⟨x, hx⟩ := h.conn
    rw [hx]

theorem State.enqueue_connState (s : State) (e : Entry) : s.KeepsConnState (s.enqueue e) :=
  .of_queueing (s.enqueue_keeps e) (State.enqueue_restart e)

theorem State.enqueue_safe (s : State) (e : Entry) : s.KeepsSafe (s.enqueue e) := (s.enqueue_connState e).safe

theorem State.cancelRestart_connState (s : State) : s.KeepsConnState s.cancelRestart := by
  rcases cancelRestart_cases s with h | ⟨_, _, h⟩ <;> rw [h]
  · exact .refl s
  · exact ⟨⟨⟨rfl, rfl, rfl, rfl, rfl, rfl, fun _ => rfl⟩, rfl, rfl, rfl⟩, rfl⟩

theorem State.setConn_blocks (s : State) (st : ConnState) : s.KeepsBlocks (s.setConn st) :=
  .trans (.update s _ _ _) (State.cancelRestart_connState _).toKeepsBlocks

/-- The connection state after its change. -/
theorem State.setConn_state (s : State) (st : ConnState) : (s.setConn st).conn.state = st := by
  rcases cancelRestart_cases { s with conn := { s.conn with state := st } } with h | ⟨_, _, h⟩ <;>
    rw [State.setConn, h]

/-- Writing the masks leaves the rest of every record (R44). -/
theorem map_unmasked_writeMasks (members : List (Nat × Nat)) (records : List ModuleRecord) :
    (writeMasks members records).map ModuleRecord.unmasked = records.map ModuleRecord.unmasked := by
  refine List.ext_getElem? fun k => ?_
  rw [List.getElem?_map, List.getElem?_map]
  cases hk : records[k]? with
  | none => simp [writeMasks, List.getElem?_zipIdx, hk]
  | some r => rw [writeMasks_records members records k r hk]; rfl

theorem State.setMembers_safe (s : State) (m : List (Nat × Nat)) : s.KeepsSafe (s.setMembers m) := by
  unfold State.setMembers
  split
  · exact .refl s
  · exact .of_state ⟨rfl, map_unmasked_writeMasks _ _, rfl, rfl, rfl, rfl, id⟩ rfl

theorem State.emptyBalance_safe (s : State) : s.KeepsSafe s.emptyBalance := s.setMembers_safe []

/-! ### The own join claim and the sequencer -/

theorem State.queueJoinDone_connState (s : State) (r : JoinResult) : s.KeepsConnState (s.queueJoinDone r) :=
  .trans (.setClaims s _) (State.enqueue_connState _ _)

theorem State.joinClaim_connState (s : State) : s.KeepsConnState s.joinClaim := by
  unfold State.joinClaim
  split
  · split
    · exact .trans (.setClaims s _) (State.enqueue_connState _ _)
    · exact .setClaims s _
    · exact .refl s
    · exact .setClaims s _
  · exact .refl s

theorem State.joinRelease_connState (s : State) (r : JoinResult) : s.KeepsConnState (s.joinRelease r) := by
  unfold State.joinRelease
  split
  · exact .refl s
  · exact .setClaims s _
  · exact s.queueJoinDone_connState r
  · exact .setClaims s _

theorem State.syncToken_connState (s : State) : s.KeepsConnState s.syncToken := .setClaims s _

theorem State.seqRelease_connState (s : State) (r : JoinResult) : s.KeepsConnState (s.seqRelease r) :=
  (s.joinRelease_connState r).trans (State.syncToken_connState _)

theorem State.abandonCheck_connState (s : State) : s.KeepsConnState s.abandonCheck :=
  ⟨.update s _ _ _, rfl⟩

theorem State.setWindow_connState (s : State) (w : Option WindowUse) : s.KeepsConnState (s.setWindow w) :=
  ⟨.update s _ _ _, rfl⟩

/-- A change of the sequencer, with a change of its state behind it. -/
theorem State.KeepsBlocks.setConn (s : State) (x : Connection) (st : ConnState) :
    s.KeepsBlocks (({ s with conn := x } : State).setConn st) :=
  .trans (.update s _ _ _) (State.setConn_blocks _ st)

theorem State.enterWelded_blocks (s : State) : s.KeepsBlocks s.enterWelded := .setConn s _ _

theorem State.finishOpening_blocks (s : State) : s.KeepsBlocks s.finishOpening := .setConn s _ _

theorem State.enterOpening_blocks (s : State) (d : ConnState) : s.KeepsBlocks (s.enterOpening d) := by
  unfold State.enterOpening
  dsimp only
  split
  · exact .trans (.setConn s _ _) (State.finishOpening_blocks _)
  · exact .setConn s _ _

theorem State.leaveWaitToken_blocks (s : State) (st : ConnState) : s.KeepsBlocks (s.leaveWaitToken st) :=
  s.abandonCheck_connState.toKeepsBlocks.trans (State.setConn_blocks _ _)

theorem State.forcedLeave_blocks (s : State) : s.KeepsBlocks s.forcedLeave := by
  have opened : ∀ d, s.KeepsBlocks ((s.enterOpening d).seqRelease .failed) := fun d =>
    (s.enterOpening_blocks d).trans (State.seqRelease_connState _ _).toKeepsBlocks
  unfold State.forcedLeave
  split
  case h_1 | h_2 | h_3 | h_4 => exact opened _
  case h_5 => exact (s.leaveWaitToken_blocks _).trans (State.seqRelease_connState _ _).toKeepsBlocks
  all_goals exact .refl s

/-- A latched connection state takes no forced leave (R140). -/
theorem State.forcedLeave_safe (s : State) : s.KeepsSafe s.forcedLeave where
  toKeepsProtection := s.forcedLeave_blocks.toKeepsProtection
  conn := fun h => by rw [forcedLeave_of_not_taken (takesForcedLeave_of_latched h)]

theorem State.reviewForced_blocks (s : State) : s.KeepsBlocks s.reviewForced := by
  unfold State.reviewForced
  split
  · exact s.forcedLeave_blocks
  · exact .refl s

theorem State.reviewForced_safe (s : State) : s.KeepsSafe s.reviewForced := by
  unfold State.reviewForced
  split
  · exact s.forcedLeave_safe
  · exact .refl s

theorem State.prechargeFailure_blocks (s : State) : s.KeepsBlocks s.prechargeFailure := by
  unfold State.prechargeFailure
  exact .trans (.trans (.update s _ _ _) (State.enterOpening_blocks _ _))
    (State.seqRelease_connState _ _).toKeepsBlocks

theorem State.enterJoined_blocks (s : State) : s.KeepsBlocks s.enterJoined := by
  unfold State.enterJoined
  exact .trans (.setConn s _ _) (State.seqRelease_connState _ _).toKeepsBlocks

theorem State.enterClosing_blocks (s : State) : s.KeepsBlocks s.enterClosing := by
  unfold State.enterClosing
  dsimp only
  split
  · exact .trans (.setConn s _ _) (State.enterJoined_blocks _)
  · exact .setConn s _ _

theorem State.enterPrecharge_blocks (s : State) : s.KeepsBlocks s.enterPrecharge := by
  unfold State.enterPrecharge
  dsimp only
  split
  · exact .trans (.setConn s _ _) (State.setWindow_connState _ _).toKeepsBlocks
  · exact .setConn s _ _

theorem State.finishLeave_blocks (s : State) : s.KeepsBlocks s.finishLeave := .setConn s _ _

theorem State.leaveStep3_blocks (s : State) : s.KeepsBlocks s.leaveStep3 := by
  unfold State.leaveStep3
  dsimp only
  split
  · exact .trans (.update s _ _ _) (State.finishLeave_blocks _)
  · exact .update s _ _ _

theorem State.leaveStep2_blocks (s : State) : s.KeepsBlocks s.leaveStep2 := by
  unfold State.leaveStep2
  dsimp only
  split
  · exact .trans (.update s _ _ _) (State.leaveStep3_blocks _)
  · exact .update s _ _ _

theorem State.enterLeaving_blocks (s : State) (c : ConfigSet) : s.KeepsBlocks (s.enterLeaving c) := by
  unfold State.enterLeaving
  dsimp only
  split
  · exact .trans (.setConn s _ _) (State.leaveStep2_blocks _)
  · exact .setConn s _ _

theorem State.windowSuccess_blocks (s : State) (w : WindowUse) : s.KeepsBlocks (s.windowSuccess w) := by
  cases w with
  | proving => exact .update s _ _ _
  | negClose => exact (s.setWindow_connState _).toKeepsBlocks
  | posClose => exact s.enterJoined_blocks
  | opening => exact s.finishOpening_blocks
  | leavePos => exact s.leaveStep3_blocks
  | leaveNeg => exact s.finishLeave_blocks

theorem State.windowFailure_blocks (s : State) (w : WindowUse) : s.KeepsBlocks (s.windowFailure w) := by
  cases w with
  | proving => exact .trans (.update s _ _ _) (State.enterWelded_blocks _)
  | negClose => exact s.prechargeFailure_blocks
  | posClose => exact s.prechargeFailure_blocks
  | opening => exact .trans (.update s _ _ _) (State.enterWelded_blocks _)
  | leavePos => exact s.enterWelded_blocks
  | leaveNeg => exact s.enterWelded_blocks

theorem State.testWindow_blocks (s : State) : s.KeepsBlocks s.testWindow := by
  unfold State.testWindow
  split
  · exact .refl s
  · split
    · exact s.windowSuccess_blocks _
    · exact .refl s

/-! ### The token -/

/-- The loss of the token acts in PRECHARGE, CLOSING and WAIT_TOKEN alone (R132, R135, R136). -/
theorem State.tokenLost_safe (s : State) (g : Bool) : s.KeepsSafe (s.tokenLost g) := by
  unfold State.tokenLost
  dsimp only
  split
  · next h =>
    have hun : latchedState s.syncToken.conn.state = false := by rcases h with h | h <;> rw [h] <;> rfl
    refine s.syncToken_connState.safe.trans ?_
    split
    · exact .of_unlatched (State.prechargeFailure_blocks _).toKeepsProtection hun
    · exact State.forcedLeave_safe _
  · split
    · exact s.syncToken_connState.safe.trans (State.abandonCheck_connState _).safe
    · exact s.syncToken_connState.safe

theorem State.joinReleaseByOther_safe (s : State) (g : Bool) : s.KeepsSafe (s.joinReleaseByOther g) := by
  unfold State.joinReleaseByOther
  dsimp only
  refine (s.joinRelease_connState .failed).safe.trans ?_
  split
  · next h =>
    split
    · exact .refl _
    · exact .trans (.of_unlatched (State.leaveWaitToken_blocks _ _).toKeepsProtection (by rw [h]; rfl))
        (State.syncToken_connState _).safe
  · split
    · exact State.tokenLost_safe _ _
    · exact .refl _

theorem State.startCheck_safe (s : State) : s.KeepsSafe s.startCheck :=
  .trans (t := { s with conn := { s.conn with check := .callPending false } }) (.of_state (.update s _ _ _ _) rfl)
    (State.enqueue_safe _ _)

theorem State.signalToken_safe (s : State) : s.KeepsSafe s.signalToken := by
  unfold State.signalToken
  split
  · exact .refl s
  · split
    · split
      · exact s.syncToken_connState.safe.trans (State.startCheck_safe _)
      · exact s.syncToken_connState.safe
    · exact s.tokenLost_safe false

theorem State.changeJoin_safe (s : State) (f : List Nat → List Nat) : s.KeepsSafe (s.changeJoin f) :=
  .trans (State.KeepsConnState.setClaims s _).safe (State.signalToken_safe _)

/-! ### The heater -/

/-- A change of the claim unit and the thermal controller alone. -/
theorem State.KeepsSafe.setHeater (s : State) (c : ClaimUnit) (th : Thermal) :
    s.KeepsSafe { s with claims := c, thermal := th } :=
  .of_state ⟨rfl, rfl, rfl, rfl, rfl, rfl, id⟩ rfl

theorem State.setThermal_safe (s : State) (st : ThermalState) : s.KeepsSafe (s.setThermal st) := .setHeater s _ _

theorem State.slotSignal_safe (s : State) : s.KeepsSafe s.slotSignal := by
  unfold State.slotSignal
  split
  · exact .refl s
  · split <;> dsimp only <;> split <;> exact .setHeater s _ _

theorem State.rotate_safe (s : State) : s.KeepsSafe s.rotate :=
  .trans (State.KeepsConnState.setClaims s _).safe (State.enqueue_safe _ _)

theorem State.evalSlot_safe (s : State) : s.KeepsSafe s.evalSlot := by
  unfold State.evalSlot
  split
  · exact (s.slotSignal_safe.trans (State.rotate_safe _)).trans (State.slotSignal_safe _)
  · exact s.slotSignal_safe

theorem State.changeHeat_safe (s : State) (f : List Nat → List Nat) : s.KeepsSafe (s.changeHeat f) :=
  .trans (State.KeepsConnState.setClaims s _).safe (State.evalSlot_safe _)

theorem State.setLimit_safe (s : State) (l : Nat) : s.KeepsSafe (s.setLimit l) :=
  .trans (State.KeepsConnState.setClaims s _).safe (State.evalSlot_safe _)

theorem State.heatClaim_safe (s : State) : s.KeepsSafe s.heatClaim := by
  unfold State.heatClaim
  split
  · split
    · exact .trans (State.KeepsConnState.setClaims s _).safe (State.enqueue_safe _ _)
    · exact (State.KeepsConnState.setClaims s _).safe
    · exact .refl s
    · exact (State.KeepsConnState.setClaims s _).safe
  · exact .refl s

theorem State.heatRelease_safe (s : State) : s.KeepsSafe s.heatRelease := by
  unfold State.heatRelease
  split
  · exact .refl s
  · exact (State.KeepsConnState.setClaims s _).safe
  · exact .trans (.trans (State.KeepsConnState.setClaims s _).safe (State.enqueue_safe _ _)) (State.evalSlot_safe _)
  · exact (State.KeepsConnState.setClaims s _).safe

theorem State.setDegraded_safe (s : State) (b : Bool) : s.KeepsSafe (s.setDegraded b) := .setHeater s _ _

theorem State.judgeSoak_safe (s : State) : s.KeepsSafe s.judgeSoak := by
  unfold State.judgeSoak
  split
  · exact .setHeater s _ _
  · exact .refl s

theorem State.judgeRecovery_safe (s : State) : s.KeepsSafe s.judgeRecovery := by
  unfold State.judgeRecovery
  split
  · exact .setHeater s _ _
  · exact .refl s

theorem State.setLevel_safe (s : State) (k : Nat) : s.KeepsSafe (s.setLevel k) := by
  unfold State.setLevel
  dsimp only
  split
  · exact .refl s
  · refine .trans ?_ (State.judgeSoak_safe _)
    split
    · exact .trans (.setHeater s _ _) (State.emptyBalance_safe _)
    · exact .setHeater s _ _

theorem State.beginDemand_safe (s : State) : s.KeepsSafe s.beginDemand :=
  .trans (.setHeater s _ _) (State.heatClaim_safe _)

theorem State.endDemand_safe (s : State) : s.KeepsSafe s.endDemand := by
  unfold State.endDemand
  split
  · exact .trans (.setHeater s _ _) (State.heatRelease_safe _)
  · exact .refl s

theorem State.enterInhibited_safe (s : State) : s.KeepsSafe s.enterInhibited :=
  (s.endDemand_safe.trans (State.setThermal_safe _ _)).trans (State.setLevel_safe _ _)

theorem State.leaveInhibited_safe (s : State) : s.KeepsSafe s.leaveInhibited := by
  unfold State.leaveInhibited
  split
  · exact .refl s
  · next c _ =>
    have begun : ∀ (t : State) (k : Nat), t.KeepsSafe (if t.demandBegins c k then t.beginDemand else t) := fun t k => by
      split
      · exact t.beginDemand_safe
      · exact .refl t
    exact ((s.setLevel_safe _).trans (State.setThermal_safe _ _)).trans (begun _ _)

theorem State.thermalReview_safe (s : State) : s.KeepsSafe s.thermalReview := by
  unfold State.thermalReview
  split
  · exact .refl s
  · split
    · split
      · exact s.setLevel_safe _
      · exact s.enterInhibited_safe
    · split
      · exact s.leaveInhibited_safe
      · exact .refl s

theorem State.completionCooling_safe (s : State) (k : Nat) : s.KeepsSafe (s.completionCooling k) :=
  (s.endDemand_safe.trans (State.setThermal_safe _ _)).trans (State.setLevel_safe _ _)

theorem State.completionHeating_safe (s : State) (c : ConfigSet) : s.KeepsSafe (s.completionHeating c) := by
  unfold State.completionHeating
  refine .trans (s.setLevel_safe 0) ?_
  dsimp only
  split
  · split
    · exact (State.endDemand_safe _).trans (State.setThermal_safe _ _)
    · exact State.heatClaim_safe _
  · split
    · exact State.beginDemand_safe _
    · exact State.setThermal_safe _ _

theorem State.thermalCompletion_safe (s : State) (c : ConfigSet) : s.KeepsSafe (s.thermalCompletion c) := by
  have level : s.takeInlet.KeepsSafe (s.takeInlet.completionLevel c) := by
    unfold State.completionLevel
    split
    · exact .refl _
    · split
      · exact State.completionHeating_safe _ c
      · exact State.completionCooling_safe _ _
  exact .trans (.trans (.trans (.setHeater s _ _) level) (State.judgeSoak_safe _)) (State.judgeRecovery_safe _)

/-! ### The sequencer at a completion and the end of a command -/

theorem State.judgeClaim_blocks (s : State) (c : ConfigSet) : s.KeepsBlocks (s.judgeClaim c) := by
  unfold State.judgeClaim
  split
  · split
    · exact .trans (.setConn s _ _) (State.joinClaim_connState _).toKeepsBlocks
    · exact .update s _ _ _
  · exact .refl s

theorem State.sequencerCompletion_blocks (s : State) (c : ConfigSet) (good0 : Bool) :
    s.KeepsBlocks (s.sequencerCompletion c good0) := by
  unfold State.sequencerCompletion
  split
  · exact s.judgeClaim_blocks c
  · split
    · exact s.enterClosing_blocks
    · exact .refl s
  · split
    · exact s.leaveStep2_blocks
    · exact .refl s
  all_goals exact .refl s

/-- A completion moves the sequencer in OPEN, PRECHARGE and LEAVING alone (R129, R135, R143). -/
theorem State.sequencerCompletion_safe (s : State) (c : ConfigSet) (good0 : Bool) :
    s.KeepsSafe (s.sequencerCompletion c good0) where
  toKeepsProtection := (s.sequencerCompletion_blocks c good0).toKeepsProtection
  conn := fun hl => by
    unfold State.sequencerCompletion
    cases hs : s.conn.state <;> simp_all [latchedState]

end Sys2Proof.Machine

namespace Sys2Proof.Machine

open Sys2Proof

/-! ### The latched values -/

/-- What stays as it is until the command that clears it. `restart` stands for no restart being pending. -/
inductive Latch where
  | trip | lockout | welded | outOfService | alarm | released | containerFire | runaway | settings | configFault | safe
  | duplicateId | pair | restart

/-- A latched value of one state is still latched in another; the two values of the pair have not risen. -/
def Latch.kept (s t : State) : Latch → Prop
  | .trip => s.env.trip = true → t.env.trip = true
  | .lockout => s.conn.state = .lockout → t.conn.state = .lockout
  | .welded => s.conn.state = .welded → t.conn.state = .welded
  | .outOfService => s.conn.state = .outOfService → t.conn.state = .outOfService
  | .alarm => fireAlarmed s.fire.state = true → fireAlarmed t.fire.state = true
  | .released => s.fire.state = .released → t.fire.state = .released
  | .containerFire => s.peers.containerFire = true → t.peers.containerFire = true
  | .runaway => s.env.latch = true → t.env.latch = true
  | .settings => s.svc.mode ≠ .loading → t.svc.mode ≠ .loading ∧ t.svc.config = s.svc.config
  | .configFault => s.svc.mode = .configFault → t.svc.mode = .configFault
  | .safe => s.svc.mode = .safe → t.svc.mode = .safe
  | .duplicateId => s.svc.duplicateId = true → t.svc.duplicateId = true
  | .pair => t.env.ec ≤ s.env.ec ∧ t.env.ed ≤ s.env.ed
  | .restart => s.svc.restart = .none → t.svc.restart = .none

/-- Every latch but the listed ones is kept. -/
def State.KeepsLatches (s t : State) (cleared : List Latch) : Prop := ∀ l, l ∉ cleared → l.kept s t

namespace State.KeepsLatches

theorem refl (s : State) {e : List Latch} : s.KeepsLatches s e := by
  intro l _
  cases l <;> simp +contextual [Latch.kept]

theorem trans {s t u : State} {e : List Latch} (h : s.KeepsLatches t e) (k : t.KeepsLatches u e) : s.KeepsLatches u e := by
  intro l hl
  have hst := h l hl
  have htu := k l hl
  cases l
  case settings => exact fun hm => ⟨(htu (hst hm).1).1, (htu (hst hm).1).2.trans (hst hm).2⟩
  case pair => exact ⟨htu.1.trans hst.1, htu.2.trans hst.2⟩
  all_goals exact fun hs => htu (hst hs)

/-- What keeps every latch keeps all but any. -/
theorem allow {s t : State} {e : List Latch} (h : s.KeepsLatches t []) : s.KeepsLatches t e :=
  fun l _ => h l List.not_mem_nil

/-- An operation outside protection, fire and settings clears at most the latched connection states. -/
theorem of_protection {s t : State} (h : s.KeepsProtection t) : s.KeepsLatches t [.lockout, .welded, .outOfService] := by
  intro l hl
  cases l
  case lockout | welded | outOfService => simp at hl
  case restart => exact h.restart
  case alarm | released => rw [Latch.kept, h.fire]; exact id
  case containerFire => rw [Latch.kept, h.peers]; exact id
  case trip | runaway => rw [Latch.kept, h.env]; exact id
  case pair => rw [Latch.kept, h.env]; exact ⟨le_rfl, le_rfl⟩
  case settings => rw [Latch.kept, h.svc]; exact fun hm => ⟨hm, rfl⟩
  case configFault | safe | duplicateId => rw [Latch.kept, h.svc]; exact id

/-- What clears at most the latched connection states clears nothing from another connection state. -/
theorem of_unlatched {s t : State} {e : List Latch} (h : s.KeepsLatches t [.lockout, .welded, .outOfService])
    (hs : latchedState s.conn.state = false) : s.KeepsLatches t e := by
  intro l _
  cases l
  case lockout | welded | outOfService => intro hl; simp [hl, latchedState] at hs
  all_goals exact h _ (by simp)

/-- The operations of the queue, the claim lists, the sequencer and the heater clear nothing. -/
theorem of_safe {s t : State} {e : List Latch} (h : s.KeepsSafe t) : s.KeepsLatches t e := by
  intro l _
  cases l
  case lockout | welded | outOfService => intro hs; rw [h.conn (by rw [hs]; rfl)]; exact hs
  all_goals exact of_protection h.toKeepsProtection _ (by simp)

/-- A change of the input lines, the fire unit but for its state, the reception and the like clears nothing. -/
theorem of_same {s t : State} {e : List Latch} (henv : t.env = s.env) (hconn : t.conn.state = s.conn.state)
    (hfire : t.fire.state = s.fire.state) (hpeers : t.peers.containerFire = s.peers.containerFire)
    (hmode : t.svc.mode = s.svc.mode) (hconfig : t.svc.config = s.svc.config)
    (hdup : t.svc.duplicateId = s.svc.duplicateId) (hrestart : t.svc.restart = s.svc.restart) : s.KeepsLatches t e := by
  intro l _
  cases l <;>
    simp +contextual [Latch.kept, henv, hconn, hfire, hpeers, hmode, hconfig, hdup, hrestart]

/-- What clears at most the fire latches clears nothing while the fire state is below ALARM. -/
theorem of_unalarmed {s t : State} {e : List Latch} (h : s.KeepsLatches t [.alarm, .released])
    (hs : fireAlarmed s.fire.state = false) : s.KeepsLatches t e := by
  intro l _
  cases l
  case alarm => exact fun ha => absurd ha (by simp [hs])
  case released => intro hr; simp [hr, fireAlarmed] at hs
  all_goals exact h _ (by simp)

end State.KeepsLatches

/-! ### The fire state -/

/-- A change of the fire unit that leaves its state. -/
theorem State.KeepsLatches.setFireUnit (s : State) {f : FireUnit} {e : List Latch} (h : f.state = s.fire.state) :
    s.KeepsLatches { s with fire := f } e := .of_same rfl rfl h rfl rfl rfl rfl rfl

theorem State.setCountdown_latches (s : State) (x : Timer) {e : List Latch} : s.KeepsLatches (s.setCountdown x) e :=
  .setFireUnit s rfl

theorem State.setRepeat_latches (s : State) (x : Timer) {e : List Latch} : s.KeepsLatches (s.setRepeat x) e :=
  .setFireUnit s rfl

theorem State.setFireLines_latches (s : State) (r f t : Bool) {e : List Latch} :
    s.KeepsLatches (s.setFireLines r f t) e := .setFireUnit s rfl

/-- A change of the fire state clears at most the fire latches. -/
theorem State.setFire_latches (s : State) (st : FireState) : s.KeepsLatches (s.setFire st) [.alarm, .released] := by
  refine .trans (t := { s with fire := { s.fire with state := st } }) ?_ (.of_safe (State.cancelRestart_connState _).safe)
  intro l hl
  cases l
  case alarm | released => simp at hl
  all_goals simp +contextual [Latch.kept]

/-- The fire state after its change. -/
theorem State.setFire_state (s : State) (st : FireState) : (s.setFire st).fire.state = st := by
  rw [State.setFire, (State.cancelRestart_connState _).fire]

/-- A change of the fire state to ALARM or later, and out of RELEASED to itself alone, clears nothing. -/
theorem State.setFire_latches_of_alarmed {s : State} {st : FireState} {e : List Latch} (ha : fireAlarmed st = true)
    (hr : s.fire.state = .released → st = .released) : s.KeepsLatches (s.setFire st) e := by
  intro l _
  cases l
  case alarm => intro; rw [s.setFire_state]; exact ha
  case released => intro hs; rw [s.setFire_state]; exact hr hs
  all_goals exact s.setFire_latches st _ (by simp)

theorem State.enterReleased_latches (s : State) {e : List Latch} : s.KeepsLatches s.enterReleased e := by
  unfold State.enterReleased
  exact .trans (.trans (.trans (State.setFire_latches_of_alarmed rfl fun _ => rfl) (State.setCountdown_latches _ _))
    (State.setFireLines_latches _ _ _ _)) (.of_safe (State.enqueue_safe _ _))

theorem State.enterReleaseDelay_latches {s : State} {e : List Latch} (h : s.fire.state ≠ .released) :
    s.KeepsLatches s.enterReleaseDelay e := by
  unfold State.enterReleaseDelay
  split
  · exact .trans (State.setFire_latches_of_alarmed rfl fun hr => absurd hr h) (State.setCountdown_latches _ _)
  · split
    · exact s.enterReleased_latches
    · exact .trans (State.setFire_latches_of_alarmed rfl fun hr => absurd hr h) (State.setCountdown_latches _ _)

/-- The inhibit moves the fire state among ALARM and its countdown states, and to RELEASED (R116). -/
theorem State.reviewInhibit_latches (s : State) {e : List Latch} : s.KeepsLatches s.reviewInhibit e := by
  have back : s.fire.state ≠ .released → s.KeepsLatches ((s.setFire .alarm).setCountdown none) e := fun h =>
    .trans (State.setFire_latches_of_alarmed rfl fun hr => absurd hr h) (State.setCountdown_latches _ _)
  unfold State.reviewInhibit
  split
  · next h =>
    split
    · exact .refl s
    · exact State.enterReleaseDelay_latches (by simp [h])
  · next h =>
    split
    · exact back (by simp [h])
    · exact .refl s
  · next h =>
    split
    · exact back (by simp [h])
    · exact .refl s
  all_goals exact .refl s

/-! ### The container fire flag and SAFE -/

/-- The end of the fire drops and of the SAFE drops: both own claims released and the thermal controller reviewed. -/
theorem State.released_safe (s : State) : s.KeepsSafe ((s.emptyBalance.joinReleaseByOther false).heatRelease).thermalReview :=
  ((s.emptyBalance_safe.trans (State.joinReleaseByOther_safe _ _)).trans (State.heatRelease_safe _)).trans
    (State.thermalReview_safe _)

/-- The drop of the pair lowers it (R41). -/
theorem State.zeroPair_latches (s : State) {e : List Latch} : s.KeepsLatches s.zeroPair e := by
  intro l _
  cases l <;> simp +contextual [Latch.kept]

theorem State.setContainerFire_latches (s : State) {e : List Latch} : s.KeepsLatches s.setContainerFire e := by
  unfold State.setContainerFire
  split
  · exact .refl s
  · refine .trans (.trans (t := { s with peers := { s.peers with containerFire := true } }) ?_
      (State.zeroPair_latches _)) (.of_safe (State.released_safe _))
    intro l _
    cases l <;> simp +contextual [Latch.kept]

theorem State.evaluateContainerFire_latches (s : State) : s.KeepsLatches s.evaluateContainerFire [.containerFire] := by
  unfold State.evaluateContainerFire
  split
  · refine .trans (t := { s with peers := { s.peers with containerFire := false } }) ?_
      (.of_safe (State.thermalReview_safe _))
    intro l hl
    cases l
    case containerFire => simp at hl
    all_goals simp +contextual [Latch.kept]
  · exact .refl s

theorem State.queueCall_latches (s : State) {e : List Latch} : s.KeepsLatches s.queueCall e := by
  unfold State.queueCall
  split
  · exact .refl s
  · exact .trans (t := { s with fire := { s.fire with census := .callPending } }) (.setFireUnit s rfl)
      (.of_safe (State.enqueue_safe _ _))

/-- Entry to ALARM from below it (R114, R115). -/
theorem State.enterAlarm_latches {s : State} {e : List Latch} (h : fireAlarmed s.fire.state = false) :
    s.KeepsLatches s.enterAlarm e := by
  have hr : s.fire.state ≠ .released := fun hs => by simp [hs, fireAlarmed] at h
  have alarmed : s.KeepsLatches ((s.setRepeat none).setFire .alarm) e :=
    .trans (s.setRepeat_latches _) (State.setFire_latches_of_alarmed rfl fun hs => absurd hs hr)
  have lines : ∀ t : State, t.KeepsLatches ((t.enqueue t.fireNotice).setFireLines false true true) e := fun t =>
    .trans (.of_safe (t.enqueue_safe _)) (State.setFireLines_latches _ _ _ _)
  have dropped : ∀ t : State, t.KeepsLatches ((t.setContainerFire.zeroPair).emptyBalance).thermalReview e := fun t =>
    .trans (t.setContainerFire_latches.trans (State.zeroPair_latches _))
      (.of_safe ((State.emptyBalance_safe _).trans (State.thermalReview_safe _)))
  exact ((alarmed.trans (lines _)).trans (dropped _)).trans (State.reviewInhibit_latches _)

theorem State.enterPreAlarm_latches {s : State} {e : List Latch} (h : fireAlarmed s.fire.state = false) :
    s.KeepsLatches s.enterPreAlarm e := by
  unfold State.enterPreAlarm
  exact .of_unalarmed (.trans (.trans ((s.setFire_latches _).trans (.of_safe (State.emptyBalance_safe _)))
    (.trans (.of_safe (State.enqueue_safe _ _)) (State.setRepeat_latches _ _))) (State.queueCall_latches _)) h

theorem State.returnToNormal_latches {s : State} {e : List Latch} (h : fireAlarmed s.fire.state = false) :
    s.KeepsLatches s.returnToNormal e := by
  unfold State.returnToNormal
  exact .of_unalarmed (.trans (.trans (s.setRepeat_latches _) (State.setFire_latches _ _))
    (.of_safe (State.enqueue_safe _ _))) h

theorem State.judgeSources_latches (s : State) (x : Sources) {e : List Latch} : s.KeepsLatches (s.judgeSources x) e := by
  unfold State.judgeSources
  split
  · next h =>
    have hbelow : fireAlarmed s.fire.state = false := by rw [h]; rfl
    split
    · split
      · exact State.enterAlarm_latches hbelow
      · exact State.enterPreAlarm_latches hbelow
    · exact .refl s
  · next h =>
    have hbelow : fireAlarmed s.fire.state = false := by rw [h]; rfl
    split
    · exact State.enterAlarm_latches hbelow
    · split
      · exact State.returnToNormal_latches hbelow
      · exact .refl s
  all_goals exact .refl s

theorem State.reviewZoneKey_latches (s : State) {e : List Latch} : s.KeepsLatches s.reviewZoneKey e := by
  unfold State.reviewZoneKey
  split
  · exact .refl s
  · exact .trans (t := { s with peers := { s.peers with zoneKey := s.zoneKeyNow } })
      (.of_same rfl rfl rfl rfl rfl rfl rfl rfl) (State.reviewInhibit_latches _)

/-- SAFE is entered from LISTENING and ACTIVE (R177). -/
theorem State.enterSafe_latches {s : State} {e : List Latch} (h : s.svc.mode = .listening ∨ s.svc.mode = .active) :
    s.KeepsLatches s.enterSafe e := by
  refine .trans (.trans (t := { s with svc := { s.svc with mode := .safe, apCount := 0 } }) ?_ (State.zeroPair_latches _))
    (.of_safe (State.released_safe _))
  intro l _
  cases l
  case configFault => intro hm; simp [hm] at h
  all_goals simp +contextual [Latch.kept]

theorem State.setDuplicateId_latches (s : State) {e : List Latch} : s.KeepsLatches s.setDuplicateId e := by
  have flagged : s.KeepsLatches { s with svc := { s.svc with duplicateId := true } } e := by
    intro l _
    cases l <;> simp +contextual [Latch.kept]
  unfold State.setDuplicateId
  dsimp only
  split
  · next h => exact flagged.trans (State.enterSafe_latches h)
  · exact flagged

/-! ### The end of a command and the receiver -/

theorem State.settle_latches (s : State) {e : List Latch} : s.KeepsLatches s.settle e :=
  .trans (.of_safe s.reviewForced_safe) (.of_same rfl rfl rfl rfl rfl rfl rfl rfl)

/-- Where no reset is due, the end of a command is its judgements alone (R181). -/
theorem finish_of_not_due {s : State} (h : s.settle.svc.restart ≠ .due) : s.finish = .next s.settle :=
  congrArg Host.Outcome.next (if_neg h)

/-- With no restart pending, none is due after the judgements. -/
theorem settle_restart_of_none {s : State} (h : s.svc.restart = .none) : s.settle.svc.restart = .none :=
  s.settle_latches (e := []) .restart List.not_mem_nil h

/-- With no restart pending, the end of a command is its judgements alone. -/
theorem finish_of_none {s : State} (h : s.svc.restart = .none) : s.finish = .next s.settle :=
  finish_of_not_due (by simp [settle_restart_of_none h])

/-- What an operation keeps, the command that it is keeps too. -/
theorem latches_of_finish {s u t : State} {e : List Latch} (h : s.KeepsLatches u e) (he : Latch.restart ∉ e)
    (hr : s.svc.restart = .none) (ht : u.finish = .next t) : s.KeepsLatches t e := by
  rw [finish_of_none (h .restart he hr)] at ht
  cases ht
  exact h.trans u.settle_latches

/-- A frame is not heard, or taken up in LOADING and dropped, or handed on (R168, R173). -/
theorem receive_cases (s : State) (act : State → State) :
    s.receive act = s ∨ s.receive act = s.heard ∨ s.receive act = act s.heard := by
  unfold State.receive
  split
  · split
    · exact .inr (.inl rfl)
    · exact .inr (.inr rfl)
  · exact .inl rfl

/-- A SERVICE frame is ignored, or judged on the bytes behind its destination (R170, R178). -/
theorem takeRequest_cases (s : State) (sender : BitVec 5) (payload : List Byte) (act : List Byte → State → State) :
    s.takeRequest sender payload act = s ∨ s.takeRequest sender payload act = s.heard
      ∨ ∃ args, s.takeRequest sender payload act = act args s.heard := by
  unfold State.takeRequest
  cases payload with
  | nil => exact (receive_cases s _).imp id fun h => .inl (h.elim id id)
  | cons dest args =>
    rcases receive_cases s (fun t => if sender = 0 ∧ t.addressed dest = true then act args t else t) with h | h | h
    · exact .inl h
    · exact .inr (.inl h)
    · refine .inr ?_
      dsimp only
      rw [h]
      split
      · exact .inr ⟨args, rfl⟩
      · exact .inl rfl

theorem State.heard_latches (s : State) {e : List Latch} : s.KeepsLatches s.heard e :=
  .of_same rfl rfl rfl rfl rfl rfl rfl rfl

theorem State.receive_latches {s : State} {act : State → State} {e : List Latch}
    (h : ∀ t, State.KeepsLatches t (act t) e) : s.KeepsLatches (s.receive act) e := by
  rcases receive_cases s act with hs | hs | hs <;> rw [hs]
  · exact .refl s
  · exact s.heard_latches
  · exact s.heard_latches.trans (h _)

theorem State.receiveKind_latches {s : State} {act : State → State} {e : List Latch} (payload : List Byte) (n : Nat)
    (h : ∀ t, State.KeepsLatches t (act t) e) : s.KeepsLatches (s.receiveKind payload n act) e :=
  State.receive_latches fun t => by
    split
    · exact h t
    · exact .refl t

theorem State.takeRequest_latches {s : State} {act : List Byte → State → State} {e : List Latch} (sender : BitVec 5)
    (payload : List Byte) (h : ∀ args t, State.KeepsLatches t (act args t) e) :
    s.KeepsLatches (s.takeRequest sender payload act) e := by
  rcases takeRequest_cases s sender payload act with hs | hs | ⟨args, hs⟩ <;> rw [hs]
  · exact .refl s
  · exact s.heard_latches
  · exact s.heard_latches.trans (h args _)

theorem State.reply_latches (s : State) (kind : Byte) (result : ReplyResult) (data : List Byte) {e : List Latch} :
    s.KeepsLatches (s.reply kind result data) e := .of_safe (s.enqueue_safe _)

theorem State.judgeRequest_latches {s : State} {act : State → State} {e : List Latch} (kind : Byte) (args : List Byte)
    (n : Nat) (modeOk : Mode → Bool) (h : s.KeepsLatches (act s) e) :
    s.KeepsLatches (s.judgeRequest kind args n modeOk act) e := by
  unfold State.judgeRequest
  split
  · exact s.reply_latches _ _ _
  · split
    · exact h
    · exact s.reply_latches _ _ _

end Sys2Proof.Machine

namespace Sys2Proof.Machine

open Sys2Proof

/-- The latches that a command may clear. -/
def clearedBy : Instr → List Latch
  | .clearLockout _ _ => [.trip, .lockout, .welded]
  | .fireReset _ _ => [.alarm, .released, .containerFire, .runaway]
  | .returnRack _ _ => [.outOfService]
  | .auxWindowExpiry => [.outOfService]
  | .chainReplyArrival _ => [.pair]
  | .chainReplyWaitExpiry => [.pair]
  | _ => []

/-! ### Start-up -/

theorem State.enqueueAnnounce_safe (s : State) : s.KeepsSafe s.enqueueAnnounce := by
  unfold State.enqueueAnnounce
  split
  · exact .of_state ⟨rfl, rfl, rfl, rfl, rfl, rfl, id⟩ rfl
  · exact s.enqueue_safe _

/-- What LISTENING and CONFIG_FAULT have in common on leaving LOADING (R53, R88, R103, R109). -/
theorem State.leaveLoading_latches (s : State) (period : Nat) {e : List Latch} : s.KeepsLatches (s.leaveLoading period) e :=
  .trans (t := { s with
      peers := { s.peers with apTimer := some period }
      fire := { s.fire with loopTimer := some 100, serviceKey := s.lines.key } })
    (.of_same rfl rfl rfl rfl rfl rfl rfl rfl) (.of_safe ((State.thermalReview_safe _).trans (State.enqueueAnnounce_safe _)))

theorem State.gridAsserted_latches (s : State) (c : ConfigSet) {e : List Latch} : s.KeepsLatches (s.gridAsserted c) e := by
  unfold State.gridAsserted
  split
  · exact .of_same rfl rfl rfl rfl rfl rfl rfl rfl
  all_goals exact .refl s

/-- A start of a scan reaches the scan in flight alone (R5). -/
theorem State.startScan_latches (s : State) {e : List Latch} : s.KeepsLatches s.startScan e :=
  .of_same rfl rfl rfl rfl rfl rfl rfl rfl

theorem State.enterListening_latches {s : State} (c : ConfigSet) {e : List Latch} (h : s.svc.mode = .loading) :
    s.KeepsLatches (s.enterListening c) e := by
  unfold State.enterListening
  dsimp only
  have listening : s.KeepsLatches { s with
      svc := { s.svc with mode := .listening, config := some c, siteCap := c.irackMax, apCount := 0 }
      claims := { s.claims with limit := c.heatLimitIsland }
      chain := { s.chain with scanTimer := some 100 }
      env := { s.env with runawayTimer := some 1000 } } e := by
    intro l _
    cases l <;> simp +contextual [Latch.kept, h]
  refine .trans (.trans ((listening.trans (.of_safe (State.evalSlot_safe _))).trans
    (State.leaveLoading_latches _ (c.ap * 50))) (State.startScan_latches _)) ?_
  have degraded : ∀ t : State, t.KeepsLatches (if t.lines.chillerFault then t.setDegraded true else t) e := fun t => by
    split
    · exact .of_safe (t.setDegraded_safe true)
    · exact .refl t
  have healthy : ∀ t : State, t.KeepsLatches (if t.lines.gridHealthy then t.gridAsserted c else t) e := fun t => by
    split
    · exact t.gridAsserted_latches c
    · exact .refl t
  exact (degraded _).trans (healthy _)

theorem State.loadConfig_latches (s : State) (image : List Byte) {e : List Latch} :
    s.KeepsLatches (s.loadConfig image) e := by
  unfold State.loadConfig
  split
  · next h =>
    split
    · exact State.enterListening_latches _ h
    · refine .trans (t := { s with svc := { s.svc with mode := .configFault, configFaultFlag := true } }) ?_
        (State.leaveLoading_latches _ _)
      intro l _
      cases l <;> simp +contextual [Latch.kept, h]
  · exact .refl s

/-! ### The module chain -/

theorem State.scanInterval_latches (s : State) {e : List Latch} : s.KeepsLatches s.scanInterval e := by
  unfold State.scanInterval
  split
  · split
    · exact .of_same rfl rfl rfl rfl rfl rfl rfl rfl
    · exact s.startScan_latches
  · exact .refl s

/-- A completion sets PROTECTION_TRIP or leaves it, and may raise the pair (R16 to R18, R39). -/
theorem State.completeScan_latches (s : State) (c : ConfigSet) (stop : Option Nat) (goods bad : List Nat) :
    s.KeepsLatches (s.completeScan c stop goods bad) [.pair] := by
  have judged : ∀ t : State, t.KeepsLatches ((t.judgeTrips c goods).evaluatePair c) [.pair] := fun t l hl => by
    cases l
    case pair => simp at hl
    all_goals simp +contextual [Latch.kept, State.judgeTrips, State.evaluatePair]
  have rebuilt : ∀ t : State, t.KeepsLatches (t.rebuildBalance c) [.pair] := fun t =>
    .trans (t := { t with balance := { t.balance with taken := some ⟨t.chain.sense.current, t.chain.tmax, t.chain.dataLoss⟩ } })
      (.of_same rfl rfl rfl rfl rfl rfl rfl rfl) (.of_safe (State.setMembers_safe _ _))
  have owed : ∀ t : State, t.KeepsLatches t.startOwed [.pair] := fun t => by
    unfold State.startOwed
    split
    · exact .of_same rfl rfl rfl rfl rfl rfl rfl rfl
    · exact .refl t
  refine .trans (.trans (t := { s with chain := s.chain.completed c stop goods bad })
    (.of_same rfl rfl rfl rfl rfl rfl rfl rfl) ?_) (owed _)
  exact ((judged _).trans (rebuilt _)).trans (.of_safe (((State.thermalCompletion_safe _ c).trans
    (State.reviewForced_safe _)).trans (State.sequencerCompletion_safe _ c _)))

theorem State.continueScan_latches (s : State) (c : ConfigSet) (p : Nat) (goods bad : List Nat) :
    s.KeepsLatches (s.continueScan c p goods bad) [.pair] := by
  unfold State.continueScan
  split
  · exact .of_same rfl rfl rfl rfl rfl rfl rfl rfl
  · exact s.completeScan_latches c _ _ _

theorem State.endTransaction_latches (s : State) (c : ConfigSet) (r : ScanRun) (body : ReplyBody)
    (o : TransactionOutcome) : s.KeepsLatches (s.endTransaction c r body o) [.pair] := by
  have stored : s.KeepsLatches (s.storeReply r.position body) [.pair] := by
    cases body <;> exact .of_same rfl rfl rfl rfl rfl rfl rfl rfl
  cases o with
  | good => exact stored.trans (State.continueScan_latches _ _ _ _ _)
  | checkFail => exact s.continueScan_latches _ _ _ _
  | noReply => exact s.completeScan_latches _ _ _ _
  | wrongPosition => exact s.completeScan_latches _ _ _ _

theorem State.tryResult_latches (s : State) (c : ConfigSet) (r : ScanRun) (body : ReplyBody) (x : TryResult) :
    s.KeepsLatches (s.tryResult c r body x) [.pair] := by
  have ended : ∀ replied, s.KeepsLatches (s.endTry c r replied) [.pair] := fun replied => by
    unfold State.endTry
    split
    · exact .of_same rfl rfl rfl rfl rfl rfl rfl rfl
    · exact s.endTransaction_latches _ _ _ _
  cases x with
  | good => exact s.endTransaction_latches _ _ _ _
  | wrongPosition => exact s.endTransaction_latches _ _ _ _
  | badCheck => exact ended _
  | noReply => exact ended _

theorem State.replyArrives_latches (s : State) (reply : ChainReply) : s.KeepsLatches (s.replyArrives reply) [.pair] := by
  unfold State.replyArrives
  split
  · exact s.tryResult_latches _ _ _ _
  · exact .refl s

theorem State.replyWaitExpires_latches (s : State) : s.KeepsLatches s.replyWaitExpires [.pair] := by
  unfold State.replyWaitExpires
  split
  · exact s.tryResult_latches _ _ _ _
  · exact .refl s

/-! ### The fire unit -/

theorem State.sampleLoops_latches (s : State) (a b : Nat) {e : List Latch} : s.KeepsLatches (s.sampleLoops a b) e := by
  unfold State.sampleLoops
  split
  · exact .trans (t := { s with fire := s.fire.sampled (loopClass a) (loopClass b) }) (.setFireUnit s rfl)
      (State.judgeSources_latches _ _)
  · exact .refl s

/-- The latch is set by the rise test and not cleared by it (R107). -/
theorem State.sampleRunaway_latches (s : State) {e : List Latch} : s.KeepsLatches s.sampleRunaway e := by
  unfold State.sampleRunaway
  split
  · exact .refl s
  · split
    · refine .trans ?_ (State.judgeSources_latches _ _)
      intro l _
      cases l <;> simp +contextual [Latch.kept]
    · exact .refl s

theorem State.countdownExpires_latches (s : State) {e : List Latch} : s.KeepsLatches s.countdownExpires e := by
  unfold State.countdownExpires
  split
  · exact s.enterReleased_latches
  · exact .refl s

theorem State.repeatExpires_latches (s : State) {e : List Latch} : s.KeepsLatches s.repeatExpires e := by
  unfold State.repeatExpires
  split
  · exact (s.setRepeat_latches _).trans (State.queueCall_latches _)
  · exact .refl s

/-- A change of the input lines clears nothing. -/
theorem State.KeepsLatches.setLines (s : State) (x : Lines) {e : List Latch} : s.KeepsLatches { s with lines := x } e :=
  .of_same rfl rfl rfl rfl rfl rfl rfl rfl

theorem State.abortChange_latches (s : State) (b : Bool) {e : List Latch} : s.KeepsLatches (s.abortChange b) e := by
  refine .trans (.setLines s { s.lines with abort := b }) ?_
  unfold State.abortChange
  dsimp only
  split
  · next h =>
    split
    · exact .trans (State.setFire_latches_of_alarmed rfl fun hr => by simp [h] at hr) (State.setCountdown_latches _ _)
    · exact .refl _
  · next h =>
    split
    · exact .refl _
    · exact State.enterReleaseDelay_latches (by simp [h])
  all_goals exact .refl _

theorem State.keyChange_latches (s : State) (b : Bool) {e : List Latch} : s.KeepsLatches (s.keyChange b) e := by
  refine .trans (.setLines s { s.lines with key := b }) ?_
  unfold State.keyChange
  dsimp only
  split
  · exact .refl _
  · exact .trans (t := { s with lines := { s.lines with key := b }, fire := { s.fire with serviceKey := b } })
      (.setFireUnit _ rfl) (State.reviewInhibit_latches _)

/-! ### The heater and the grid -/

theorem State.chillerFaultChange_latches (s : State) (b : Bool) {e : List Latch} :
    s.KeepsLatches (s.chillerFaultChange b) e := by
  refine .trans (.setLines s { s.lines with chillerFault := b }) ?_
  unfold State.chillerFaultChange
  dsimp only
  split
  · refine .trans ?_ (.of_safe (State.judgeRecovery_safe _))
    split
    · exact .of_safe (State.setDegraded_safe _ _)
    · exact .refl _
  · exact .refl _

theorem State.heatSoakExpire_latches (s : State) {e : List Latch} : s.KeepsLatches s.heatSoakExpire e := by
  unfold State.heatSoakExpire
  split
  · exact .of_safe (s.setDegraded_safe _)
  · exact .refl s

theorem State.recoveryExpire_latches (s : State) {e : List Latch} : s.KeepsLatches s.recoveryExpire e := by
  unfold State.recoveryExpire
  split
  · exact .of_safe (s.setDegraded_safe _)
  · exact .refl s

/-- A change of the grid unit clears nothing. -/
theorem State.setGrid_latches (s : State) (st : GridState) (x : Timer) {e : List Latch} :
    s.KeepsLatches (s.setGrid st x) e := .of_same rfl rfl rfl rfl rfl rfl rfl rfl

theorem State.gridChange_latches (s : State) (b : Bool) {e : List Latch} : s.KeepsLatches (s.gridChange b) e := by
  have fallen : ∀ (t : State) (c : ConfigSet), t.KeepsLatches (t.gridReleased c) e := fun t c => by
    unfold State.gridReleased
    split
    · exact .refl t
    · exact t.setGrid_latches _ _
    · exact (t.setGrid_latches _ _).trans (.of_safe (State.setLimit_safe _ _))
  refine .trans (.setLines s { s.lines with gridHealthy := b }) ?_
  unfold State.gridChange
  dsimp only
  split
  · exact .refl _
  · split
    · split
      · exact State.gridAsserted_latches _ _
      · exact fallen _ _
    · exact .refl _

theorem State.reconnectExpires_latches (s : State) {e : List Latch} : s.KeepsLatches s.reconnectExpires e := by
  unfold State.reconnectExpires
  split
  · exact .refl s
  · split
    · exact (s.setGrid_latches _ _).trans (.of_safe (State.setLimit_safe _ _))
    · exact .refl s

/-! ### Peers -/

theorem State.fireReported_latches (s : State) (f : FireState) {e : List Latch} : s.KeepsLatches (s.fireReported f) e := by
  unfold State.fireReported
  split
  · exact s.setContainerFire_latches
  · exact .refl s

theorem State.confirmByPeer_latches (s : State) {e : List Latch} : s.KeepsLatches s.confirmByPeer e := by
  unfold State.confirmByPeer
  split
  · next h => exact State.enterAlarm_latches (by rw [h.1]; rfl)
  · exact .refl s

/-- A change of the peer table clears nothing. -/
theorem State.setTable_latches (s : State) (l : List PeerRecord) {e : List Latch} : s.KeepsLatches (s.setTable l) e :=
  .of_same rfl rfl rfl rfl rfl rfl rfl rfl

theorem State.takeAnnounce_latches (s : State) (n : Nat) (p : List Byte) {e : List Latch} :
    s.KeepsLatches (s.takeAnnounce n p) e := by
  have repaired : ∀ (t : State) (f g : List Nat → List Nat), t.KeepsSafe ((t.changeJoin f).changeHeat g) := fun t f g =>
    (t.changeJoin_safe f).trans (State.changeHeat_safe _ g)
  unfold State.takeAnnounce
  split
  · exact .trans (.trans (.trans (.trans (s.setTable_latches _) (.of_safe (repaired _ _ _)))
      (State.reviewZoneKey_latches _)) (State.fireReported_latches _ _)) (State.confirmByPeer_latches _)
  · split
    · exact (s.fireReported_latches _).trans (State.setDuplicateId_latches _)
    · exact .refl s

/-- The fire unit's part of a notice leads to ALARM from PRE_ALARM and to RELEASED alone (R113, R118). -/
theorem State.noticeToFireUnit_latches (s : State) (zone : Nat) (f : FireState) {e : List Latch} :
    s.KeepsLatches (s.noticeToFireUnit zone f) e := by
  have followed : s.KeepsLatches
      (if f = .released ∧ zone = s.ownZone ∧ s.fire.serviceKey = false then s.enterReleased else s) e := by
    split
    · exact s.enterReleased_latches
    · exact .refl s
  unfold State.noticeToFireUnit
  split
  · next h =>
    split
    · exact State.enterAlarm_latches (by rw [h]; rfl)
    · split
      · exact s.queueCall_latches
      · exact .refl s
  · exact followed
  · exact followed
  · exact followed
  · exact .refl s
  · exact .refl s

theorem State.takeFireNotice_latches (s : State) (n : Nat) (p : List Byte) {e : List Latch} :
    s.KeepsLatches (s.takeFireNotice n p) e := by
  unfold State.takeFireNotice
  split
  · exact .trans (.trans (.trans (s.setTable_latches _) (State.reviewZoneKey_latches _))
      (State.fireReported_latches _ _)) (State.noticeToFireUnit_latches _ _ _)
  · split
    · exact s.fireReported_latches _
    · exact .refl s

/-! ### The announcement period -/

theorem State.requeueJoin_safe (s : State) : s.KeepsSafe s.requeueJoin := by
  unfold State.requeueJoin
  split
  · refine .trans (t := { s with claims := { s.claims with join := { s.claims.join with requeue := false } } })
      (State.KeepsConnState.setClaims s _).safe ?_
    dsimp only
    split
    · exact State.enqueue_safe _ _
    · exact State.enqueue_safe _ _
    all_goals exact .refl _
  · exact .refl s

theorem State.requeueHeat_safe (s : State) : s.KeepsSafe s.requeueHeat := by
  unfold State.requeueHeat
  split
  · refine .trans (t := { s with claims := { s.claims with heat := { s.claims.heat with requeue := false } } })
      (State.KeepsConnState.setClaims s _).safe ?_
    dsimp only
    split
    · exact State.enqueue_safe _ _
    · exact State.enqueue_safe _ _
    all_goals exact .refl _
  · exact .refl s

theorem State.requeueCheck_safe (s : State) : s.KeepsSafe s.requeueCheck := by
  unfold State.requeueCheck
  split
  · exact s.startCheck_safe
  · exact .refl s

/-- The entry to ACTIVE opens the window that proves the contactors, which changes no connection state (R128, R176). -/
theorem State.enterActive_latches {s : State} {e : List Latch} (h : s.svc.mode = .listening) :
    s.KeepsLatches s.enterActive e := by
  have proving : ∀ t : State, t.KeepsSafe t.startProving := fun t => by
    unfold State.startProving State.testWindow
    dsimp only
    split
    · exact .of_state (.update t _ _ _ _) rfl
    · exact .of_state (.update t _ _ _ _) rfl
  refine .trans (t := { s with svc := { s.svc with mode := .active, apCount := 0 } }) ?_
    (.of_safe ((proving _).trans (State.thermalReview_safe _)))
  intro l _
  cases l <;> simp +contextual [Latch.kept, h]

theorem State.countAp_latches (s : State) {e : List Latch} : s.KeepsLatches s.countAp e := by
  unfold State.countAp
  split
  · next h =>
    split
    · exact State.enterActive_latches h
    · exact .of_same rfl rfl rfl rfl rfl rfl rfl rfl
  · exact .refl s

theorem State.apExpires_latches (s : State) {e : List Latch} : s.KeepsLatches s.apExpires e := by
  have swept : s.KeepsLatches s.ageAndSweep e := by
    unfold State.ageAndSweep
    exact .trans ((s.setTable_latches _).trans (State.reviewZoneKey_latches _))
      (.of_safe ((State.changeJoin_safe _ _).trans (State.changeHeat_safe _ _)))
  have queued : ∀ t : State, t.KeepsSafe t.requeueJoin.requeueHeat.requeueCheck.enqueueAnnounce := fun t =>
    ((t.requeueJoin_safe.trans (State.requeueHeat_safe _)).trans (State.requeueCheck_safe _)).trans
      (State.enqueueAnnounce_safe _)
  have judged : ∀ t : State, t.KeepsSafe t.judgeCongestion := fun t => by
    unfold State.judgeCongestion
    split
    · exact .of_state (.update t _ _ _ _) rfl
    · exact .refl t
  unfold State.apExpires
  split
  · exact (swept.trans (.of_safe ((queued _).trans (judged _)))).trans (State.countAp_latches _)
  · exact .refl s

/-! ### Claim frames and timers -/

theorem State.takeJoinClaim_safe (s : State) (n : Nat) : s.KeepsSafe (s.takeJoinClaim n) := by
  unfold State.takeJoinClaim
  split
  · exact s.changeJoin_safe _
  · exact .refl s

theorem State.takeJoinDone_safe (s : State) (n : Nat) : s.KeepsSafe (s.takeJoinDone n) := by
  unfold State.takeJoinDone
  split
  · exact s.changeJoin_safe _
  · exact .refl s

theorem State.takeHeatClaim_safe (s : State) (n : Nat) : s.KeepsSafe (s.takeHeatClaim n) := by
  unfold State.takeHeatClaim
  split
  · exact s.changeHeat_safe _
  · exact .refl s

theorem State.takeHeatRelease_safe (s : State) (n : Nat) : s.KeepsSafe (s.takeHeatRelease n) := by
  unfold State.takeHeatRelease
  split
  · exact s.changeHeat_safe _
  · exact .refl s

theorem State.headExpires_safe (s : State) : s.KeepsSafe s.headExpires := by
  unfold State.headExpires
  split
  · refine .trans (t := { s with claims := { s.claims with headTimer := none } }) (State.KeepsConnState.setClaims s _).safe ?_
    dsimp only
    split
    · split
      · exact State.joinReleaseByOther_safe _ _
      · exact .refl _
    · exact State.changeJoin_safe _ _
  · exact .refl s

theorem State.holdExpires_safe (s : State) : s.KeepsSafe s.holdExpires := by
  unfold State.holdExpires
  split
  · exact .trans (t := { s with claims := { s.claims with hold := .served } }) (State.KeepsConnState.setClaims s _).safe
      (State.evalSlot_safe _)
  all_goals exact .refl s

theorem State.ownJoinClaimDone_safe (s : State) : s.KeepsSafe s.ownJoinClaimDone := by
  unfold State.ownJoinClaimDone
  refine .trans (t := s.setJoinEntries (appendAbsent s.ownNumber s.claims.join.entries))
    (State.KeepsConnState.setClaims s _).safe ?_
  dsimp only
  split
  · exact .trans (State.KeepsConnState.setClaims _ _).safe (State.signalToken_safe _)
  · exact (State.queueJoinDone_connState _ _).safe
  all_goals exact State.signalToken_safe _

theorem State.ownJoinDoneDone_safe (s : State) : s.KeepsSafe s.ownJoinDoneDone := by
  unfold State.ownJoinDoneDone
  refine .trans (t := s.setJoinEntries (removeNumber s.ownNumber s.claims.join.entries))
    (State.KeepsConnState.setClaims s _).safe ?_
  dsimp only
  split
  · exact .trans (State.KeepsConnState.setClaims _ _).safe (State.signalToken_safe _)
  · exact .trans (.trans (State.KeepsConnState.setClaims _ _).safe (State.enqueue_safe _ _)) (State.signalToken_safe _)
  all_goals exact State.signalToken_safe _

theorem State.ownHeatClaimDone_safe (s : State) : s.KeepsSafe s.ownHeatClaimDone := by
  unfold State.ownHeatClaimDone
  refine .trans (t := s.setHeatEntries (appendAbsent s.ownNumber s.claims.heat.entries))
    (State.KeepsConnState.setClaims s _).safe ?_
  dsimp only
  split
  · exact .trans (State.KeepsConnState.setClaims _ _).safe (State.evalSlot_safe _)
  · exact .trans (.trans (State.KeepsConnState.setClaims _ _).safe (State.enqueue_safe _ _)) (State.evalSlot_safe _)
  all_goals exact State.evalSlot_safe _

theorem State.ownHeatReleaseDone_safe (s : State) : s.KeepsSafe s.ownHeatReleaseDone := by
  unfold State.ownHeatReleaseDone
  refine .trans (t := s.setHeatEntries (removeNumber s.ownNumber s.claims.heat.entries))
    (State.KeepsConnState.setClaims s _).safe ?_
  dsimp only
  split
  · exact .trans (State.KeepsConnState.setClaims _ _).safe (State.evalSlot_safe _)
  · exact .trans (.trans (State.KeepsConnState.setClaims _ _).safe (State.enqueue_safe _ _)) (State.evalSlot_safe _)
  all_goals exact State.evalSlot_safe _

/-! ### The link -/

/-- A change of the link alone. -/
theorem State.KeepsSafe.setLink (s : State) (l : Link) : s.KeepsSafe { s with link := l } :=
  (State.KeepsConnState.setLink s l).safe

theorem State.takeCensusCall_safe (s : State) (n : Nat) (p : List Byte) : s.KeepsSafe (s.takeCensusCall n p) := by
  unfold State.takeCensusCall
  split
  · exact .setLink s _
  · exact .refl s

/-- The join check ends in WAIT_TOKEN alone (R132, R133). -/
theorem State.joinedResult_safe (s : State) (w : WindowRead) : s.KeepsSafe (s.joinedResult w) := by
  have abandoned : ∀ t : State, t.KeepsProtection t.abandonJoin := fun t =>
    (t.leaveWaitToken_blocks _).toKeepsProtection.trans (State.seqRelease_connState _ _).toKeepsProtection
  have judged : ∀ c, s.KeepsProtection (s.checkResult c w) := fun c => by
    unfold State.checkResult
    split
    · exact abandoned s
    · split
      · split
        · exact .trans (.update s _ _ _ _) (abandoned _)
        · exact s.enterPrecharge_blocks.toKeepsProtection
      · split
        · exact .trans (.update s _ _ _ _) (abandoned _)
        · exact s.enterPrecharge_blocks.toKeepsProtection
  unfold State.joinedResult
  split
  · split
    · next h => exact .of_unlatched (judged _) (by rw [h]; rfl)
    · exact .refl s
  · exact .refl s

theorem State.settleGateway_safe (s : State) (result : ReplyResult) (data : List Byte) :
    s.KeepsSafe (s.settleGateway result data) :=
  .trans (t := { s with svc := { s.svc with gatewayCensus := none } })
    (.of_state ⟨rfl, rfl, rfl, rfl, rfl, rfl, id⟩ rfl) (State.enqueue_safe _ _)

/-- The census of the fire unit ends (R111). -/
theorem State.KeepsSafe.endCensus (s : State) : s.KeepsSafe { s with fire := { s.fire with census := .idle } } :=
  .of_state ⟨rfl, rfl, rfl, rfl, rfl, rfl, id⟩ rfl

theorem State.goodWindow_latches (s : State) (a : CensusAnswer) (w : WindowRead) {e : List Latch} :
    s.KeepsLatches (s.goodWindow a w) e := by
  have own : s.KeepsLatches (s.ownCallGood a.own) e := by
    unfold State.ownCallGood
    split
    · exact .of_safe (.endCensus s)
    · exact .refl s
  have zone : ∀ (t : State) (P : Prop) [Decidable P], t.KeepsLatches (if P then t.zoneResult w else t) e := fun t P _ => by
    unfold State.zoneResult
    split
    · split
      · next h => exact State.enterAlarm_latches (by rw [h.1]; rfl)
      · exact .refl t
    · exact .refl t
  have joined : ∀ (t : State) (P : Prop) [Decidable P], t.KeepsSafe (if P then t.joinedResult w else t) := fun t P _ => by
    split
    · exact t.joinedResult_safe w
    · exact .refl t
  have removed : ∀ t : State, t.KeepsSafe (t.removeIdentical a.question a.zone) := fun t => by
    unfold State.removeIdentical
    dsimp only
    split
    · exact .trans (.setLink t _) (.endCensus _)
    · exact .setLink t _
  have answered : ∀ t : State, t.KeepsSafe (t.gatewayResult a.question a.zone w) := fun t => by
    unfold State.gatewayResult
    split
    · split
      · exact t.settleGateway_safe _ _
      · exact .refl t
    · exact .refl t
  exact (own.trans (zone _ _)).trans (.of_safe (((joined _ _).trans (removed _)).trans (answered _)))

theorem State.failedWindow_safe (s : State) (a : CensusAnswer) : s.KeepsSafe (s.failedWindow a) := by
  unfold State.failedWindow
  split
  · split
    · exact s.enqueue_safe _
    · exact .endCensus s
  · split
    · exact .refl s
    · exact s.startCheck_safe
  · exact s.settleGateway_safe _ _
  all_goals exact .refl s

theorem State.windowCompletes_latches (s : State) (w : WindowRead) {e : List Latch} :
    s.KeepsLatches (s.windowCompletes w) e := by
  unfold State.windowCompletes
  split
  · exact .refl s
  · refine .trans (t := { s with link := { s.link with census := none } }) (.of_safe (.setLink s _)) ?_
    dsimp only
    split
    · exact State.goodWindow_latches _ _ _
    · exact .of_safe (State.failedWindow_safe _ _)

theorem State.attemptStart_latches (s : State) (b : Bool) {e : List Latch} : s.KeepsLatches (s.attemptStart b) e := by
  refine .trans (.setLines s { s.lines with breakerClosed := b }) ?_
  unfold State.attemptStart
  dsimp only
  split
  · exact .of_safe (.setLink _ _)
  · exact .refl _

theorem State.arbitrationLost_safe (s : State) : s.KeepsSafe s.arbitrationLost := by
  unfold State.arbitrationLost
  split
  · exact .refl s
  · exact .setLink s _

theorem State.reportLoss_safe (s : State) (x : Entry) : s.KeepsSafe (s.reportLoss x) := by
  refine .of_state (.of_queueing (s.reportLoss_keeps x) (State.reportLoss_restart x)) ?_
  obtain ⟨y, hy⟩ := (s.reportLoss_keeps x).conn
  rw [hy]

theorem State.bitError_latches (s : State) (n : Nat) {e : List Latch} : s.KeepsLatches (s.bitError n) e := by
  have dropped : ∀ x, s.KeepsSafe (s.bitErrorEntry x) := fun x => by
    unfold State.bitErrorEntry
    split
    · exact .setLink s _
    · exact .trans (.setLink s _) (State.reportLoss_safe _ _)
  have counted : ∀ t : State, t.KeepsLatches (t.headerError n) e := fun t => by
    unfold State.headerError
    split
    · split
      · exact .trans (.of_safe (.setLink t _)) (State.setDuplicateId_latches _)
      · exact .of_safe (.setLink t _)
    · exact .of_safe (.setLink t _)
  unfold State.bitError
  split
  · exact .refl s
  · exact .trans (.of_safe ((dropped _).trans (.setLink _ _))) (counted _)

/-- A reset becomes due from a pending restart alone (R181). -/
theorem State.dueRestart_safe (s : State) : s.KeepsSafe s.dueRestart := by
  unfold State.dueRestart
  split
  · next h => exact .of_state ⟨rfl, rfl, rfl, rfl, rfl, rfl, fun hn => by simp [hn] at h⟩ rfl
  · exact .refl s

theorem State.selfReceive_safe (s : State) (x : Entry) : s.KeepsSafe (s.selfReceive x) := by
  unfold State.selfReceive
  split
  · split
    · exact s.ownJoinClaimDone_safe
    · exact s.ownJoinDoneDone_safe
    · exact s.ownHeatClaimDone_safe
    · exact s.ownHeatReleaseDone_safe
    · exact .refl s
  · exact .setLink s _
  · split
    · exact s.dueRestart_safe
    · exact .refl s
  · exact .refl s
  · exact .refl s

theorem State.frameCompletes_safe (s : State) : s.KeepsSafe s.frameCompletes := by
  unfold State.frameCompletes
  split
  · exact .refl s
  · exact .trans (.setLink s _) (State.selfReceive_safe _ _)

theorem State.discardFrame_safe (s : State) (r : DiscardReason) : s.KeepsSafe (s.discardFrame r) := by
  unfold State.discardFrame
  split
  · exact .setLink s _
  · exact .refl s

/-! ### The sequencer's inputs and timers -/

/-- In a latched state the window that proves the contactors is the only one that can be open (R127, R128). -/
theorem State.DrivesFollow.window_of_latched {s : State} (h : s.DrivesFollow) (hl : latchedState s.conn.state = true) :
    s.conn.window = none ∨ (s.conn.window = some .proving ∧ s.conn.state = .outOfService) := by
  have closed : ∀ st, s.conn.state = st → latchedState st = false → False := fun st hs hn => by
    rw [hs, hn] at hl
    cases hl
  rcases hw : s.conn.window with _ | w
  · exact .inl rfl
  · cases w with
    | proving => exact .inr ⟨rfl, (h.provingWindow hw).resolve_left fun hs => closed _ hs rfl⟩
    | negClose => exact (closed _ (h.negWindow hw) rfl).elim
    | posClose => exact (closed _ (h.posWindow.mp hw) rfl).elim
    | opening => exact (closed _ (h.openWindow.mp hw) rfl).elim
    | leavePos => exact (closed _ (h.leavePos hw).1 rfl).elim
    | leaveNeg => exact (closed _ (h.leaveNeg hw).1 rfl).elim

/-- In a latched state the success of the open window changes no connection state (R128). -/
theorem State.auxChange_latches {s : State} (p n : Bool) (h : s.DrivesFollow) {e : List Latch} :
    s.KeepsLatches (s.auxChange p n) e := by
  refine .trans (.setLines s { s.lines with auxPos := p, auxNeg := n })
    (.of_safe ⟨(State.testWindow_blocks _).toKeepsProtection, fun hl => ?_⟩)
  have hw := h.window_of_latched hl
  unfold State.auxChange State.testWindow
  rcases hw with hw | ⟨hw, _⟩ <;> simp only [hw]
  split <;> rfl

/-- In a latched state the failure of the open window makes OUT_OF_SERVICE WELDED, and does nothing else (R128). -/
theorem State.auxWindowExpires_of_latched {s : State} (h : s.DrivesFollow) (hl : latchedState s.conn.state = true) :
    s.auxWindowExpires = s
      ∨ (s.conn.state = .outOfService ∧ s.auxWindowExpires.conn.state = .welded) := by
  unfold State.auxWindowExpires
  rcases h.window_of_latched hl with hw | ⟨hw, hs⟩ <;> rw [hw]
  · exact .inl rfl
  · exact .inr ⟨hs, State.setConn_state _ _⟩

theorem State.auxWindowExpires_latches {s : State} (h : s.DrivesFollow) : s.KeepsLatches s.auxWindowExpires [.outOfService] := by
  have base : s.KeepsProtection s.auxWindowExpires := by
    unfold State.auxWindowExpires
    split
    · exact .refl s
    · exact (s.windowFailure_blocks _).toKeepsProtection
  intro l hl
  cases l
  case outOfService => simp at hl
  case lockout =>
    intro hs
    rcases State.auxWindowExpires_of_latched h (by rw [hs]; rfl) with hx | ⟨hx, _⟩
    · rw [hx]; exact hs
    · simp [hx] at hs
  case welded =>
    intro hs
    rcases State.auxWindowExpires_of_latched h (by rw [hs]; rfl) with hx | ⟨hx, _⟩
    · rw [hx]; exact hs
    · simp [hx] at hs
  all_goals exact State.KeepsLatches.of_protection base _ (by simp)

theorem State.prechargeExpires_safe (s : State) : s.KeepsSafe s.prechargeExpires := by
  unfold State.prechargeExpires
  split
  · next h => exact .of_unlatched s.prechargeFailure_blocks.toKeepsProtection (by rw [h.1]; rfl)
  · exact .refl s

theorem State.leaveExpires_safe (s : State) : s.KeepsSafe s.leaveExpires := by
  unfold State.leaveExpires
  split
  · next h => exact .of_unlatched s.leaveStep2_blocks.toKeepsProtection (by rw [h.1]; rfl)
  · exact .refl s

theorem State.failureHoldExpires_latches (s : State) {e : List Latch} : s.KeepsLatches s.failureHoldExpires e :=
  .of_same rfl rfl rfl rfl rfl rfl rfl rfl

/-! ### The gateway's requests -/

theorem State.doReadStatus_latches (s : State) (args : List Byte) {e : List Latch} :
    s.KeepsLatches (s.doReadStatus args) e := State.judgeRequest_latches _ _ _ _ (s.reply_latches _ _ _)

theorem State.doReadModule_latches (s : State) (args : List Byte) {e : List Latch} :
    s.KeepsLatches (s.doReadModule args) e := State.judgeRequest_latches _ _ _ _ (by
  split <;> exact s.reply_latches _ _ _)

/-- The site cap lowers the pair or leaves it (R27). -/
theorem State.setCap_latches (s : State) (value : Nat) {e : List Latch} : s.KeepsLatches (s.setCap value) e := by
  unfold State.setCap
  split
  · exact .refl s
  · intro l _
    cases l <;> simp +contextual [Latch.kept]

theorem State.doSetSiteCap_latches (s : State) (args : List Byte) {e : List Latch} :
    s.KeepsLatches (s.doSetSiteCap args) e :=
  State.judgeRequest_latches _ _ _ _ ((s.setCap_latches _).trans (State.reply_latches _ _ _ _))

theorem State.setJoinHeld_latches (s : State) (b : Bool) {e : List Latch} : s.KeepsLatches (s.setJoinHeld b) e :=
  .of_same rfl rfl rfl rfl rfl rfl rfl rfl

theorem State.doHoldJoin_latches (s : State) (args : List Byte) {e : List Latch} : s.KeepsLatches (s.doHoldJoin args) e :=
  State.judgeRequest_latches _ _ _ _ ((s.setJoinHeld_latches _).trans (State.reply_latches _ _ _ _))

theorem State.doResumeJoin_latches (s : State) (args : List Byte) {e : List Latch} :
    s.KeepsLatches (s.doResumeJoin args) e :=
  State.judgeRequest_latches _ _ _ _ ((s.setJoinHeld_latches _).trans (State.reply_latches _ _ _ _))

/-- TAKE_OUT moves the sequencer from OPEN, WAIT_TOKEN and JOINED alone (R142). -/
theorem State.takeOutEffect_safe (s : State) (c : ConfigSet) : s.KeepsSafe (s.takeOutEffect c) := by
  unfold State.takeOutEffect
  split
  · next h => exact .trans (.of_unlatched (s.setConn_blocks _).toKeepsProtection (by rw [h]; rfl)) (State.enqueue_safe _ _)
  · next h =>
    exact .trans (.trans (.of_unlatched (s.leaveWaitToken_blocks _).toKeepsProtection (by rw [h]; rfl))
      (State.seqRelease_connState _ _).safe)
      (State.enqueue_safe _ _)
  · next h => exact .trans (.of_unlatched (s.enterLeaving_blocks c).toKeepsProtection (by rw [h]; rfl)) (State.enqueue_safe _ _)
  all_goals exact s.enqueue_safe _

theorem State.doTakeOut_latches (s : State) (args : List Byte) {e : List Latch} : s.KeepsLatches (s.doTakeOut args) e :=
  State.judgeRequest_latches _ _ _ _ (by
    split
    · exact .of_safe (s.takeOutEffect_safe _)
    · exact s.reply_latches _ _ _)

/-- RETURN moves the sequencer out of OUT_OF_SERVICE alone (R144). -/
theorem State.doReturn_latches (s : State) (args : List Byte) : s.KeepsLatches (s.doReturn args) [.outOfService] := by
  refine State.judgeRequest_latches _ _ _ _ ?_
  split
  · next h =>
    refine .trans ?_ (State.reply_latches _ _ _ _)
    intro l hl
    cases l
    case outOfService => simp at hl
    case lockout | welded => intro hs; simp [h] at hs
    all_goals exact State.KeepsLatches.of_protection (s.setConn_blocks _).toKeepsProtection _ (by simp)
  · exact s.reply_latches _ _ _

/-- CLEAR_LOCKOUT clears the trip (R19) and leaves LOCKOUT and WELDED (R139, R145). -/
theorem State.doClearLockout_latches (s : State) (args : List Byte) :
    s.KeepsLatches (s.doClearLockout args) [.trip, .lockout, .welded] := by
  have untripped : s.KeepsLatches s.clearTrip [.trip, .lockout, .welded] := by
    unfold State.clearTrip
    split
    · intro l hl
      cases l
      case trip => simp at hl
      all_goals simp +contextual [Latch.kept]
    · exact .refl s
  have unlocked : ∀ t : State, t.KeepsLatches t.clearConn [.trip, .lockout, .welded] := fun t => by
    unfold State.clearConn
    split
    · next h =>
      intro l hl
      cases l
      case trip | lockout | welded => simp at hl
      case outOfService => intro hs; simp [State.clearsConn, hs] at h
      all_goals exact State.KeepsLatches.of_protection (State.KeepsBlocks.setConn t _ _).toKeepsProtection _ (by simp)
    · exact .refl t
  exact State.judgeRequest_latches _ _ _ _ ((untripped.trans (unlocked _)).trans (State.reply_latches _ _ _ _))

/-- FIRE_RESET clears the fire state, the latch and the container fire flag (R61, R122). -/
theorem State.doFireReset_latches (s : State) (args : List Byte) :
    s.KeepsLatches (s.doFireReset args) [.alarm, .released, .containerFire, .runaway] := by
  have evaluated : ∀ t : State, t.KeepsLatches t.evaluateContainerFire [.alarm, .released, .containerFire, .runaway] :=
    fun t l hl => t.evaluateContainerFire_latches l fun hm => hl (by simp at hm; simp [hm])
  have normal : ∀ t : State, t.KeepsLatches (t.setFire .normal) [.alarm, .released, .containerFire, .runaway] :=
    fun t l hl => t.setFire_latches _ l fun hm => hl (by simp at hm; simp only [List.mem_cons]; tauto)
  have unlatched : s.KeepsLatches { s with env := { s.env with latch := false, riseFlag := false, ring := [] } }
      [.alarm, .released, .containerFire, .runaway] := by
    intro l hl
    cases l
    case runaway => simp at hl
    all_goals simp +contextual [Latch.kept]
  have reset : s.KeepsLatches s.resetFire [.alarm, .released, .containerFire, .runaway] := by
    unfold State.resetFire
    exact .trans (.trans (.trans (.trans (.trans unlatched (State.setRepeat_latches _ _)) (State.setCountdown_latches _ _))
      (State.setFireLines_latches _ _ _ _)) (normal _))
      (.of_safe ((State.enqueue_safe _ _).trans (State.thermalReview_safe _)))
  refine State.judgeRequest_latches _ _ _ _ ?_
  unfold State.fireResetEffect
  split
  · exact (evaluated s).trans (State.reply_latches _ _ _ _)
  · split
    · exact (reset.trans (evaluated _)).trans (State.reply_latches _ _ _ _)
    · exact (evaluated s).trans (State.reply_latches _ _ _ _)

theorem State.setBreakerHold_latches (s : State) (b : Bool) {e : List Latch} : s.KeepsLatches (s.setBreakerHold b) e :=
  .of_same rfl rfl rfl rfl rfl rfl rfl rfl

theorem State.doBreakerHold_latches (s : State) (args : List Byte) {e : List Latch} :
    s.KeepsLatches (s.doBreakerHold args) e :=
  State.judgeRequest_latches _ _ _ _ ((s.setBreakerHold_latches _).trans (State.reply_latches _ _ _ _))

theorem State.doBreakerRelease_latches (s : State) (args : List Byte) {e : List Latch} :
    s.KeepsLatches (s.doBreakerRelease args) e :=
  State.judgeRequest_latches _ _ _ _ ((s.setBreakerHold_latches _).trans (State.reply_latches _ _ _ _))

theorem State.doCensusRequest_latches (s : State) (args : List Byte) {e : List Latch} :
    s.KeepsLatches (s.doCensusRequest args) e :=
  State.judgeRequest_latches _ _ _ _ (by
    split
    · split
      · exact s.reply_latches _ _ _
      · exact .trans (t := { s with svc := { s.svc with gatewayCensus := some (args.getD 0 0, args.getD 1 0) } })
          (.of_same rfl rfl rfl rfl rfl rfl rfl rfl) (.of_safe (State.enqueue_safe _ _))
    · exact s.reply_latches _ _ _)

/-- A kind that no request has is ignored or answered UNKNOWN (R178). -/
theorem State.doKind_latches (s : State) {kind : Byte} (args : List Byte) (h : listedServiceKind kind = false) {e : List Latch} :
    s.KeepsLatches (s.doKind kind args) e := by
  simp only [listedServiceKind, Bool.or_eq_false_iff, Bool.and_eq_false_iff, decide_eq_false_iff_not] at h
  unfold State.doKind
  split
  case h_14 => exact .refl s
  case h_15 => exact s.reply_latches _ _ _
  all_goals omega

/-! ### RESTART -/

/-- A RESTART is accepted in states that take no forced leave (R140, R181). -/
theorem takesForcedLeave_of_restartAllowed {s : State} (h : s.restartAllowed = true) :
    takesForcedLeave s.conn.state = false := by
  simp only [State.restartAllowed, Bool.and_eq_true, Bool.or_eq_true, beq_iff_eq] at h
  obtain ⟨(hs | hs) | hs, -⟩ := h <;> rw [hs] <;> rfl

/-- A connection state that takes no forced leave is left as it is by the review of the causes (R140). -/
theorem reviewForced_of_not_taken {s : State} (h : takesForcedLeave s.conn.state = false) : s.reviewForced = s := by
  unfold State.reviewForced
  rw [forcedLeave_of_not_taken h, ite_self]

/-- With room for its reply, a RESTART leaves the latches as they are, and no reset is due at the end of its step (R181). -/
theorem takeRequest_restart {s : State} (sender : BitVec 5) (payload : List Byte) (hr : s.svc.restart = .none)
    (hroom : s.Room) :
    s.KeepsLatches (s.takeRequest sender payload fun args t => t.doRestart args) [.restart]
      ∧ (s.takeRequest sender payload fun args t => t.doRestart args).settle.svc.restart ≠ .due := by
  have kept : ∀ u : State, s.KeepsLatches u [] → s.KeepsLatches u [.restart] ∧ u.settle.svc.restart ≠ .due := fun u h =>
    ⟨h.allow, by simp [settle_restart_of_none (h .restart List.not_mem_nil hr)]⟩
  rcases takeRequest_cases s sender payload (fun args t => t.doRestart args) with h | h | ⟨args, h⟩ <;> rw [h]
  · exact kept _ (.refl s)
  · exact kept _ s.heard_latches
  · unfold State.doRestart State.judgeRequest
    have replied : ∀ result, s.KeepsLatches (s.heard.reply 13 result []) [] := fun result =>
      s.heard_latches.trans (State.reply_latches _ _ _ _)
    split
    · exact kept _ (replied _)
    · rw [if_pos (by rfl)]
      dsimp only
      split
      · next hallow =>
        rw [if_neg (show s.heard.svc.restart ≠ .pending by rw [show s.heard.svc.restart = .none from hr]; simp),
          enqueue_of_room (show ({ s.heard with svc := { s.heard.svc with restart := .pending } } : State).link.queue.length < 8
            from hroom)]
        constructor
        · intro l hl
          cases l
          case restart => simp at hl
          all_goals simp +contextual [Latch.kept, State.queued, State.heard]
        · have idle : takesForcedLeave s.conn.state = false := takesForcedLeave_of_restartAllowed hallow
          rw [State.settle, reviewForced_of_not_taken (by exact idle)]
          exact fun hd => nomatch hd
      · exact kept _ (replied _)

/-! ### Every command -/

/-- Every command but POWER_ON_RESET and RESTART keeps the latches that it is not named to clear. -/
theorem exec_latches {c : Instr} {s t : State} (hwf : c.wf = true) (hd : s.DrivesFollow) (hr : s.svc.restart = .none)
    (hreset : ∀ straps, c ≠ .powerOnReset straps) (hrestart : ∀ sender payload, c ≠ .restart sender payload)
    (h : exec c s = .next t) : s.KeepsLatches t (clearedBy c) := by
  have he : Latch.restart ∉ clearedBy c := by cases c <;> simp [clearedBy]
  cases c with
  | powerOnReset straps => exact absurd rfl (hreset straps)
  | configLoad image => exact latches_of_finish (s.loadConfig_latches image) he hr h
  | scanIntervalExpiry => exact latches_of_finish s.scanInterval_latches he hr h
  | chainReplyArrival reply => exact latches_of_finish (s.replyArrives_latches reply) he hr h
  | chainReplyWaitExpiry => exact latches_of_finish s.replyWaitExpires_latches he hr h
  | loopSample a b => exact latches_of_finish (s.sampleLoops_latches a b) he hr h
  | runawaySample => exact latches_of_finish s.sampleRunaway_latches he hr h
  | releaseCountdownExpiry => exact latches_of_finish s.countdownExpires_latches he hr h
  | censusRepeatExpiry => exact latches_of_finish s.repeatExpires_latches he hr h
  | abortInputChange b => exact latches_of_finish (s.abortChange_latches b) he hr h
  | maintenanceKeyChange b => exact latches_of_finish (s.keyChange_latches b) he hr h
  | chillerFaultInputChange b => exact latches_of_finish (s.chillerFaultChange_latches b) he hr h
  | heatSoakExpiry => exact latches_of_finish s.heatSoakExpire_latches he hr h
  | recoveryExpiry => exact latches_of_finish s.recoveryExpire_latches he hr h
  | apExpiry => exact latches_of_finish s.apExpires_latches he hr h
  | announceArrival n p =>
    exact latches_of_finish (State.receiveKind_latches p 24 fun t => t.takeAnnounce_latches _ p) he hr h
  | fireNoticeArrival n p =>
    exact latches_of_finish (State.receiveKind_latches p 3 fun t => t.takeFireNotice_latches _ p) he hr h
  | joinClaimArrival n p =>
    exact latches_of_finish (State.receiveKind_latches p 0 fun t => .of_safe (t.takeJoinClaim_safe _)) he hr h
  | joinDoneArrival n p =>
    exact latches_of_finish (State.receiveKind_latches p 1 fun t => .of_safe (t.takeJoinDone_safe _)) he hr h
  | heatClaimArrival n p =>
    exact latches_of_finish (State.receiveKind_latches p 0 fun t => .of_safe (t.takeHeatClaim_safe _)) he hr h
  | heatReleaseArrival n p =>
    exact latches_of_finish (State.receiveKind_latches p 0 fun t => .of_safe (t.takeHeatRelease_safe _)) he hr h
  | censusCallArrival n p =>
    exact latches_of_finish (State.receiveKind_latches p 2 fun t => .of_safe (t.takeCensusCall_safe _ p)) he hr h
  | censusWindowCompletion w => exact latches_of_finish (s.windowCompletes_latches w) he hr h
  | linkIdleAttemptStart b => exact latches_of_finish (s.attemptStart_latches b) he hr h
  | lostArbitration => exact latches_of_finish (.of_safe s.arbitrationLost_safe) he hr h
  | attemptBitError n => exact latches_of_finish (s.bitError_latches n) he hr h
  | ownFrameCompletion => exact latches_of_finish (.of_safe s.frameCompletes_safe) he hr h
  | headTimerExpiry => exact latches_of_finish (.of_safe s.headExpires_safe) he hr h
  | holdTimerExpiry => exact latches_of_finish (.of_safe s.holdExpires_safe) he hr h
  | auxInputChange p n => exact latches_of_finish (State.auxChange_latches p n hd) he hr h
  | auxWindowExpiry => exact latches_of_finish (State.auxWindowExpires_latches hd) he hr h
  | prechargeTimerExpiry => exact latches_of_finish (.of_safe s.prechargeExpires_safe) he hr h
  | leaveTimerExpiry => exact latches_of_finish (.of_safe s.leaveExpires_safe) he hr h
  | failureHoldExpiry => exact latches_of_finish s.failureHoldExpires_latches he hr h
  | gridHealthyChange b => exact latches_of_finish (s.gridChange_latches b) he hr h
  | reconnectExpiry => exact latches_of_finish s.reconnectExpires_latches he hr h
  | readStatus n p => exact latches_of_finish (State.takeRequest_latches n p fun x t => t.doReadStatus_latches x) he hr h
  | readModule n p => exact latches_of_finish (State.takeRequest_latches n p fun x t => t.doReadModule_latches x) he hr h
  | setSiteCap n p => exact latches_of_finish (State.takeRequest_latches n p fun x t => t.doSetSiteCap_latches x) he hr h
  | holdJoin n p => exact latches_of_finish (State.takeRequest_latches n p fun x t => t.doHoldJoin_latches x) he hr h
  | resumeJoin n p => exact latches_of_finish (State.takeRequest_latches n p fun x t => t.doResumeJoin_latches x) he hr h
  | takeOut n p => exact latches_of_finish (State.takeRequest_latches n p fun x t => t.doTakeOut_latches x) he hr h
  | returnRack n p => exact latches_of_finish (State.takeRequest_latches n p fun x t => t.doReturn_latches x) he hr h
  | clearLockout n p =>
    exact latches_of_finish (State.takeRequest_latches n p fun x t => t.doClearLockout_latches x) he hr h
  | fireReset n p => exact latches_of_finish (State.takeRequest_latches n p fun x t => t.doFireReset_latches x) he hr h
  | breakerHold n p => exact latches_of_finish (State.takeRequest_latches n p fun x t => t.doBreakerHold_latches x) he hr h
  | breakerRelease n p =>
    exact latches_of_finish (State.takeRequest_latches n p fun x t => t.doBreakerRelease_latches x) he hr h
  | censusRequest n p =>
    exact latches_of_finish (State.takeRequest_latches n p fun x t => t.doCensusRequest_latches x) he hr h
  | restart n p => exact absurd rfl (hrestart n p)
  | unknownRequest n k p =>
    have hk : listedServiceKind k = false := by
      simp only [Instr.wf, Bool.and_eq_true, Bool.not_eq_true'] at hwf
      exact hwf.1
    exact latches_of_finish (State.takeRequest_latches n p fun x t => t.doKind_latches x hk) he hr h
  | receivedFrameDiscard r => exact latches_of_finish (.of_safe (s.discardFrame_safe r)) he hr h

/-- In OUT_OF_SERVICE the expiry of a window leads to WELDED or nowhere (R128). -/
theorem exec_auxWindowExpiry_of_outOfService {s t : State} (hd : s.DrivesFollow) (hr : s.svc.restart = .none)
    (hs : s.conn.state = .outOfService) (h : exec .auxWindowExpiry s = .next t) :
    t.conn.state = .outOfService ∨ t.conn.state = .welded := by
  have hn := State.auxWindowExpires_latches hd .restart (by simp) hr
  obtain rfl : s.auxWindowExpires.settle = t := Host.Outcome.next.inj ((finish_of_none hn).symm.trans h)
  rcases State.auxWindowExpires_of_latched hd (by rw [hs]; rfl) with hx | ⟨-, hx⟩
  · exact .inl (State.settle_latches (e := []) _ .outOfService List.not_mem_nil (by rw [hx]; exact hs))
  · exact .inr (State.settle_latches (e := []) _ .welded List.not_mem_nil hx)

/-- Every command but POWER_ON_RESET, a RESTART with room for its reply included, keeps the latches that it is not named to
clear; that no restart is pending is not among them here. -/
theorem exec_latches_of_room {c : Instr} {s t : State} (hwf : c.wf = true) (hd : s.DrivesFollow)
    (hr : s.svc.restart = .none) (hroom : ∀ sender payload, c = .restart sender payload → s.Room)
    (hreset : ∀ straps, c ≠ .powerOnReset straps) (h : exec c s = .next t) {l : Latch} (hl : l ∉ clearedBy c)
    (hne : l ≠ .restart) : l.kept s t := by
  by_cases hc : ∃ sender payload, c = .restart sender payload
  · obtain ⟨sender, payload, rfl⟩ := hc
    obtain ⟨hk, hdue⟩ := takeRequest_restart sender payload hr (hroom sender payload rfl)
    obtain rfl := Host.Outcome.next.inj ((finish_of_not_due hdue).symm.trans h)
    exact hk.trans (State.settle_latches _) l (by simpa using hne)
  · simp only [not_exists] at hc
    exact exec_latches hwf hd hr hreset hc h l hl

/-- Settles O6: every command keeps the latches that it is not named to clear. -/
theorem latchedUntilCleared : Obligations.LatchedUntilCleared := by
  intro c s t hwf _ hd hr hroom hreset h
  have kept : ∀ l, l ∉ clearedBy c → l ≠ .restart → l.kept s t := fun l =>
    exec_latches_of_room hwf hd hr hroom hreset h
  have always : ∀ l, l = .settings ∨ l = .configFault ∨ l = .safe ∨ l = .duplicateId → l ∉ clearedBy c := by
    rintro l (rfl | rfl | rfl | rfl) <;> cases c <;> simp [clearedBy]
  refine ⟨fun hc => ?_, fun hc => ?_, fun hc hs => ?_, fun hm => (kept .settings (always _ (by simp)) nofun hm).2,
    kept .configFault (always _ (by simp)) nofun, kept .safe (always _ (by simp)) nofun,
    kept .duplicateId (always _ (by simp)) nofun, fun h1 h2 => kept .pair ?_ nofun⟩
  · have hkeeps : ∀ l, l = .trip ∨ l = .lockout ∨ l = .welded → l ∉ clearedBy c := by
      cases c
      case clearLockout n p => exact absurd rfl (hc n p)
      all_goals rintro l (rfl | rfl | rfl) <;> simp [clearedBy]
    exact ⟨kept .trip (hkeeps _ (by simp)) nofun, kept .lockout (hkeeps _ (by simp)) nofun,
      kept .welded (hkeeps _ (by simp)) nofun⟩
  · have hkeeps : ∀ l, l = .alarm ∨ l = .released ∨ l = .containerFire ∨ l = .runaway → l ∉ clearedBy c := by
      cases c
      case fireReset n p => exact absurd rfl (hc n p)
      all_goals rintro l (rfl | rfl | rfl | rfl) <;> simp [clearedBy]
    exact ⟨kept .alarm (hkeeps _ (by simp)) nofun, kept .released (hkeeps _ (by simp)) nofun,
      kept .containerFire (hkeeps _ (by simp)) nofun, kept .runaway (hkeeps _ (by simp)) nofun⟩
  · by_cases haux : c = .auxWindowExpiry
    · subst haux
      exact (exec_auxWindowExpiry_of_outOfService hd hr hs h).imp id fun hw => ⟨rfl, hw⟩
    · refine .inl (kept .outOfService ?_ nofun hs)
      cases c
      case returnRack n p => exact absurd rfl (hc n p)
      case auxWindowExpiry => exact absurd rfl haux
      all_goals simp [clearedBy]
  · cases c
    case chainReplyArrival r => exact absurd rfl (h1 r)
    case chainReplyWaitExpiry => exact absurd rfl h2
    all_goals simp [clearedBy]

end Sys2Proof.Machine

namespace Sys2Proof.Machine

open Sys2Proof

/-! ### The readings of the chain controller -/

/-- Two chain controllers hold the same readings: they differ at most in the scan in flight, the owed scan, the scan timer and
the balance masks. -/
structure Chain.SameReadings (a b : Chain) : Prop where
  record : b.record = a.record
  sense : b.sense = a.sense
  modules : b.modules.map ModuleRecord.unmasked = a.modules.map ModuleRecord.unmasked
  vmin : b.vmin = a.vmin
  vmax : b.vmax = a.vmax
  tmin : b.tmin = a.tmin
  tmax : b.tmax = a.tmax
  dataLoss : b.dataLoss = a.dataLoss
  tempLoss : b.tempLoss = a.tempLoss
  chainBreak : b.chainBreak = a.chainBreak
  staleLeave : b.staleLeave = a.staleLeave

namespace Chain.SameReadings

theorem refl (a : Chain) : a.SameReadings a := by constructor <;> rfl

theorem symm {a b : Chain} (h : a.SameReadings b) : b.SameReadings a where
  record := h.record.symm
  sense := h.sense.symm
  modules := h.modules.symm
  vmin := h.vmin.symm
  vmax := h.vmax.symm
  tmin := h.tmin.symm
  tmax := h.tmax.symm
  dataLoss := h.dataLoss.symm
  tempLoss := h.tempLoss.symm
  chainBreak := h.chainBreak.symm
  staleLeave := h.staleLeave.symm

theorem trans {a b d : Chain} (h : a.SameReadings b) (k : b.SameReadings d) : a.SameReadings d where
  record := k.record.trans h.record
  sense := k.sense.trans h.sense
  modules := k.modules.trans h.modules
  vmin := k.vmin.trans h.vmin
  vmax := k.vmax.trans h.vmax
  tmin := k.tmin.trans h.tmin
  tmax := k.tmax.trans h.tmax
  dataLoss := k.dataLoss.trans h.dataLoss
  tempLoss := k.tempLoss.trans h.tempLoss
  chainBreak := k.chainBreak.trans h.chainBreak
  staleLeave := k.staleLeave.trans h.staleLeave

/-- What keeps every reading and the records but for their masks keeps the readings of the chain controller. -/
theorem of_keeps {s t : State} (h : s.KeepsReadings t) (k : s.KeepsProtection t) : s.chain.SameReadings t.chain where
  record := h.record
  sense := h.sense
  modules := k.records
  vmin := h.vmin
  vmax := h.vmax
  tmin := h.tmin
  tmax := h.tmax
  dataLoss := h.dataLoss
  tempLoss := h.tempLoss
  chainBreak := h.chainBreak
  staleLeave := h.staleLeave

/-- The eligible modules are the same but for their masks (R13). -/
theorem eligible {a b : Chain} (h : a.SameReadings b) (m : Nat) :
    (b.eligible m).map ModuleRecord.unmasked = (a.eligible m).map ModuleRecord.unmasked := by
  have of_unmasked : ∀ ch : Chain, (ch.eligible m).map ModuleRecord.unmasked
      = ((ch.modules.map ModuleRecord.unmasked).take m).filter (·.age ≤ 3) := fun ch => by
    rw [Chain.eligible, ← List.map_take, List.filter_map]
    rfl
  rw [of_unmasked, of_unmasked, h.modules]

/-- The ages of positions 1 to M are the same (R9). -/
theorem ages {a b : Chain} (h : a.SameReadings b) (m : Nat) :
    (b.modules.take m).map (·.age) = (a.modules.take m).map (·.age) := by
  have of_unmasked : ∀ ch : Chain, (ch.modules.take m).map (·.age)
      = ((ch.modules.map ModuleRecord.unmasked).take m).map (·.age) := fun ch => by
    rw [← List.map_take, List.map_map]
    rfl
  rw [of_unmasked, of_unmasked, h.modules]

/-- The valid sensors' values are the same (R12). -/
theorem validTemps {a b : Chain} (h : a.SameReadings b) (m : Nat) : b.validTemps m = a.validTemps m := by
  have of_unmasked : ∀ ch : Chain, ch.validTemps m
      = ((ch.eligible m).map ModuleRecord.unmasked).flatMap (fun r => r.temps.filterMap id) := fun ch => by
    rw [List.flatMap_map]
    rfl
  rw [of_unmasked, of_unmasked, h.eligible m]

/-- The cell voltages of the eligible modules are the same (R13). -/
theorem cells {a b : Chain} (h : a.SameReadings b) (m : Nat) :
    (b.eligible m).flatMap (·.cells) = (a.eligible m).flatMap (·.cells) := by
  have of_unmasked : ∀ ch : Chain, (ch.eligible m).flatMap (·.cells)
      = ((ch.eligible m).map ModuleRecord.unmasked).flatMap (·.cells) := fun ch => by
    rw [List.flatMap_map]
    rfl
  rw [of_unmasked, of_unmasked, h.eligible m]

/-- The record at a place is the same but for its mask. -/
theorem getD {a b : Chain} (h : a.SameReadings b) (k : Nat) :
    (b.modules.getD k ModuleRecord.reset).unmasked = (a.modules.getD k ModuleRecord.reset).unmasked := by
  have of_unmasked : ∀ ch : Chain, (ch.modules.getD k ModuleRecord.reset).unmasked
      = (ch.modules.map ModuleRecord.unmasked).getD k ModuleRecord.reset := fun ch => by
    simp only [List.getD_eq_getElem?_getD, List.getElem?_map]
    cases ch.modules[k]? <;> rfl
  rw [of_unmasked, of_unmasked, h.modules]

/-- The record of a position is the same but for its mask. -/
theorem moduleRecord {s t : State} (h : s.chain.SameReadings t.chain) (p : Nat) :
    (t.moduleRecord p).age = (s.moduleRecord p).age ∧ (t.moduleRecord p).cells = (s.moduleRecord p).cells
      ∧ (t.moduleRecord p).temps = (s.moduleRecord p).temps := by
  have hp := h.getD (p - 1)
  exact ⟨congrArg (·.age) hp, congrArg (·.cells) hp, congrArg (·.temps) hp⟩

end Chain.SameReadings

/-! ### The extremes (R13) -/

/-- Folding `min` over a list gives a lower bound that is the start or a member. -/
theorem foldl_min_spec {α : Type} [LinearOrder α] (l : List α) (x : α) :
    (l.foldl min x = x ∨ l.foldl min x ∈ l) ∧ l.foldl min x ≤ x ∧ ∀ y ∈ l, l.foldl min x ≤ y := by
  induction l generalizing x with
  | nil => exact ⟨.inl rfl, le_rfl, fun _ hy => absurd hy List.not_mem_nil⟩
  | cons z l ih =>
    obtain ⟨hmem, hle, hall⟩ := ih (min x z)
    refine ⟨?_, hle.trans (min_le_left x z), fun y hy => ?_⟩
    · rcases hmem with h | h
      · rcases min_choice x z with hx | hz
        · exact .inl (h.trans hx)
        · exact .inr (List.mem_cons.mpr (.inl (h.trans hz)))
      · exact .inr (List.mem_cons_of_mem z h)
    · rcases List.mem_cons.mp hy with rfl | hy
      · exact hle.trans (min_le_right x y)
      · exact hall y hy

/-- The kept-or-lowest value of a list is the lowest of what the list counts (R13). -/
theorem lowestOf_minOr {α : Type} [LinearOrder α] {counts : α → Prop} {l : List α} (kept : α)
    (h : ∀ v, counts v ↔ v ∈ l) : LowestOf counts kept (minOr kept l) := by
  cases l with
  | nil => exact ⟨fun ⟨v, hv⟩ => absurd ((h v).mp hv) List.not_mem_nil, fun _ => rfl⟩
  | cons x xs =>
    obtain ⟨hmem, hle, hall⟩ := foldl_min_spec xs x
    refine ⟨fun _ => ⟨(h _).mpr ?_, fun v hv => ?_⟩, fun hn => absurd ((h x).mpr List.mem_cons_self) (hn x)⟩
    · exact hmem.elim (fun he => List.mem_cons.mpr (.inl he)) (List.mem_cons_of_mem x)
    · rcases List.mem_cons.mp ((h v).mp hv) with rfl | hv
      · exact hle
      · exact hall v hv

/-- The highest of a list is the lowest in the reversed order. -/
theorem highestOf_maxOr {α : Type} [LinearOrder α] {counts : α → Prop} {l : List α} (kept : α)
    (h : ∀ v, counts v ↔ v ∈ l) : HighestOf counts kept (maxOr kept l) := by
  have hdual : (maxOr kept l : α) = OrderDual.ofDual (minOr (α := αᵒᵈ) (OrderDual.toDual kept) l) := by cases l <;> rfl
  rw [hdual]
  exact lowestOf_minOr (α := αᵒᵈ) (counts := counts) (l := l) kept h

/-- A record that the aggregates count stands at a position of 1 to M (R13). -/
theorem exists_eligible_iff {s : State} {m : Nat} {P : ModuleRecord → Prop} :
    (∃ r ∈ s.chain.eligible m, P r) ↔ ∃ p, 1 ≤ p ∧ p ≤ m ∧ (s.moduleRecord p).age ≤ 3 ∧ P (s.moduleRecord p) := by
  simp only [Chain.eligible, List.mem_filter, decide_eq_true_eq, State.moduleRecord, List.getD_eq_getElem?_getD]
  constructor
  · rintro ⟨r, ⟨hr, ha⟩, hP⟩
    obtain ⟨k, hk⟩ := List.mem_iff_getElem?.mp hr
    rw [List.getElem?_take] at hk
    split at hk
    · exact ⟨k + 1, by omega, by omega, by simpa [hk] using ha, by simpa [hk] using hP⟩
    · cases hk
  · rintro ⟨p, h1, hm, ha, hP⟩
    cases hk : s.chain.modules[p - 1]? with
    | none => simp [hk, ModuleRecord.reset] at ha
    | some r =>
      rw [hk] at ha hP
      exact ⟨r, ⟨List.mem_iff_getElem?.mpr ⟨p - 1, by rw [List.getElem?_take, if_pos (by omega), hk]⟩, ha⟩, hP⟩

/-- The cell voltages counted are those of the eligible modules (R13). -/
theorem countsCell_iff {s : State} {m v : Nat} : s.CountsCell m v ↔ v ∈ (s.chain.eligible m).flatMap (·.cells) :=
  (exists_eligible_iff (P := fun r => v ∈ r.cells)).symm.trans List.mem_flatMap.symm

/-- The temperatures counted are those of the valid sensors (R12, R13). -/
theorem countsTemp_iff {s : State} {m : Nat} {x : Int} : s.CountsTemp m x ↔ x ∈ s.chain.validTemps m := by
  rw [Chain.validTemps, List.mem_flatMap, State.CountsTemp, ← exists_eligible_iff (P := fun r => some x ∈ r.temps)]
  simp

/-! ### The chain controller at a completion -/

/-- The record of a position of 1 to M after the ages of a completion (R9). -/
theorem aged_getD (ch : Chain) {m p : Nat} (goods : List Nat) (h1 : 1 ≤ p) (hm : p ≤ m) (hl : p ≤ ch.modules.length) :
    (ch.aged m goods).modules.getD (p - 1) ModuleRecord.reset =
      { ch.modules.getD (p - 1) ModuleRecord.reset with
        age := nextAge (goods.contains p) (ch.modules.getD (p - 1) ModuleRecord.reset).age } := by
  have hk : p - 1 < ch.modules.length := by omega
  have hlt : p - 1 < m := by omega
  simp [Chain.aged, List.getD_eq_getElem?_getD, hk, hlt, Nat.sub_add_cancel h1]

/-- DATA_LOSS after a completion is judged on the records that it leaves (R10). -/
theorem completed_dataLoss (ch : Chain) (c : ConfigSet) (stop : Option Nat) (goods bad : List Nat) :
    (ch.completed c stop goods bad).dataLoss = (ch.completed c stop goods bad).dataLossNow c.modules := rfl

/-- So is the stale-data condition (R11). -/
theorem completed_staleLeave (ch : Chain) (c : ConfigSet) (stop : Option Nat) (goods bad : List Nat) :
    (ch.completed c stop goods bad).staleLeave = (ch.completed c stop goods bad).staleNow c.modules := rfl

/-- A state holds what a completion leaves of the chain controller, whatever it holds of masks and of the next scan, where that
scan is the one that was owed (R4, R9 to R13). -/
theorem chainCompleted_of_sameReadings {s t : State} {c : ConfigSet} {stop : Option Nat} {goods bad : List Nat}
    (h : (s.chain.completed c stop goods bad).SameReadings t.chain) (howed : t.chain.owed = false)
    (hscan : t.chain.scan = if s.chain.owed then some ⟨0, 1, false, [], [], []⟩ else none) :
    s.ChainCompleted t c goods := by
  have hsense := h.sense
  have hages : (s.chain.completed c stop goods bad).ages c.modules
      = t.chain.sense.age :: (t.chain.modules.take c.modules).map (·.age) := by
    rw [h.ages c.modules, h.sense]
    rfl
  have hcells : ∀ v, t.CountsCell c.modules v ↔
      v ∈ ((s.chain.completed c stop goods bad).eligible c.modules).flatMap (·.cells) := fun v => by
    rw [countsCell_iff, h.cells]
  have htemps : ∀ x, t.CountsTemp c.modules x ↔ x ∈ (s.chain.completed c stop goods bad).validTemps c.modules := fun x => by
    rw [countsTemp_iff, h.validTemps]
  refine ⟨?_, fun p h1 hm hl => ?_, ?_, ?_, ?_, ?_, ?_, ?_, ?_, howed, hscan⟩
  · rw [hsense]
    simp [Chain.completed, Chain.flagged, Chain.aggregated, Chain.aged, nextAge]
  · have hrec := aged_getD s.chain goods h1 hm hl
    obtain ⟨ha, hc, ht⟩ := Chain.SameReadings.moduleRecord
      (s := { s with chain := s.chain.completed c stop goods bad }) (t := t) h p
    have hdone : (({ s with chain := s.chain.completed c stop goods bad } : State).moduleRecord p) =
        { s.moduleRecord p with age := nextAge (goods.contains p) (s.moduleRecord p).age } := hrec
    rw [ha, hc, ht, hdone]
    simp [nextAge]
  · rw [h.dataLoss, ← hages, completed_dataLoss]
    simp [Chain.dataLossNow]
  · rw [h.staleLeave, ← hages, completed_staleLeave]
    simp [Chain.staleNow]
  · rw [h.tempLoss]
    change decide _ = true ↔ 2 * (t.chain.validTemps c.modules).length < _
    rw [h.validTemps, decide_eq_true_eq]
    rfl
  · rw [h.vmin]
    exact lowestOf_minOr _ hcells
  · rw [h.vmax]
    exact highestOf_maxOr _ hcells
  · rw [h.tmin]
    exact lowestOf_minOr _ htemps
  · rw [h.tmax]
    exact highestOf_maxOr _ htemps

/-- The stale-data condition is DATA_LOSS of older records (R10, R11). -/
theorem completed_dataLoss_of_stale {ch : Chain} {c : ConfigSet} {stop : Option Nat} {goods bad : List Nat}
    (h : (ch.completed c stop goods bad).staleLeave = true) : (ch.completed c stop goods bad).dataLoss = true := by
  rw [completed_staleLeave, Chain.staleNow] at h
  rw [completed_dataLoss, Chain.dataLossNow]
  simp only [List.any_eq_true, decide_eq_true_eq] at h ⊢
  obtain ⟨a, ha, hlt⟩ := h
  exact ⟨a, ha, by omega⟩

end Sys2Proof.Machine

namespace Sys2Proof.Machine

open Sys2Proof

/-! ### What the heater operations read

They read no envelope and no balance set, and of the chain controller the extremes, TEMP_LOSS and the inlet temperature alone. So
two states that differ in nothing else come out of them alike. -/

/-- A state with the chain controller, the envelope unit and the balance unit of another. -/
def State.graft (s d : State) : State := { s with chain := d.chain, env := d.env, balance := d.balance }

/-- An operation that neither reads nor changes the chain controller, the envelope unit and the balance unit. -/
def IgnoresReadings (f : State → State) : Prop := ∀ s d : State, f (s.graft d) = (f s).graft d

namespace IgnoresReadings

theorem comp {f g : State → State} (hg : IgnoresReadings g) (hf : IgnoresReadings f) : IgnoresReadings fun s => g (f s) :=
  fun s d => (congrArg g (hf s d)).trans (hg (f s) d)

theorem ite {p : State → Prop} [DecidablePred p] {f g : State → State} (hp : ∀ s d, p (s.graft d) ↔ p s)
    (hf : IgnoresReadings f) (hg : IgnoresReadings g) : IgnoresReadings fun s => if p s then f s else g s := by
  intro s d
  by_cases h : p s
  · simpa only [if_pos h, if_pos ((hp s d).mpr h)] using hf s d
  · simpa only [if_neg h, if_neg ((hp s d).not.mpr h)] using hg s d

/-- It leaves the three units as they are. -/
theorem keeps {f : State → State} (h : IgnoresReadings f) (s : State) :
    (f s).chain = s.chain ∧ (f s).env = s.env ∧ (f s).balance = s.balance := by
  have hs : f s = (f s).graft s := h s s
  exact ⟨by rw [hs]; rfl, by rw [hs]; rfl, by rw [hs]; rfl⟩

end IgnoresReadings

theorem reportLoss_ignores (e : Entry) : IgnoresReadings fun s => s.reportLoss e := by
  have hdue : IgnoresReadings State.dueRestart := .ite (fun _ _ => Iff.rfl) (fun _ _ => rfl) fun _ _ => rfl
  intro s d
  simp only [State.reportLoss]
  cases e.cls with
  | claim => dsimp only; split <;> rfl
  | census =>
    cases e.purpose with
    | joinCheckCall =>
      change (match s.conn.check with | .callPending _ => _ | .none => _) = _
      cases s.conn.check <;> rfl
    | _ => rfl
  | service =>
    cases e.purpose with
    | restartReply => exact hdue s d
    | _ => rfl
  | _ => rfl

theorem enqueue_ignores (e : Entry) : IgnoresReadings fun s => s.enqueue e := by
  refine .ite (fun _ _ => Iff.rfl) (fun _ _ => rfl) fun s d => ?_
  change (match lastWaiting s.link.queue with | none => _ | some v => _) = _
  cases lastWaiting s.link.queue with
  | none => exact reportLoss_ignores e s.congest d
  | some v =>
    dsimp only
    split
    · exact reportLoss_ignores v (s.setQueue (insertByClass e (eraseLastWaiting s.link.queue))).congest d
    · exact reportLoss_ignores e s.congest d

theorem slotSignal_ignores : IgnoresReadings State.slotSignal :=
  .ite (fun _ _ => Iff.rfl) (fun _ _ => rfl) (.ite (fun _ _ => Iff.rfl)
    (.ite (fun _ _ => Iff.rfl) (fun _ _ => rfl) fun _ _ => rfl)
    (.ite (fun _ _ => Iff.rfl) (fun _ _ => rfl) fun _ _ => rfl))

theorem rotate_ignores : IgnoresReadings State.rotate :=
  (enqueue_ignores heatReleaseFrame).comp (f := fun s => s.setHeatOwn (.releaseQueued s.thermal.demand)) fun _ _ => rfl

theorem evalSlot_ignores : IgnoresReadings State.evalSlot :=
  .ite (fun s d => by rw [slotSignal_ignores s d]; rfl) (slotSignal_ignores.comp (rotate_ignores.comp slotSignal_ignores))
    slotSignal_ignores

theorem heatClaim_ignores : IgnoresReadings State.heatClaim := by
  refine .ite (fun _ _ => Iff.rfl) (fun s d => ?_) fun _ _ => rfl
  change (match s.claims.heat.own with
    | .notClaimed => _ | .claimQueued _ => _ | .listed => _ | .releaseQueued _ => _) = _
  cases s.claims.heat.own with
  | notClaimed => exact enqueue_ignores heatClaimFrame (s.setHeatOwn (.claimQueued false)) d
  | _ => rfl

theorem heatRelease_ignores : IgnoresReadings State.heatRelease := by
  intro s d
  unfold State.heatRelease
  change (match s.claims.heat.own with
    | .notClaimed => _ | .claimQueued _ => _ | .listed => _ | .releaseQueued _ => _) = _
  cases s.claims.heat.own with
  | listed => exact evalSlot_ignores.comp (enqueue_ignores heatReleaseFrame) (s.setHeatOwn (.releaseQueued false)) d
  | _ => rfl

theorem beginDemand_ignores : IgnoresReadings State.beginDemand :=
  heatClaim_ignores.comp (f := fun s => (s.setDemand true).setThermal .heatWait) fun _ _ => rfl

theorem endDemand_ignores : IgnoresReadings State.endDemand :=
  .ite (fun _ _ => Iff.rfl) (heatRelease_ignores.comp (f := fun s => s.setDemand false) fun _ _ => rfl) fun _ _ => rfl

theorem judgeSoak_ignores : IgnoresReadings State.judgeSoak := by
  intro s d
  unfold State.judgeSoak
  change (match s.svc.config with | some c => _ | none => _) = _
  cases s.svc.config <;> rfl

theorem judgeRecovery_ignores : IgnoresReadings State.judgeRecovery := by
  intro s d
  unfold State.judgeRecovery
  change (match s.svc.config with | some c => _ | none => _) = _
  cases s.svc.config <;> rfl

/-- Two states that differ in nothing that the heater operations read. -/
structure State.SameForHeater (s t : State) : Prop where
  rest : t = s.graft t
  chain : s.chain.SameReadings t.chain

namespace State.SameForHeater

theorem of_ignores {f : State → State} (hf : IgnoresReadings f) {s t : State} (h : s.SameForHeater t) :
    (f s).SameForHeater (f t) where
  rest := by
    have ht : f t = (f s).graft t := (congrArg f h.rest).trans (hf s t)
    rw [ht]
    rfl
  chain := by rw [(hf.keeps s).1, (hf.keeps t).1]; exact h.chain

theorem trans {s t u : State} (h : s.SameForHeater t) (k : t.SameForHeater u) : s.SameForHeater u where
  rest := k.rest.trans (congrArg (·.graft u) h.rest)
  chain := h.chain.trans k.chain

theorem symm {s t : State} (h : s.SameForHeater t) : t.SameForHeater s where
  rest := (congrArg (·.graft s) h.rest).symm
  chain := h.chain.symm

theorem thermal {s t : State} (h : s.SameForHeater t) : t.thermal = s.thermal := by rw [h.rest]; rfl

theorem claims {s t : State} (h : s.SameForHeater t) : t.claims = s.claims := by rw [h.rest]; rfl

theorem link {s t : State} (h : s.SameForHeater t) : t.link = s.link := by rw [h.rest]; rfl

/-- A change of the balance set with its masks is not seen by the heater (R44). -/
theorem setMembers (s : State) (m : List (Nat × Nat)) : s.SameForHeater (s.setMembers m) where
  rest := by
    unfold State.setMembers
    split <;> rfl
  chain := .of_keeps (s.setMembers_readings m) (s.setMembers_safe m).toKeepsProtection

theorem setLevel {s t : State} (h : s.SameForHeater t) (k : Nat) : (s.setLevel k).SameForHeater (t.setLevel k) := by
  have levelled : (({ s with thermal := { s.thermal with level := k } } : State)).SameForHeater
      { t with thermal := { t.thermal with level := k } } :=
    .of_ignores (f := fun x => { x with thermal := { x.thermal with level := k } }) (fun _ _ => rfl) h
  unfold State.setLevel
  rw [h.thermal]
  dsimp only
  split
  · exact h
  · split
    · exact .of_ignores judgeSoak_ignores (((setMembers _ _).symm.trans (h.thermal ▸ levelled)).trans (setMembers _ _))
    · exact .of_ignores judgeSoak_ignores (h.thermal ▸ levelled)

theorem nextLevel {s t : State} (h : s.SameForHeater t) (c : ConfigSet) : t.nextLevel c = s.nextLevel c := by
  simp only [State.nextLevel, h.thermal, h.chain.tempLoss, h.chain.tmax]

theorem demandBegins {s t : State} (h : s.SameForHeater t) (c : ConfigSet) (k : Nat) :
    t.demandBegins c k = s.demandBegins c k := by
  simp only [State.demandBegins, h.chain.tempLoss, h.chain.tmin, h.chain.tmax]

theorem demandEnds {s t : State} (h : s.SameForHeater t) (c : ConfigSet) (k : Nat) :
    t.demandEnds c k = s.demandEnds c k := by
  simp only [State.demandEnds, h.chain.tempLoss, h.chain.tmin]

theorem setThermal {s t : State} (h : s.SameForHeater t) (st : ThermalState) :
    (s.setThermal st).SameForHeater (t.setThermal st) :=
  .of_ignores (f := fun x => x.setThermal st) (fun _ _ => rfl) h

theorem takeInlet {s t : State} (h : s.SameForHeater t) : s.takeInlet.SameForHeater t.takeInlet where
  rest := by
    have hinlet := congrArg RackSense.inlet h.chain.sense
    rw [State.takeInlet, hinlet, h.rest]
    rfl
  chain := h.chain

theorem completionHeating {s t : State} (h : s.SameForHeater t) (c : ConfigSet) :
    (s.completionHeating c).SameForHeater (t.completionHeating c) := by
  have h0 := h.setLevel 0
  unfold State.completionHeating
  dsimp only
  rw [h0.thermal, h0.demandEnds, h0.demandBegins]
  split
  · split
    · exact (of_ignores endDemand_ignores h0).setThermal _
    · exact .of_ignores heatClaim_ignores h0
  · split
    · exact .of_ignores beginDemand_ignores h0
    · exact h0.setThermal _

theorem completionLevel {s t : State} (h : s.SameForHeater t) (c : ConfigSet) :
    (s.completionLevel c).SameForHeater (t.completionLevel c) := by
  unfold State.completionLevel
  rw [h.thermal, h.nextLevel]
  split
  · exact h
  · split
    · exact h.completionHeating c
    · exact ((of_ignores endDemand_ignores h).setThermal _).setLevel _

/-- A completion of the thermal controller on two states that it cannot tell apart (R91, R93). -/
theorem thermalCompletion {s t : State} (h : s.SameForHeater t) (c : ConfigSet) :
    (s.thermalCompletion c).SameForHeater (t.thermalCompletion c) :=
  .of_ignores judgeRecovery_ignores (.of_ignores judgeSoak_ignores (h.takeInlet.completionLevel c))

end State.SameForHeater

/-! ### The balance set at a completion of the thermal controller (R46) -/

/-- The level is not changed by the operations of the heater's slot. -/
theorem slotSignal_level (s : State) : s.slotSignal.thermal.level = s.thermal.level := by
  unfold State.slotSignal
  split
  · rfl
  · split <;> dsimp only <;> split <;> rfl

theorem evalSlot_level (s : State) : s.evalSlot.thermal.level = s.thermal.level := by
  have rotated : ∀ t : State, t.rotate.thermal = t.thermal := fun t => (State.enqueue_keeps _ _).thermal
  unfold State.evalSlot
  split
  · rw [slotSignal_level, rotated, slotSignal_level]
  · exact slotSignal_level s

theorem endDemand_level (s : State) : s.endDemand.thermal.level = s.thermal.level := by
  have released : ∀ t : State, t.heatRelease.thermal.level = t.thermal.level := fun t => by
    unfold State.heatRelease
    split
    · rfl
    · rfl
    · rw [evalSlot_level, (State.enqueue_keeps _ _).thermal]
      rfl
    · rfl
  unfold State.endDemand
  split
  · exact released _
  · rfl

/-- The members after a change of the own level: none where it comes to 3 (R46). -/
theorem setLevel_members (s : State) (k : Nat) :
    (s.setLevel k).balance.members = if k = 3 ∧ s.thermal.level ≠ 3 then [] else s.balance.members := by
  unfold State.setLevel
  by_cases hk : k = s.thermal.level
  · simp only [if_pos hk]
    rw [if_neg (by omega)]
  · simp only [if_neg hk]
    rw [(judgeSoak_ignores.keeps _).2.2]
    by_cases h3 : k = 3
    · rw [if_pos h3, if_pos ⟨h3, fun hl => hk (h3.trans hl.symm)⟩]
      exact setMembers_members _ []
    · rw [if_neg h3, if_neg (fun h => h3 h.1)]

/-- A completion of the thermal controller empties the balance set where the own level comes to 3 (R46), and changes it nowhere
else. -/
theorem thermalCompletion_members (s : State) (c : ConfigSet) :
    (s.thermalCompletion c).balance.members =
      if s.thermal.state ≠ .inhibited ∧ s.nextLevel c = 3 ∧ s.thermal.level ≠ 3 then [] else s.balance.members := by
  have heating : ∀ t : State, (t.completionHeating c).balance.members = t.balance.members := fun t => by
    have h0 : (t.setLevel 0).balance.members = t.balance.members := by rw [setLevel_members, if_neg (by omega)]
    unfold State.completionHeating
    dsimp only
    split
    · split
      · exact (congrArg Balance.members (endDemand_ignores.keeps _).2.2).trans h0
      · exact (congrArg Balance.members (heatClaim_ignores.keeps _).2.2).trans h0
    · split
      · exact (congrArg Balance.members (beginDemand_ignores.keeps _).2.2).trans h0
      · exact h0
  have level : ∀ t : State, (t.completionLevel c).balance.members =
      if t.thermal.state ≠ .inhibited ∧ t.nextLevel c = 3 ∧ t.thermal.level ≠ 3 then [] else t.balance.members := fun t => by
    unfold State.completionLevel
    by_cases hi : t.thermal.state = .inhibited
    · rw [if_pos hi, if_neg (fun h => h.1 hi)]
    · by_cases h0 : t.nextLevel c = 0
      · rw [if_neg hi, if_pos h0, if_neg (by omega), heating]
      · rw [if_neg hi, if_neg h0, State.completionCooling, setLevel_members, State.setThermal_thermal_level, endDemand_level,
          State.setThermal_balance, (endDemand_ignores.keeps t).2.2]
        simp [hi]
  unfold State.thermalCompletion
  rw [(judgeRecovery_ignores.keeps _).2.2, (judgeSoak_ignores.keeps _).2.2, level]
  rfl

end Sys2Proof.Machine

namespace Sys2Proof.Machine

open Sys2Proof

/-! ### The heater with room in the queue -/

/-- What the heater changes where the queue has room for its frames: the own heater claim and its slot, the thermal controller, the
balance set with its masks, and at most `n` frames more in the queue. -/
structure State.HeaterActs (n : Nat) (s t : State) : Prop where
  rest : t = { s with
    chain := t.chain
    balance := t.balance
    thermal := t.thermal
    claims := { s.claims with heat := t.claims.heat, slotHeld := t.claims.slotHeld, hold := t.claims.hold }
    link := { s.link with queue := t.link.queue } }
  length : t.link.queue.length ≤ s.link.queue.length + n

namespace State.HeaterActs

theorem refl (s : State) : s.HeaterActs 0 s := ⟨rfl, le_rfl⟩

theorem trans {s t u : State} {m n : Nat} (h : s.HeaterActs m t) (k : t.HeaterActs n u) : s.HeaterActs (m + n) u where
  rest := by rw [k.rest, h.rest]
  length := by have := h.length; have := k.length; omega

theorem after {s t u : State} {n : Nat} (h : s.HeaterActs 0 t) (k : t.HeaterActs n u) : s.HeaterActs n u := by
  simpa using h.trans k

theorem mono {s t : State} {m n : Nat} (h : s.HeaterActs m t) (hn : m ≤ n) : s.HeaterActs n t :=
  ⟨h.rest, h.length.trans (by omega)⟩

theorem conn {s t : State} {n : Nat} (h : s.HeaterActs n t) : t.conn = s.conn := by rw [h.rest]

theorem join {s t : State} {n : Nat} (h : s.HeaterActs n t) : t.claims.join = s.claims.join := by rw [h.rest]

theorem lines {s t : State} {n : Nat} (h : s.HeaterActs n t) : t.lines = s.lines := by rw [h.rest]

end State.HeaterActs

theorem enqueue_heaterActs {s : State} {e : Entry} (h : s.link.queue.length < 8) : s.HeaterActs 1 (s.enqueue e) := by
  rw [enqueue_of_room h]
  exact ⟨rfl, (insertByClass_length e _).le⟩

theorem slotSignal_heaterActs (s : State) : s.HeaterActs 0 s.slotSignal := by
  unfold State.slotSignal
  split
  · exact .refl s
  · split <;> dsimp only <;> split <;> exact ⟨rfl, le_rfl⟩

/-- Without the own slot no rotation is due (R82). -/
theorem evalSlot_of_unlisted {s : State} (h : s.claims.heat.own ≠ .listed) : s.evalSlot = s.slotSignal := by
  have hnow : s.slotNow = false := by simp [State.slotNow, h]
  have hheld : s.slotSignal.claims.slotHeld = false := by
    unfold State.slotSignal
    rw [hnow]
    split
    · next hs => exact hs.symm
    · simp only [Bool.false_eq_true, if_false]
      split <;> rfl
  unfold State.evalSlot
  rw [if_neg (by simp [State.rotationDue, hheld])]

theorem heatClaim_heaterActs {s : State} (h : s.link.queue.length < 8) : s.HeaterActs 1 s.heatClaim := by
  unfold State.heatClaim
  split
  · split
    · exact .after (t := s.setHeatOwn (.claimQueued false)) ⟨rfl, le_rfl⟩ (enqueue_heaterActs h)
    · exact ⟨rfl, Nat.le_succ _⟩
    · exact .mono (.refl s) (Nat.zero_le 1)
    · exact ⟨rfl, Nat.le_succ _⟩
  · exact .mono (.refl s) (Nat.zero_le 1)

theorem heatRelease_heaterActs {s : State} (h : s.link.queue.length < 8) : s.HeaterActs 1 s.heatRelease := by
  unfold State.heatRelease
  split
  · exact .mono (.refl s) (Nat.zero_le 1)
  · exact ⟨rfl, Nat.le_succ _⟩
  · have queued : s.HeaterActs 1 ((s.setHeatOwn (.releaseQueued false)).enqueue heatReleaseFrame) :=
      .after (t := s.setHeatOwn (.releaseQueued false)) ⟨rfl, le_rfl⟩ (enqueue_heaterActs h)
    rw [evalSlot_of_unlisted (by rw [enqueue_of_room (s := s.setHeatOwn (.releaseQueued false)) h]; exact nofun)]
    exact queued.trans (slotSignal_heaterActs _)
  · exact ⟨rfl, Nat.le_succ _⟩

theorem beginDemand_heaterActs {s : State} (h : s.link.queue.length < 8) : s.HeaterActs 1 s.beginDemand :=
  .after (s := s) (t := (s.setDemand true).setThermal .heatWait) ⟨rfl, le_rfl⟩ (heatClaim_heaterActs h)

theorem endDemand_heaterActs {s : State} (h : s.link.queue.length < 8) : s.HeaterActs 1 s.endDemand := by
  unfold State.endDemand
  split
  · exact .trans (t := s.setDemand false) ⟨rfl, le_rfl⟩ (heatRelease_heaterActs h)
  · exact .mono (.refl s) (Nat.zero_le 1)

theorem setThermal_heaterActs (s : State) (st : ThermalState) : s.HeaterActs 0 (s.setThermal st) := ⟨rfl, le_rfl⟩

theorem judgeSoak_heaterActs (s : State) : s.HeaterActs 0 s.judgeSoak := by
  unfold State.judgeSoak
  split <;> exact ⟨rfl, le_rfl⟩

theorem judgeRecovery_heaterActs (s : State) : s.HeaterActs 0 s.judgeRecovery := by
  unfold State.judgeRecovery
  split <;> exact ⟨rfl, le_rfl⟩

theorem setMembers_heaterActs (s : State) (m : List (Nat × Nat)) : s.HeaterActs 0 (s.setMembers m) := by
  unfold State.setMembers
  split <;> exact ⟨rfl, le_rfl⟩

theorem setLevel_heaterActs (s : State) (k : Nat) : s.HeaterActs 0 (s.setLevel k) := by
  have levelled : s.HeaterActs 0 { s with thermal := { s.thermal with level := k } } := ⟨rfl, le_rfl⟩
  unfold State.setLevel
  dsimp only
  split
  · exact .refl s
  · split
    · exact (levelled.trans (setMembers_heaterActs _ _)).trans (judgeSoak_heaterActs _)
    · exact levelled.trans (judgeSoak_heaterActs _)

/-- A completion of the thermal controller queues one frame at most (R92 to R94). -/
theorem thermalCompletion_heaterActs {s : State} (c : ConfigSet) (h : s.link.queue.length < 8) :
    s.HeaterActs 1 (s.thermalCompletion c) := by
  have heating : ∀ t : State, t.link.queue.length < 8 → t.HeaterActs 1 (t.completionHeating c) := fun t ht => by
    have h0 := setLevel_heaterActs t 0
    have hroom : (t.setLevel 0).link.queue.length < 8 := h0.length.trans_lt ht
    unfold State.completionHeating
    dsimp only
    split
    · split
      · exact h0.trans ((endDemand_heaterActs hroom).trans (setThermal_heaterActs _ _))
      · exact h0.trans (heatClaim_heaterActs hroom)
    · split
      · exact h0.trans (beginDemand_heaterActs hroom)
      · exact (h0.trans (setThermal_heaterActs _ _)).mono (Nat.zero_le 1)
  have cooling : ∀ t : State, t.link.queue.length < 8 → ∀ k, t.HeaterActs 1 (t.completionCooling k) := fun t ht k =>
    ((endDemand_heaterActs ht).trans (setThermal_heaterActs _ _)).trans (setLevel_heaterActs _ _)
  have level : s.takeInlet.HeaterActs 1 (s.takeInlet.completionLevel c) := by
    unfold State.completionLevel
    split
    · exact .mono (.refl _) (Nat.zero_le 1)
    · split
      · exact heating _ h
      · exact cooling s.takeInlet h _
  exact .after (t := s.takeInlet) ⟨rfl, le_rfl⟩ ((level.trans (judgeSoak_heaterActs _)).trans (judgeRecovery_heaterActs _))

/-! ### The sequencer with room in the queue -/

/-- What the sequencer leaves where the queue has room for its frames: the own heater claim and its slot, and every frame that waits
for no answer; at most `n` frames join the queue. -/
structure State.SequencerActs (n : Nat) (s t : State) : Prop where
  heat : t.claims.heat = s.claims.heat
  slotHeld : t.claims.slotHeld = s.claims.slotHeld
  kept : ∀ e ∈ s.link.queue, e.purpose = .plain → e ∈ t.link.queue
  length : t.link.queue.length ≤ s.link.queue.length + n

namespace State.SequencerActs

theorem refl (s : State) : s.SequencerActs 0 s := ⟨rfl, rfl, fun _ h _ => h, le_rfl⟩

theorem trans {s t u : State} {m n : Nat} (h : s.SequencerActs m t) (k : t.SequencerActs n u) : s.SequencerActs (m + n) u where
  heat := k.heat.trans h.heat
  slotHeld := k.slotHeld.trans h.slotHeld
  kept := fun e he hp => k.kept e (h.kept e he hp) hp
  length := by have := h.length; have := k.length; omega

theorem after {s t u : State} {n : Nat} (h : s.SequencerActs 0 t) (k : t.SequencerActs n u) : s.SequencerActs n u := by
  simpa using h.trans k

theorem mono {s t : State} {m n : Nat} (h : s.SequencerActs m t) (hn : m ≤ n) : s.SequencerActs n t :=
  ⟨h.heat, h.slotHeld, h.kept, h.length.trans (by omega)⟩

/-- A change of the sequencer alone. -/
theorem setSequencer (s : State) (x : Connection) : s.SequencerActs 0 { s with conn := x } :=
  ⟨rfl, rfl, fun _ h _ => h, le_rfl⟩

/-- A change of the own join claim alone. -/
theorem setJoinOwn (s : State) (o : OwnClaim) : s.SequencerActs 0 (s.setJoinOwn o) := ⟨rfl, rfl, fun _ h _ => h, le_rfl⟩

theorem room {s t : State} (h : s.SequencerActs 0 t) (hs : s.link.queue.length < 8) : t.link.queue.length < 8 :=
  h.length.trans_lt hs

end State.SequencerActs

/-- A frame with another purpose is left as it is when a purpose is given another name. -/
theorem mem_retag_of_plain {e : Entry} {old new : Purpose} {q : List Entry} (he : e ∈ q) (hp : e.purpose = .plain)
    (hold : old ≠ .plain) : e ∈ retag old new q :=
  List.mem_map.mpr ⟨e, he, if_neg (by rw [hp]; exact hold.symm)⟩

theorem enqueue_sequencerActs {s : State} {e : Entry} (h : s.link.queue.length < 8) :
    s.SequencerActs 1 (s.enqueue e) := by
  rw [enqueue_of_room h]
  exact ⟨rfl, rfl, fun _ hx _ => mem_insertByClass.mpr (.inr hx), (insertByClass_length e _).le⟩

theorem setConn_sequencerActs (s : State) (st : ConnState) : s.SequencerActs 0 (s.setConn st) := by
  unfold State.setConn
  rcases cancelRestart_cases { s with conn := { s.conn with state := st } } with h | ⟨_, _, h⟩ <;> rw [h]
  · exact .setSequencer s _
  · exact ⟨rfl, rfl, fun e he hp => mem_retag_of_plain he hp nofun, (List.length_map _).le⟩

theorem enterOpening_sequencerActs (s : State) (d : ConnState) : s.SequencerActs 0 (s.enterOpening d) := by
  have finished : ∀ t : State, t.SequencerActs 0 t.finishOpening := fun t =>
    (State.SequencerActs.setSequencer t _).trans (setConn_sequencerActs _ _)
  unfold State.enterOpening
  dsimp only
  split
  · exact ((State.SequencerActs.setSequencer s _).trans (setConn_sequencerActs _ _)).trans (finished _)
  · exact (State.SequencerActs.setSequencer s _).trans (setConn_sequencerActs _ _)

theorem leaveWaitToken_sequencerActs (s : State) (st : ConnState) : s.SequencerActs 0 (s.leaveWaitToken st) := by
  have abandoned : s.SequencerActs 0 s.abandonCheck :=
    ⟨rfl, rfl, fun e he hp => mem_retag_of_plain he hp nofun, (List.length_map _).le⟩
  exact abandoned.trans (setConn_sequencerActs _ _)

theorem seqRelease_sequencerActs {s : State} (r : JoinResult) (h : s.link.queue.length < 8) :
    s.SequencerActs 1 (s.seqRelease r) := by
  have synced : ∀ t : State, t.SequencerActs 0 t.syncToken := fun t => ⟨rfl, rfl, fun _ hx _ => hx, le_rfl⟩
  have requested : s.SequencerActs 1 (s.joinRelease r) := by
    unfold State.joinRelease
    split
    · exact .mono (.refl s) (Nat.zero_le 1)
    · exact .mono (.setJoinOwn s _) (Nat.zero_le 1)
    · exact .after (t := ({ s with claims := { s.claims with doneResult := r } } : State).setJoinOwn (.releaseQueued false))
        ⟨rfl, rfl, fun _ hx _ => hx, le_rfl⟩ (enqueue_sequencerActs h)
    · exact .mono (.setJoinOwn s _) (Nat.zero_le 1)
  exact requested.trans (synced _)

theorem forcedLeave_sequencerActs {s : State} (h : s.link.queue.length < 8) : s.SequencerActs 1 s.forcedLeave := by
  have opened : ∀ d, s.SequencerActs 1 ((s.enterOpening d).seqRelease .failed) := fun d =>
    .trans (enterOpening_sequencerActs s d) (seqRelease_sequencerActs _ ((enterOpening_sequencerActs s d).room h))
  have left : s.SequencerActs 1 ((s.leaveWaitToken .openRack).seqRelease .failed) :=
    .trans (leaveWaitToken_sequencerActs s _) (seqRelease_sequencerActs _ ((leaveWaitToken_sequencerActs s _).room h))
  unfold State.forcedLeave
  split
  case h_1 | h_2 | h_3 | h_4 => exact opened _
  case h_5 => exact left
  all_goals exact .mono (.refl s) (Nat.zero_le 1)

theorem leaveStep2_sequencerActs (s : State) : s.SequencerActs 0 s.leaveStep2 := by
  have finished : ∀ t : State, t.SequencerActs 0 t.finishLeave := fun t =>
    (State.SequencerActs.setSequencer t _).trans (setConn_sequencerActs _ _)
  have third : ∀ t : State, t.SequencerActs 0 t.leaveStep3 := fun t => by
    unfold State.leaveStep3
    dsimp only
    split
    · exact (State.SequencerActs.setSequencer t _).trans (finished _)
    · exact .setSequencer t _
  unfold State.leaveStep2
  dsimp only
  split
  · exact (State.SequencerActs.setSequencer s _).trans (third _)
  · exact .setSequencer s _

theorem joinClaim_sequencerActs {s : State} (h : s.link.queue.length < 8) : s.SequencerActs 1 s.joinClaim := by
  unfold State.joinClaim
  split
  · split
    · exact .after (.setJoinOwn s (.claimQueued false)) (enqueue_sequencerActs h)
    · exact .mono (.setJoinOwn s _) (Nat.zero_le 1)
    · exact .mono (.refl s) (Nat.zero_le 1)
    · exact .mono (.setJoinOwn s _) (Nat.zero_le 1)
  · exact .mono (.refl s) (Nat.zero_le 1)

theorem sequencerCompletion_sequencerActs {s : State} (c : ConfigSet) (good0 : Bool) (h : s.link.queue.length < 8) :
    s.SequencerActs 1 (s.sequencerCompletion c good0) := by
  have idle : s.SequencerActs 1 s := .mono (.refl s) (Nat.zero_le 1)
  have set : ∀ x st, s.SequencerActs 0 (({ s with conn := x } : State).setConn st) := fun x st =>
    (State.SequencerActs.setSequencer s x).trans (setConn_sequencerActs _ st)
  have joined : ∀ t : State, t.link.queue.length < 8 → t.SequencerActs 1 t.enterJoined := fun t ht => by
    have hset : t.SequencerActs 0 _ :=
      (State.SequencerActs.setSequencer t { t.conn with window := none, failCount := 0, prechFail := false }).trans
        (setConn_sequencerActs _ .joined)
    exact hset.trans (seqRelease_sequencerActs _ (hset.room ht))
  unfold State.sequencerCompletion
  split
  · unfold State.judgeClaim
    split
    · split
      · exact (set _ _).trans (joinClaim_sequencerActs ((set _ _).room h))
      · exact (State.SequencerActs.setSequencer s _).mono (Nat.zero_le 1)
    · exact idle
  · split
    · unfold State.enterClosing
      dsimp only
      split
      · exact (set _ _).trans (joined _ ((set _ _).room h))
      · exact (set _ _).mono (Nat.zero_le 1)
    · exact idle
  · split
    · exact (leaveStep2_sequencerActs s).mono (Nat.zero_le 1)
    · exact idle
  all_goals exact idle

end Sys2Proof.Machine

namespace Sys2Proof.Machine

open Sys2Proof

/-! ### The sequencer at a completion, without a forced-leave cause (R129, R135, R143) -/

/-- A gap of two voltages within a number of volts (R129, R135). -/
theorem gapWithin_iff {v : RackSense} {volts : Nat} : v.gapWithin volts ↔ voltageGap v.stringV v.busV ≤ 10 * volts := by
  unfold RackSense.gapWithin voltageGap
  omega

/-- The voltage condition (R129). -/
theorem voltageCondition_iff {s : State} {c : ConfigSet} :
    s.voltageCondition c = true ↔ s.chain.sense.busV < 500 ∨ s.chain.sense.gapWithin c.matchWindow := by
  simp [State.voltageCondition, gapWithin_iff]

/-- The claim conditions with proving complete (R129). -/
theorem claimConditions_iff {s : State} :
    s.conn.proving = .complete ∧ s.claimConditions = true ↔
      s.conn.proving = .complete ∧ s.svc.mode = .active ∧ s.fire.state = .normal ∧ s.peers.containerFire = false
        ∧ s.svc.joinHeld = false ∧ s.env.trip = false ∧ s.chain.dataLoss = false ∧ s.fire.serviceKey = false
        ∧ s.conn.failHold = none ∧ s.claims.join.own = .notClaimed := by
  simp [State.claimConditions, and_assoc]

/-- The own join claim is asked for from NOT_CLAIMED with room in the queue (R71). -/
theorem joinClaim_of_notClaimed {s : State} (hm : s.svc.mode = .active) (hf : s.peers.containerFire = false)
    (ho : s.claims.join.own = .notClaimed) (hq : s.link.queue.length < 8) :
    s.joinClaim = (s.setJoinOwn (.claimQueued false)).queued joinClaimFrame := by
  unfold State.joinClaim
  rw [if_pos ⟨hm, hf⟩, ho]
  exact enqueue_of_room hq

/-- JOIN_DONE is queued with room in the queue (R72). -/
theorem queueJoinDone_of_room {s : State} (r : JoinResult) (hq : s.link.queue.length < 8) :
    s.queueJoinDone r =
      (({ s with claims := { s.claims with doneResult := r } } : State).setJoinOwn (.releaseQueued false)).queued
        (joinDoneFrame r) := by
  unfold State.queueJoinDone
  exact enqueue_of_room hq

/-- The sequencer's release request changes nothing of the sequencer (R72). -/
theorem seqRelease_conn {s : State} (r : JoinResult) (hq : s.link.queue.length < 8) : (s.seqRelease r).conn = s.conn := by
  unfold State.seqRelease State.joinRelease
  split
  · rfl
  · rfl
  · rw [queueJoinDone_of_room r hq]
    rfl
  · rfl

/-- A release request by the list's own member queues JOIN_DONE, with room in the queue (R72). -/
theorem seqRelease_of_listed {s : State} (r : JoinResult) (ho : s.claims.join.own = .listed) (hq : s.link.queue.length < 8) :
    (s.seqRelease r).claims.join = { s.claims.join with own := .releaseQueued false }
      ∧ joinDoneFrame r ∈ (s.seqRelease r).link.queue := by
  have hdone : s.seqRelease r = (s.queueJoinDone r).syncToken := by
    unfold State.seqRelease State.joinRelease
    rw [ho]
  rw [hdone, queueJoinDone_of_room r hq]
  exact ⟨rfl, mem_insertByClass.mpr (.inl rfl)⟩

/-- The claim conditions with the voltages near each other: WAIT_TOKEN, and the claim frame queued (R129, R71). -/
theorem judgeClaim_of_conditions {s : State} {c : ConfigSet} (hp : s.conn.proving = .complete) (hc : s.claimConditions = true)
    (hv : s.voltageCondition c = true) (hr : s.svc.restart = .none) (hq : s.link.queue.length < 8) :
    s.judgeClaim c = (({ s with conn := { s.conn with state := .waitToken, mismatch := false } } : State).setJoinOwn
      (.claimQueued false)).queued joinClaimFrame := by
  obtain ⟨-, hm, -, hf, -, -, -, -, -, ho⟩ := claimConditions_iff.mp ⟨hp, hc⟩
  unfold State.judgeClaim
  rw [if_pos ⟨hp, hc⟩, if_pos hv, setConn_of_none (s := s.setMismatch false) .waitToken hr]
  exact joinClaim_of_notClaimed hm hf ho hq

/-- CLOSING with the positive contact still open: its window runs (R135). -/
theorem enterClosing_of_open {s : State} (hr : s.svc.restart = .none) (hx : s.lines.auxPos = false) :
    s.enterClosing = { s with conn := { s.conn with
      state := .closing, prechTimer := none, negDrive := true, preDrive := false, posDrive := true
      window := some .posClose } } := by
  unfold State.enterClosing
  dsimp only
  rw [setConn_of_none _ (by exact hr)]
  exact if_neg (by simp [State.windowMet, hx])

/-- CLOSING with the positive contact already closed: JOINED at once (R136). -/
theorem enterClosing_of_closed {s : State} (hr : s.svc.restart = .none) (hx : s.lines.auxPos = true) :
    s.enterClosing = ({ s with conn := { s.conn with
      state := .joined, prechTimer := none, negDrive := true, preDrive := false, posDrive := true, window := none
      failCount := 0, prechFail := false } } : State).seqRelease .ok := by
  unfold State.enterClosing
  dsimp only
  rw [setConn_of_none _ (by exact hr)]
  refine (if_pos hx).trans ?_
  unfold State.enterJoined
  dsimp only
  rw [setConn_of_none _ (by exact hr)]

/-- Step 2 of a leave goes as far as the contacts show open (R143). -/
theorem leaveStep2_conn {s : State} (hr : s.svc.restart = .none) :
    (s.lines.auxPos = true →
      s.leaveStep2.conn = { s.conn with leaveTimer := none, posDrive := false, window := some .leavePos })
    ∧ (s.lines.auxPos = false → s.lines.auxNeg = true →
      s.leaveStep2.conn = { s.conn with leaveTimer := none, posDrive := false, negDrive := false, window := some .leaveNeg })
    ∧ (s.lines.auxPos = false → s.lines.auxNeg = false →
      s.leaveStep2.conn = { s.conn with
        state := .outOfService, leaveTimer := none, posDrive := false, negDrive := false, window := none }) := by
  unfold State.leaveStep2 State.leaveStep3
  dsimp only
  refine ⟨fun hp => ?_, fun hp hn => ?_, fun hp hn => ?_⟩
  · rw [if_neg (by simp [State.windowMet, hp])]
  · rw [if_pos (by simp [State.windowMet, hp]), if_neg (by simp [State.windowMet, hn])]
  · rw [if_pos (by simp [State.windowMet, hp]), if_pos (by simp [State.windowMet, hn]), State.finishLeave,
      setConn_of_none _ (by exact hr)]
    rfl

/-- What a completion does in the three states that it acts in. -/
theorem sequencerCompletion_of_openRack {s : State} (c : ConfigSet) (good0 : Bool) (h : s.conn.state = .openRack) :
    s.sequencerCompletion c good0 = s.judgeClaim c := by
  unfold State.sequencerCompletion
  rw [h]

theorem sequencerCompletion_of_precharge {s : State} (c : ConfigSet) (good0 : Bool) (h : s.conn.state = .precharge) :
    s.sequencerCompletion c good0 =
      if s.conn.window = none ∧ good0 = true ∧ s.prechargeMatch c = true then s.enterClosing else s := by
  unfold State.sequencerCompletion
  rw [h]

theorem sequencerCompletion_of_leaving {s : State} (c : ConfigSet) (good0 : Bool) (h : s.conn.state = .leaving) :
    s.sequencerCompletion c good0 =
      if s.conn.leaveTimer.isSome ∧ good0 = true ∧ s.leaveCurrentMet c = true then s.leaveStep2 else s := by
  unfold State.sequencerCompletion
  rw [h]

/-- In every other state a completion does nothing. -/
theorem sequencerCompletion_of_other {s : State} (c : ConfigSet) (good0 : Bool) (ho : s.conn.state ≠ .openRack)
    (hp : s.conn.state ≠ .precharge) (hl : s.conn.state ≠ .leaving) : s.sequencerCompletion c good0 = s := by
  unfold State.sequencerCompletion
  split
  · exact absurd ‹_› ho
  · exact absurd ‹_› hp
  · exact absurd ‹_› hl
  all_goals rfl

/-- The tests of a completion with no restart pending and room in the queue. -/
theorem sequencerCompletion_acted {s : State} (c : ConfigSet) (goods : List Nat) (hr : s.svc.restart = .none)
    (hq : s.link.queue.length < 8) : s.SequencerActed (s.sequencerCompletion c (goods.contains 0)) c goods := by
  have kept := s.sequencerCompletion_blocks c (goods.contains 0)
  constructor
  case claim =>
    intro hs
    rw [kept.env, kept.chain, sequencerCompletion_of_openRack _ _ hs]
    refine ⟨fun hc hv => ?_, fun hc hv => ?_, fun hc => ?_⟩
    · obtain ⟨hp, hc⟩ := claimConditions_iff.mpr hc
      rw [judgeClaim_of_conditions hp hc (voltageCondition_iff.mpr hv) hr hq]
      exact ⟨rfl, rfl, mem_insertByClass.mpr (.inl rfl)⟩
    · rw [State.judgeClaim, if_pos (claimConditions_iff.mpr hc), if_neg (voltageCondition_iff.not.mpr hv)]
      exact ⟨rfl, rfl⟩
    · rw [State.judgeClaim, if_neg (claimConditions_iff.not.mpr hc)]
      exact ⟨rfl, rfl⟩
  case precharge =>
    intro hs
    have hmatch : (s.conn.window = none ∧ goods.contains 0 = true ∧ s.prechargeMatch c = true) ↔
        s.conn.window = none ∧ 0 ∈ goods ∧ s.chain.sense.gapWithin c.prechDone := by
      simp [State.prechargeMatch, gapWithin_iff]
    rw [kept.chain, sequencerCompletion_of_precharge _ _ hs]
    refine ⟨fun hm hx => ?_, fun hm hx => ?_, fun hm => ?_⟩
    · rw [if_pos (hmatch.mpr hm), enterClosing_of_open hr hx]
      exact ⟨rfl, rfl⟩
    · rw [if_pos (hmatch.mpr hm), enterClosing_of_closed hr hx]
      exact ⟨seqRelease_conn _ hq, fun ho => seqRelease_of_listed _ ho hq⟩
    · rw [if_neg (hmatch.not.mpr hm)]
      exact ⟨rfl, rfl⟩
  case leave =>
    intro hs
    have hcurrent : s.leaveCurrentMet c = true ↔
        s.chain.sense.current ≤ 10 * c.leaveCurrent ∧ -(10 * c.leaveCurrent : Int) ≤ s.chain.sense.current := by
      simp only [State.leaveCurrentMet, decide_eq_true_eq]
      omega
    have hlow : (s.conn.leaveTimer.isSome ∧ goods.contains 0 = true ∧ s.leaveCurrentMet c = true) ↔
        s.conn.leaveTimer ≠ none ∧ 0 ∈ goods ∧ s.chain.sense.current ≤ 10 * c.leaveCurrent
          ∧ -(10 * c.leaveCurrent : Int) ≤ s.chain.sense.current :=
      and_congr Option.isSome_iff_ne_none (and_congr List.contains_iff_mem hcurrent)
    obtain ⟨hpos, hneg, hleft⟩ := leaveStep2_conn hr
    rw [kept.chain, sequencerCompletion_of_leaving _ _ hs]
    refine ⟨fun hl => ?_, fun hl => ?_, fun hl => ?_, fun hl => ?_⟩
    · rwa [if_pos (hlow.mpr hl)]
    · rwa [if_pos (hlow.mpr hl)]
    · rwa [if_pos (hlow.mpr hl)]
    · rw [if_neg (hlow.not.mpr hl)]
  case others =>
    intro ho hp hl
    rw [sequencerCompletion_of_other _ _ ho hp hl]
    exact ⟨rfl, rfl⟩

/-- What the sequencer does is read off a part of the two states. -/
theorem State.SequencerActed.congr {s s' t t' : State} {c : ConfigSet} {goods : List Nat} (h : s.SequencerActed t c goods)
    (hconn : s'.conn = s.conn) (hjoin : s'.claims.join = s.claims.join) (hlines : s'.lines = s.lines)
    (hmode : s'.svc.mode = s.svc.mode) (hheld : s'.svc.joinHeld = s.svc.joinHeld) (hfire : s'.fire.state = s.fire.state)
    (hkey : s'.fire.serviceKey = s.fire.serviceKey) (hflag : s'.peers.containerFire = s.peers.containerFire)
    (hconn' : t'.conn = t.conn) (hjoin' : t'.claims.join = t.claims.join) (hqueue : t'.link.queue = t.link.queue)
    (htrip : t'.env.trip = t.env.trip) (hsense : t'.chain.sense = t.chain.sense)
    (hloss : t'.chain.dataLoss = t.chain.dataLoss) : s'.SequencerActed t' c goods := by
  constructor
  case claim =>
    simpa only [hconn, hjoin, hmode, hheld, hfire, hkey, hflag, hconn', hjoin', hqueue, htrip, hsense, hloss] using h.claim
  case precharge => simpa only [hconn, hjoin, hlines, hconn', hjoin', hqueue, hsense] using h.precharge
  case leave => simpa only [hconn, hlines, hconn', hsense] using h.leave
  case others => simpa only [hconn, hjoin, hconn', hjoin'] using h.others

end Sys2Proof.Machine

namespace Sys2Proof.Machine

open Sys2Proof

/-! ### The forced leave and the sequencer at a completion (R140) -/

/-- OPENING ends at its destination at once or runs (R138). -/
theorem enterOpening_state (s : State) (d : ConnState) :
    (s.enterOpening d).conn.state = .opening ∨ (s.enterOpening d).conn.state = d := by
  have finished : ∀ t : State, t.finishOpening.conn.state = t.conn.dest.getD .openRack := fun t => State.setConn_state _ _
  have dest : ∀ (t : State) st, (t.setConn st).conn.dest = t.conn.dest := fun t st => by
    unfold State.setConn State.cancelRestart
    split <;> rfl
  unfold State.enterOpening
  dsimp only
  split
  · exact .inr (by rw [finished, dest]; rfl)
  · exact .inl (State.setConn_state _ _)

/-- After a forced leave the connection state takes none (R140). -/
theorem forcedLeave_not_taken (s : State) : takesForcedLeave s.forcedLeave.conn.state = false := by
  have opened : ∀ d, takesForcedLeave d = false → takesForcedLeave ((s.enterOpening d).seqRelease .failed).conn.state = false :=
    fun d hd => by
      rw [(State.seqRelease_connState _ _).state]
      rcases enterOpening_state s d with h | h <;> rw [h]
      · rfl
      · exact hd
  unfold State.forcedLeave
  split
  case h_1 | h_2 | h_3 | h_4 => exact opened _ rfl
  case h_5 =>
    rw [(State.seqRelease_connState _ _).state, State.leaveWaitToken, State.setConn_state]
    rfl
  all_goals simp_all [takesForcedLeave]

/-- What keeps protection, fire, settings and the chain controller keeps the forced-leave causes (R140). -/
theorem State.KeepsBlocks.forcedCause {s t : State} (h : s.KeepsBlocks t) : t.forcedCause = s.forcedCause := by
  unfold State.forcedCause
  rw [h.fire, h.peers, h.env, h.chain, h.svc]

/-- The claim conditions do not hold under a forced-leave cause, where stale data is lost data (R129, R140). -/
theorem claimConditions_of_forced {s : State} (hf : s.forcedCause = true)
    (hstale : s.chain.staleLeave = true → s.chain.dataLoss = true) : s.claimConditions = false := by
  by_contra hc
  simp only [Bool.not_eq_false, State.claimConditions, Bool.and_eq_true, beq_iff_eq, Bool.not_eq_true'] at hc
  obtain ⟨⟨⟨⟨⟨⟨⟨⟨hmode, hfire⟩, hflag⟩, -⟩, htrip⟩, hloss⟩, hkey⟩, -⟩, -⟩ := hc
  simp [State.forcedCause, hmode, hfire, hflag, htrip, hkey, fireAlarmed] at hf
  simp [hstale hf] at hloss

/-- Under a forced-leave cause that has been taken a completion leaves the sequencer as it is (R129, R140). -/
theorem sequencerCompletion_of_forced {s : State} (c : ConfigSet) (good0 : Bool) (hf : s.forcedCause = true)
    (hstale : s.chain.staleLeave = true → s.chain.dataLoss = true) (hs : takesForcedLeave s.conn.state = false) :
    s.sequencerCompletion c good0 = s := by
  by_cases ho : s.conn.state = .openRack
  · rw [sequencerCompletion_of_openRack _ _ ho, State.judgeClaim, if_neg (by simp [claimConditions_of_forced hf hstale])]
  · exact sequencerCompletion_of_other _ _ ho (fun h => by simp [h, takesForcedLeave] at hs)
      (fun h => by simp [h, takesForcedLeave] at hs)

/-- The forced-leave causes and the sequencer's tests of a completion: one of the two acts (R140, R129, R135, R143). -/
theorem reviewed_sequencer_cases {u : State} (c : ConfigSet) (good0 : Bool)
    (hstale : u.chain.staleLeave = true → u.chain.dataLoss = true) :
    (u.forcedCause = true ∧ u.reviewForced.sequencerCompletion c good0 = u.forcedLeave)
      ∨ u.forcedCause = false ∧ u.reviewForced.sequencerCompletion c good0 = u.sequencerCompletion c good0 := by
  cases hf : u.forcedCause with
  | false => exact .inr ⟨rfl, by rw [State.reviewForced, if_neg (by simp [hf])]⟩
  | true =>
    have kept := u.forcedLeave_blocks
    refine .inl ⟨rfl, ?_⟩
    rw [State.reviewForced, if_pos hf]
    exact sequencerCompletion_of_forced c good0 (kept.forcedCause.trans hf) (by rwa [kept.chain]) (forcedLeave_not_taken u)

/-- So what they leave takes no forced leave any more. -/
theorem reviewed_sequencer_not_taken {u : State} (c : ConfigSet) (good0 : Bool)
    (hstale : u.chain.staleLeave = true → u.chain.dataLoss = true) :
    let v := u.reviewForced.sequencerCompletion c good0
    v.forcedCause = true → takesForcedLeave v.conn.state = false := by
  intro v hv
  have hu : u.forcedCause = true :=
    (u.reviewForced_blocks.trans (State.sequencerCompletion_blocks _ c good0)).forcedCause.symm.trans hv
  rcases reviewed_sequencer_cases c good0 hstale with ⟨-, h⟩ | ⟨hf, -⟩
  · exact (congrArg (fun w : State => takesForcedLeave w.conn.state) h).trans (forcedLeave_not_taken u)
  · exact absurd hu (by simp [hf])

/-- And they queue one frame at most. -/
theorem reviewed_sequencer_acts {u : State} (c : ConfigSet) (good0 : Bool)
    (hstale : u.chain.staleLeave = true → u.chain.dataLoss = true) (hq : u.link.queue.length < 8) :
    u.SequencerActs 1 (u.reviewForced.sequencerCompletion c good0) := by
  rcases reviewed_sequencer_cases c good0 hstale with ⟨-, h⟩ | ⟨-, h⟩ <;> rw [h]
  · exact forcedLeave_sequencerActs hq
  · exact sequencerCompletion_sequencerActs c good0 hq

/-! ### The end of a completion's command -/

/-- What the owed scan and the end of the command leave of the state before them: all but the scan, the container cooling level,
the chiller lines and the permit. -/
def State.ended (v : State) : State := v.startOwed.updateContainerLevel.driveChiller.judgePermit

/-- Where no forced leave is to be taken, a completion's command ends so. -/
theorem finish_startOwed {v : State} (hr : v.svc.restart = .none)
    (hf : v.forcedCause = true → takesForcedLeave v.conn.state = false) : v.startOwed.finish = .next v.ended := by
  have restart : v.startOwed.svc.restart = .none := by
    unfold State.startOwed
    split <;> exact hr
  have reviewed : v.startOwed.reviewForced = v.startOwed := by
    by_cases hc : v.forcedCause = true
    · refine reviewForced_of_not_taken ?_
      unfold State.startOwed
      split <;> exact hf hc
    · refine if_neg ?_
      unfold State.startOwed
      split <;> exact hc
  rw [finish_of_none restart, State.settle, reviewed]
  rfl

/-- The parts that the end of a completion's command leaves. -/
theorem ended_rest (v : State) :
    v.ended = { v with
      chain := v.ended.chain
      peers := { v.peers with containerLevel := v.ended.peers.containerLevel }
      thermal := { v.thermal with
        pump1 := v.ended.thermal.pump1, pump2 := v.ended.thermal.pump2, chillerRun := v.ended.thermal.chillerRun }
      grid := { v.grid with permit := v.ended.grid.permit } } := by
  unfold State.ended State.startOwed
  split <;> rfl

/-- The owed scan starts, and the readings stay (R4). -/
theorem ended_chain (v : State) : v.chain.SameReadings v.ended.chain ∧ (v.chain.scan = none → v.ended.chain.owed = false
    ∧ v.ended.chain.scan = if v.chain.owed then some ⟨0, 1, false, [], [], []⟩ else none) := by
  change v.chain.SameReadings v.startOwed.chain ∧ (_ → v.startOwed.chain.owed = false ∧ v.startOwed.chain.scan = _)
  unfold State.startOwed
  cases ho : v.chain.owed with
  | true => exact ⟨by constructor <;> rfl, fun _ => ⟨rfl, rfl⟩⟩
  | false => exact ⟨.refl _, fun hs => ⟨ho, hs⟩⟩

/-- The forced-leave causes stay too. -/
theorem ended_forcedCause (v : State) : v.ended.forcedCause = v.forcedCause := by
  unfold State.ended State.startOwed
  split <;> rfl

end Sys2Proof.Machine

namespace Sys2Proof.Machine

open Sys2Proof

/-! ### What trips, targets and balance set read of the chain controller -/

/-- The trip counts read the records but for their masks (R16). -/
theorem nextCellTrips_of_sameReadings {a b : Chain} (h : a.SameReadings b) (c : ConfigSet) (goods counts : List Nat) :
    nextCellTrips c goods b.modules counts = nextCellTrips c goods a.modules counts := by
  have hout : ∀ k, outOfLimits c (b.modules.getD k ModuleRecord.reset) = outOfLimits c (a.modules.getD k ModuleRecord.reset) :=
    fun k => (congrArg (outOfLimits c) (h.getD k) :)
  unfold nextCellTrips nextCellTrip
  simp only [hout]

/-- The trips read of the chain controller its readings alone (R16 to R18). -/
theorem judgeTrips_of_sameReadings {s : State} {d : Chain} (h : s.chain.SameReadings d) (c : ConfigSet) (goods : List Nat) :
    ({ s with chain := d } : State).judgeTrips c goods = { s.judgeTrips c goods with chain := d } := by
  unfold State.judgeTrips
  simp only [nextCellTrips_of_sameReadings h, h.sense]

/-- So do the targets (R28 to R36). -/
theorem targets_of_sameReadings {s : State} {d : Chain} (h : s.chain.SameReadings d) (c : ConfigSet) :
    ({ s with chain := d } : State).chargeTarget c = s.chargeTarget c
      ∧ ({ s with chain := d } : State).dischargeTarget c = s.dischargeTarget c := by
  have htarget : ∀ k, ({ s with chain := d } : State).target k = s.target k := fun k => by
    have hforce : ({ s with chain := d } : State).forceZero = s.forceZero := by
      simp only [State.forceZero, h.dataLoss, h.tempLoss]
    rw [State.target, hforce, State.target]
  refine ⟨?_, ?_⟩
  · rw [State.chargeTarget, htarget, h.tmin, h.tmax, h.vmax, State.chargeTarget]
  · rw [State.dischargeTarget, htarget, h.tmin, h.tmax, h.vmin, State.dischargeTarget]

/-- And the rebuild of the balance set, which reads no envelope either (R45 to R49). -/
theorem rebuilt_of_sameReadings {s : State} {d : Chain} (h : s.chain.SameReadings d) (e : Envelope) (c : ConfigSet)
    (x : BalanceInputs) : ({ s with chain := d, env := e } : State).rebuilt c x = s.rebuilt c x := by
  have hrec := Chain.SameReadings.moduleRecord (s := s) (t := { s with chain := d, env := e }) h
  have hvolts : ({ s with chain := d, env := e } : State).cellVoltage = s.cellVoltage := by
    funext m
    rw [State.cellVoltage, (hrec m.1).2.1, State.cellVoltage]
  have hkeeps : ({ s with chain := d, env := e } : State).keeps c = s.keeps c := by
    funext m
    rw [State.keeps, (hrec m.1).1, hvolts, h.vmin, State.keeps]
  have hjoins : ({ s with chain := d, env := e } : State).joins c = s.joins c := by
    funext m
    rw [State.joins, (hrec m.1).1, hvolts, h.vmin, State.joins]
  have heligible : ({ s with chain := d, env := e } : State).balanceEligible c x = s.balanceEligible c x := rfl
  have hcandidates : ({ s with chain := d, env := e } : State).candidates c = s.candidates c := by
    funext kept
    rw [State.candidates, hjoins, hvolts, State.candidates]
  unfold State.rebuilt
  dsimp only
  rw [heligible, hkeeps, hcandidates]

/-! ### The blocks at a completion -/

/-- The state that a completion leaves with the trips judged and the new pair written (R22). -/
def State.paired (s : State) (c : ConfigSet) (stop : Option Nat) (goods bad : List Nat) : State :=
  (({ s with chain := s.chain.completed c stop goods bad } : State).judgeTrips c goods).evaluatePair c

/-- The state that it leaves ahead of the forced-leave causes and the sequencer's tests. -/
def State.evaluated (s : State) (c : ConfigSet) (stop : Option Nat) (goods bad : List Nat) : State :=
  ((s.paired c stop goods bad).rebuildBalance c).thermalCompletion c

/-- The whole completion after it. -/
theorem completeScan_eq (s : State) (c : ConfigSet) (stop : Option Nat) (goods bad : List Nat) :
    s.completeScan c stop goods bad =
      ((s.evaluated c stop goods bad).reviewForced.sequencerCompletion c (goods.contains 0)).startOwed := rfl

/-- The balance inputs taken at a completion (R45). -/
def State.taken (s : State) : State :=
  { s with balance := { s.balance with taken := some ⟨s.chain.sense.current, s.chain.tmax, s.chain.dataLoss⟩ } }

/-- The rebuild of the balance set takes its inputs and gives the set its members (R47). -/
theorem rebuildBalance_eq (s : State) (c : ConfigSet) :
    s.rebuildBalance c = s.taken.setMembers (s.rebuilt c ⟨s.chain.sense.current, s.chain.tmax, s.chain.dataLoss⟩) := rfl

/-- The heater does not see it (R91 to R94). -/
theorem rebuildBalance_sameForHeater (s : State) (c : ConfigSet) : s.SameForHeater (s.rebuildBalance c) :=
  .trans (t := s.taken) ⟨rfl, .refl _⟩ (.setMembers _ _)

/-- Protection, fire and settings are left by a completion as its trips and its pair left them. -/
theorem evaluated_protection (s : State) (c : ConfigSet) (stop : Option Nat) (goods bad : List Nat) :
    (s.paired c stop goods bad).taken.KeepsProtection (s.evaluated c stop goods bad) :=
  .trans (State.setMembers_safe _ _).toKeepsProtection (State.thermalCompletion_safe _ c).toKeepsProtection

/-- The readings of the chain controller are those of its own completion until the sequencer's tests (R15). -/
theorem evaluated_chain (s : State) (c : ConfigSet) (stop : Option Nat) (goods bad : List Nat) :
    let u := s.evaluated c stop goods bad
    (s.chain.completed c stop goods bad).SameReadings u.chain ∧ u.chain.owed = s.chain.owed ∧ u.chain.scan = none := by
  intro u
  have rebuilt : (s.paired c stop goods bad).taken.KeepsReadings ((s.paired c stop goods bad).rebuildBalance c) :=
    State.setMembers_readings _ _
  have counted : (s.chain.completed c stop goods bad).SameReadings
      ((s.paired c stop goods bad).rebuildBalance c).takeInlet.chain :=
    (rebuildBalance_sameForHeater (s.paired c stop goods bad) c).chain
  have cooled := State.thermalCompletion_readings ((s.paired c stop goods bad).rebuildBalance c) c
  have inlet : ((s.paired c stop goods bad).rebuildBalance c).takeInlet.KeepsProtection u :=
    .trans (.update _ _ _ _ _) (State.thermalCompletion_safe _ c).toKeepsProtection
  exact ⟨counted.trans (.of_keeps cooled inlet), cooled.owed.trans rebuilt.owed,
    cooled.scan.trans rebuilt.scan⟩

/-- The heater's part of a completion is the thermal controller's, on the readings alone (R91 to R94). -/
theorem rebuilt_sameForHeater {s : State} {c : ConfigSet} {stop : Option Nat} {goods bad : List Nat} {d : Chain}
    (h : (s.chain.completed c stop goods bad).SameReadings d) :
    ({ s with chain := d } : State).SameForHeater ((s.paired c stop goods bad).rebuildBalance c) := by
  have paired : ({ s with chain := d } : State).SameForHeater (s.paired c stop goods bad) := ⟨rfl, h.symm⟩
  exact paired.trans (rebuildBalance_sameForHeater _ c)

/-- With room in the queue a completion changes up to here of the claims the heater's alone, and queues one frame at most. -/
theorem evaluated_heaterActs {s : State} (c : ConfigSet) (stop : Option Nat) (goods bad : List Nat)
    (hq : s.link.queue.length < 8) : (s.paired c stop goods bad).HeaterActs 1 (s.evaluated c stop goods bad) := by
  have rebuilt : (s.paired c stop goods bad).HeaterActs 0 ((s.paired c stop goods bad).rebuildBalance c) :=
    .after (t := (s.paired c stop goods bad).taken) ⟨rfl, le_rfl⟩ (setMembers_heaterActs _ _)
  exact rebuilt.after (thermalCompletion_heaterActs c (rebuilt.length.trans_lt hq))

/-- The balance set that a completion leaves (R45 to R49, R46). -/
theorem evaluated_members {s : State} {c : ConfigSet} {stop : Option Nat} {goods bad : List Nat} {d : Chain}
    (h : (s.chain.completed c stop goods bad).SameReadings d) :
    let read : State := { s with chain := d }
    (s.evaluated c stop goods bad).balance.members = if s.thermal.state ≠ .inhibited ∧ read.nextLevel c = 3 then []
      else read.rebuilt c ⟨d.sense.current, d.tmax, d.dataLoss⟩ := by
  intro read
  have same : read.SameForHeater ((s.paired c stop goods bad).rebuildBalance c) := rebuilt_sameForHeater h
  have rebuilt : ((s.paired c stop goods bad).rebuildBalance c).balance.members =
      read.rebuilt c ⟨d.sense.current, d.tmax, d.dataLoss⟩ := by
    rw [rebuildBalance_eq, setMembers_members, h.sense, h.tmax, h.dataLoss]
    exact rebuilt_of_sameReadings (s := read) h.symm _ c _
  have hot : read.thermal.level = 3 → ∀ x, read.rebuilt c x = [] := fun hl x => by
    rw [State.rebuilt, if_neg (by simp [State.balanceEligible, hl])]
  rw [State.evaluated, thermalCompletion_members, same.thermal, same.nextLevel c, rebuilt]
  by_cases hl : read.thermal.level = 3
  · simp [hot hl]
  · simp [hl, read]

/-- The envelope unit after a completion: the trips on the pair that was in force, then the pair (R16 to R18, R22, R39). -/
theorem evaluated_env {s : State} {c : ConfigSet} {stop : Option Nat} {goods bad : List Nat} {d : Chain}
    (h : (s.chain.completed c stop goods bad).SameReadings d) :
    let judged := ({ s with chain := d } : State).judgeTrips c goods
    (s.evaluated c stop goods bad).env = { s.env with
      cellTrips := judged.env.cellTrips, overCount := judged.env.overCount, trip := judged.env.trip
      ec := rampTo c s.env.ec (judged.chargeTarget c), ed := rampTo c s.env.ed (judged.dischargeTarget c) } := by
  intro judged
  have trips := judgeTrips_of_sameReadings (s := { s with chain := s.chain.completed c stop goods bad }) h c goods
  obtain ⟨charge, discharge⟩ := targets_of_sameReadings
    (s := ({ s with chain := s.chain.completed c stop goods bad } : State).judgeTrips c goods) h c
  have htargets : judged = _ := trips
  rw [(evaluated_protection s c stop goods bad).env, htargets, charge, discharge]
  rfl

end Sys2Proof.Machine

namespace Sys2Proof.Machine

open Sys2Proof

/-! ### A scan completion as a command answers it -/

/-- The state that a completion leaves ahead of the owed scan. -/
def State.sequenced (s : State) (c : ConfigSet) (stop : Option Nat) (goods bad : List Nat) : State :=
  (s.evaluated c stop goods bad).reviewForced.sequencerCompletion c (goods.contains 0)

/-- The forced-leave causes and the sequencer's tests leave the blocks before them as they are. -/
theorem sequenced_blocks (s : State) (c : ConfigSet) (stop : Option Nat) (goods bad : List Nat) :
    (s.evaluated c stop goods bad).KeepsBlocks (s.sequenced c stop goods bad) :=
  (State.reviewForced_blocks _).trans (State.sequencerCompletion_blocks _ c _)

/-- At a completion stale data is lost data (R10, R11). -/
theorem evaluated_dataLoss_of_stale {s : State} {c : ConfigSet} {stop : Option Nat} {goods bad : List Nat}
    (h : (s.evaluated c stop goods bad).chain.staleLeave = true) : (s.evaluated c stop goods bad).chain.dataLoss = true := by
  have readings := (evaluated_chain s c stop goods bad).1
  rw [readings.staleLeave] at h
  rw [readings.dataLoss]
  exact completed_dataLoss_of_stale h

/-- No restart comes to be pending in a completion. -/
theorem sequenced_restart {s : State} (c : ConfigSet) (stop : Option Nat) (goods bad : List Nat) (hr : s.svc.restart = .none) :
    (s.sequenced c stop goods bad).svc.restart = .none :=
  (sequenced_blocks s c stop goods bad).restart ((evaluated_protection s c stop goods bad).restart hr)

/-- A completion's command answers what the completion leaves. -/
theorem finish_completeScan {s : State} (c : ConfigSet) (stop : Option Nat) (goods bad : List Nat) (hr : s.svc.restart = .none) :
    (s.completeScan c stop goods bad).finish = .next (s.sequenced c stop goods bad).ended := by
  rw [completeScan_eq]
  exact finish_startOwed (sequenced_restart c stop goods bad hr)
    (reviewed_sequencer_not_taken c _ evaluated_dataLoss_of_stale)

/-- The chain controller's readings are those of its own completion, and the owed scan has started (R4). -/
theorem answered_chain (s : State) (c : ConfigSet) (stop : Option Nat) (goods bad : List Nat) :
    let t := (s.sequenced c stop goods bad).ended
    (s.chain.completed c stop goods bad).SameReadings t.chain ∧ t.chain.owed = false
      ∧ t.chain.scan = if s.chain.owed then some ⟨0, 1, false, [], [], []⟩ else none := by
  intro t
  obtain ⟨readings, howed, hscan⟩ := evaluated_chain s c stop goods bad
  have kept := (sequenced_blocks s c stop goods bad).chain
  obtain ⟨same, ended⟩ := ended_chain (s.sequenced c stop goods bad)
  rw [kept] at same ended
  rw [howed] at ended
  exact ⟨readings.trans same, ended hscan⟩

/-- The sequencer's work at a completion, where no forced-leave cause stands and the queue has room for two frames (R129, R135,
R143). -/
theorem answered_sequencer {s : State} (c : ConfigSet) (stop : Option Nat) (goods bad : List Nat) (hr : s.svc.restart = .none)
    (hf : (s.sequenced c stop goods bad).ended.forcedCause = false) (hq : s.link.queue.length ≤ 6) :
    s.SequencerActed (s.sequenced c stop goods bad).ended c goods := by
  have acts := evaluated_heaterActs c stop goods bad (show s.link.queue.length < 8 by omega)
  have kept := evaluated_protection s c stop goods bad
  have blocks := sequenced_blocks s c stop goods bad
  have room : (s.evaluated c stop goods bad).link.queue.length < 8 := by
    have : _ ≤ s.link.queue.length + 1 := acts.length
    omega
  have unforced : s.sequenced c stop goods bad = (s.evaluated c stop goods bad).sequencerCompletion c (goods.contains 0) := by
    rcases reviewed_sequencer_cases c (goods.contains 0) evaluated_dataLoss_of_stale with ⟨h, -⟩ | ⟨-, h⟩
    · exact absurd h (by rw [← blocks.forcedCause, ← ended_forcedCause, hf]; decide)
    · exact h
  have acted := sequencerCompletion_acted c goods (kept.restart hr) room
  rw [← unforced] at acted
  have rest := ended_rest (s.sequenced c stop goods bad)
  have same := (ended_chain (s.sequenced c stop goods bad)).1
  refine acted.congr acts.conn.symm acts.join.symm acts.lines.symm ?_ ?_ ?_ ?_ ?_ ?_ ?_ ?_ ?_ same.sense same.dataLoss
  · rw [kept.svc]; rfl
  · rw [kept.svc]; rfl
  · rw [kept.fire]; rfl
  · rw [kept.fire]; rfl
  · rw [kept.peers]; rfl
  all_goals rw [rest]

/-- What a completion hands on to the other blocks (R16, R17, R22, R45 to R47, R91 to R94, R129, R135, R143). -/
theorem answered_handedOn {s : State} (c : ConfigSet) (stop : Option Nat) (goods bad : List Nat) (hr : s.svc.restart = .none) :
    s.HandedOn (s.sequenced c stop goods bad).ended c goods := by
  have readings := (answered_chain s c stop goods bad).1
  have rest := ended_rest (s.sequenced c stop goods bad)
  have blocks := sequenced_blocks s c stop goods bad
  have heater : (({ s with chain := (s.sequenced c stop goods bad).ended.chain } : State).thermalCompletion c).SameForHeater
      (s.evaluated c stop goods bad) := (rebuilt_sameForHeater readings).thermalCompletion c
  constructor
  case trips =>
    have env : (s.sequenced c stop goods bad).ended.env = (s.evaluated c stop goods bad).env := by rw [rest, blocks.env]
    exact env.trans (evaluated_env readings)
  case taken =>
    have taken : (s.sequenced c stop goods bad).ended.balance.taken = (s.evaluated c stop goods bad).balance.taken := by
      rw [rest, blocks.balance]
    rw [taken, (evaluated_protection s c stop goods bad).taken, readings.sense, readings.tmax, readings.dataLoss]
    rfl
  case members =>
    have members : (s.sequenced c stop goods bad).ended.balance = (s.evaluated c stop goods bad).balance := by
      rw [rest, blocks.balance]
    rw [members]
    exact evaluated_members readings
  case thermal => rw [← heater.thermal, ← blocks.thermal, rest]
  case heater =>
    intro hq read
    have acts := evaluated_heaterActs c stop goods bad (show s.link.queue.length < 8 by omega)
    have room : (s.evaluated c stop goods bad).link.queue.length < 8 := by
      have : _ ≤ s.link.queue.length + 1 := acts.length
      omega
    have sequencer := reviewed_sequencer_acts c (goods.contains 0) evaluated_dataLoss_of_stale room
    have claims : (s.sequenced c stop goods bad).ended.claims = (s.sequenced c stop goods bad).claims := by rw [rest]
    have link : (s.sequenced c stop goods bad).ended.link = (s.sequenced c stop goods bad).link := by rw [rest]
    rw [claims, link, ← heater.claims, ← heater.link]
    refine ⟨sequencer.heat, sequencer.slotHeld, fun e he hframe => sequencer.kept e he ?_⟩
    rcases hframe with rfl | rfl <;> rfl
  case sequencer => exact answered_sequencer c stop goods bad hr

/-- A scan completion, from the record to what it hands on. -/
theorem completeScan_answers {s : State} (c : ConfigSet) (stop : Option Nat) (goods bad : List Nat) (hr : s.svc.restart = .none) :
    ∃ t, (s.completeScan c stop goods bad).finish = .next t
      ∧ t.chain.record = nextRecord s.chain.record c.modules stop bad ∧ t.chain.chainBreak = stop.isSome
      ∧ s.ChainCompleted t c goods ∧ s.HandedOn t c goods := by
  obtain ⟨readings, howed, hscan⟩ := answered_chain s c stop goods bad
  exact ⟨_, finish_completeScan c stop goods bad hr, readings.record, readings.chainBreak,
    chainCompleted_of_sameReadings readings howed hscan, answered_handedOn c stop goods bad hr⟩

/-- The last try of a transaction without any reply terminates the scan at its position (R3). -/
theorem endTry_of_silent {s : State} {c : ConfigSet} {r : ScanRun} (h : triesOf c ≤ r.tryNo) :
    s.endTry c r false = s.completeScan c (some r.position) r.good r.bad := if_neg (Nat.not_lt.mpr h)

/-- Settles O24: both ways in which a scan is cut off are a completion that stops at the position of the transaction. -/
theorem terminatedScanRecord : Obligations.TerminatedScanRecord := by
  intro s c r i hc hr hn hp hend
  have hexec : exec i s = (s.completeScan c (some r.position) r.good r.bad).finish := by
    rcases hend with ⟨rfl, hspent, hreplied⟩ | ⟨reply, rfl, hgood, hpos⟩
    · rw [exec_chainReplyWaitExpiry hc hr, hreplied, endTry_of_silent hspent]
    · rw [exec_chainReplyArrival hc hr, classifyReply_of_not_bad hgood, if_neg hpos]
      rfl
  obtain ⟨t, ht, hrecord, hbreak, hchain, hhanded⟩ := completeScan_answers (s := s) c (some r.position) r.good r.bad hn
  refine ⟨t, hexec.trans ht, hrecord.trans ?_, hbreak, hchain, hhanded⟩
  unfold nextRecord
  cases r.position <;> rfl

/-- Settles O25: the last position's reply or its last try goes on to the completion, as no position is left. -/
theorem completedScanEvaluates : Obligations.CompletedScanEvaluates := by
  intro s u c r i goods bad hc hr hn hp hend
  have hlast : ∀ (w : State) (g b : List Nat), w.continueScan c r.position g b = w.completeScan c none g b := fun w g b =>
    if_neg (by omega)
  have hexec : exec i s = (u.completeScan c none goods bad).finish ∧ u.svc.restart = .none ∧ u.chain.record = s.chain.record := by
    rcases hend with ⟨reply, rfl, hgood, hpos, rfl, rfl, rfl⟩ | ⟨hspent, rfl, rfl, rfl, hbad⟩
    · refine ⟨?_, ?_⟩
      · rw [exec_chainReplyArrival hc hr, classifyReply_of_not_bad hgood, if_pos hpos, State.tryResult, State.endTransaction,
          hlast]
      · unfold State.storeReply
        split <;> exact ⟨hn, rfl⟩
    · refine ⟨?_, hn, rfl⟩
      have hstep : exec i u = (u.endTry c r true).finish := by
        rcases hbad with ⟨rfl, hreplied⟩ | ⟨reply, rfl, hbad⟩
        · rw [exec_chainReplyWaitExpiry hc hr, hreplied]
        · rw [exec_chainReplyArrival hc hr, classifyReply_of_bad hbad]
          rfl
      rw [hstep, endTry_of_spent hspent, hlast]
  obtain ⟨hexec, hn, hold⟩ := hexec
  obtain ⟨t, ht, hrecord, hbreak, hchain, hhanded⟩ := completeScan_answers (s := u) c none goods bad hn
  refine ⟨t, hexec.trans ht, hrecord.trans ?_, hbreak, hchain, hhanded⟩
  rw [hold]
  rfl

end Sys2Proof.Machine

namespace Sys2Proof.Machine

open Sys2Proof

/-! ### The pair within its limits (R40) and the watch on a pending restart (R181) -/

/-- A pending restart stands in a state from which it is accepted; the station has left LOADING (R181). -/
structure State.RestartWatched (s : State) : Prop where
  awake : s.svc.mode ≠ .loading
  allowed : s.svc.restart = .pending → s.AllowsRestart

/-- The two invariants that the operations of every block keep. -/
structure State.KeepsLimits (s t : State) : Prop where
  within : s.EnvelopeWithin → t.EnvelopeWithin
  watched : s.RestartWatched → t.RestartWatched

/-- What the two invariants read of a state, but for the pending restart itself. -/
def State.limitsRead (s : State) : (Nat × Nat × Nat) × Option ConfigSet × Mode × FireState × Bool × ConnState :=
  ((s.env.ec, s.env.ed, s.svc.siteCap), s.svc.config, s.svc.mode, s.fire.state, s.peers.containerFire, s.conn.state)

/-- The model's judgement of the accepted states is the one that statements name (R181). -/
theorem restartAllowed_iff {s : State} : s.restartAllowed = true ↔ s.AllowsRestart := by
  simp [State.restartAllowed, or_assoc]

/-- The connection state, the drives and the claims are no part of the pair's limits. -/
theorem State.EnvelopeWithin.of_protection {s t : State} (hs : s.EnvelopeWithin) (h : s.KeepsProtection t) :
    t.EnvelopeWithin := by
  have hcap : t.svc.siteCap = s.svc.siteCap := by rw [h.svc]
  have hconfig : t.svc.config = s.svc.config := by rw [h.svc]
  have hmode : t.svc.mode = s.svc.mode := by rw [h.svc]
  have hfire : t.fire.state = s.fire.state := by rw [h.fire]
  constructor
  · rw [h.env, hcap]; exact hs.ec
  · rw [h.env, hcap]; exact hs.ed
  · rw [hconfig, hcap]; exact hs.cap
  · rw [hconfig, hcap]; exact hs.noSet
  · rw [h.env, hmode, hfire, h.peers]; exact hs.forced

/-- A pair of 0 is within the limits in every mode and fire state. -/
theorem State.EnvelopeWithin.of_zero {s t : State} (hs : s.EnvelopeWithin) (hec : t.env.ec = 0) (hed : t.env.ed = 0)
    (hcap : t.svc.siteCap = s.svc.siteCap) (hconfig : t.svc.config = s.svc.config) : t.EnvelopeWithin where
  ec := by omega
  ed := by omega
  cap := by rw [hconfig, hcap]; exact hs.cap
  noSet := by rw [hconfig, hcap]; exact hs.noSet
  forced := fun _ => ⟨hec, hed⟩

namespace State.KeepsLimits

theorem refl (s : State) : s.KeepsLimits s := ⟨id, id⟩

theorem trans {s t u : State} (h : s.KeepsLimits t) (k : t.KeepsLimits u) : s.KeepsLimits u :=
  ⟨k.within ∘ h.within, k.watched ∘ h.watched⟩

theorem ite {s t u : State} {P : Prop} [Decidable P] (h : s.KeepsLimits t) (k : s.KeepsLimits u) :
    s.KeepsLimits (if P then t else u) := by
  split
  · exact h
  · exact k

/-- An operation that leaves what the invariants read, and makes no restart pending. -/
theorem of_read {s t : State} (h : t.limitsRead = s.limitsRead)
    (hr : t.svc.restart = .pending → s.svc.restart = .pending) : s.KeepsLimits t := by
  simp only [limitsRead, Prod.mk.injEq] at h
  obtain ⟨⟨hec, hed, hcap⟩, hconfig, hmode, hfire, hflag, hconn⟩ := h
  constructor
  · intro hs
    constructor
    · rw [hec, hcap]; exact hs.ec
    · rw [hed, hcap]; exact hs.ed
    · rw [hconfig, hcap]; exact hs.cap
    · rw [hconfig, hcap]; exact hs.noSet
    · rw [hec, hed, hmode, hfire, hflag]; exact hs.forced
  · intro hs
    refine ⟨hmode ▸ hs.awake, fun hp => ?_⟩
    rw [State.AllowsRestart, hconn, hfire]
    exact hs.allowed (hr hp)

/-- An operation behind a change of what the invariants do not read. -/
theorem after {s t u : State} (k : t.KeepsLimits u) (h : t.limitsRead = s.limitsRead)
    (hr : t.svc.restart = .pending → s.svc.restart = .pending) : s.KeepsLimits u := (of_read h hr).trans k

end State.KeepsLimits

/-! ### The queue, the connection state, the balance set -/

/-- The report of a loss makes no restart pending (R181). -/
theorem State.reportLoss_pending {s : State} {e : Entry} (h : (s.reportLoss e).svc.restart = .pending) :
    s.svc.restart = .pending := by
  have due : s.dueRestart.svc.restart = .pending → s.svc.restart = .pending := fun hd => by
    unfold State.dueRestart at hd
    split at hd
    · next hp => exact hp
    · exact hd
  unfold State.reportLoss at h
  split at h
  · split at h <;> exact h
  · split at h
    case h_2 => split at h <;> exact h
    all_goals exact h
  · split at h
    case h_1 => exact due h
    all_goals exact h
  all_goals exact h

/-- Handing over a frame makes no restart pending (R163, R181). -/
theorem State.enqueue_pending {s : State} {e : Entry} (h : (s.enqueue e).svc.restart = .pending) :
    s.svc.restart = .pending := by
  unfold State.enqueue at h
  split at h
  · exact h
  · split at h
    · exact State.reportLoss_pending (s := s.congest) h
    · split at h
      · exact State.reportLoss_pending (s := (s.setQueue (insertByClass e (eraseLastWaiting s.link.queue))).congest) h
      · exact State.reportLoss_pending (s := s.congest) h

/-- The frame of the queueing operations keeps the limits, where no restart comes to be pending. -/
theorem State.KeepsLimits.of_queueing {s t : State} (h : s.KeepsAllButQueueing t)
    (hr : t.svc.restart = .pending → s.svc.restart = .pending) : s.KeepsLimits t := by
  refine .of_read ?_ hr
  obtain ⟨_, hfire⟩ := h.fire
  obtain ⟨_, hconn⟩ := h.conn
  obtain ⟨_, _, hsvc⟩ := h.svc
  rw [limitsRead, hfire, hconn, hsvc, h.env, h.peers]
  rfl

theorem State.reportLoss_limits (s : State) (e : Entry) : s.KeepsLimits (s.reportLoss e) :=
  .of_queueing (s.reportLoss_keeps e) State.reportLoss_pending

theorem State.enqueue_limits (s : State) (e : Entry) : s.KeepsLimits (s.enqueue e) :=
  .of_queueing (s.enqueue_keeps e) State.enqueue_pending

theorem State.reply_limits (s : State) (kind : Byte) (result : ReplyResult) (data : List Byte) :
    s.KeepsLimits (s.reply kind result data) := s.enqueue_limits _

theorem State.enqueueAnnounce_limits (s : State) : s.KeepsLimits s.enqueueAnnounce :=
  .ite (.of_read rfl id) (s.enqueue_limits _)

/-- The cancelling of a pending restart watches it in every state behind LOADING (R181). -/
theorem cancelRestart_watched {s : State} (h : s.svc.mode ≠ .loading) : s.cancelRestart.RestartWatched := by
  unfold State.cancelRestart
  split
  · exact ⟨h, nofun⟩
  · next hn => exact ⟨h, fun hp => restartAllowed_iff.mp (by simpa [hp] using hn)⟩

/-- A change of the connection state cancels a pending restart which the new state does not allow (R181). -/
theorem State.KeepsLimits.setConn {s t : State} (h : s.KeepsProtection t) (st : ConnState) :
    s.KeepsLimits (t.setConn st) where
  within := fun hs => hs.of_protection (h.trans (t.setConn_blocks st).toKeepsProtection)
  watched := fun hs => cancelRestart_watched (show t.svc.mode ≠ .loading by rw [h.svc]; exact hs.awake)

theorem State.setMembers_limits (s : State) (m : List (Nat × Nat)) : s.KeepsLimits (s.setMembers m) :=
  .ite (.refl s) (.of_read rfl id)

theorem State.emptyBalance_limits (s : State) : s.KeepsLimits s.emptyBalance := s.setMembers_limits []

/-! ### The own join claim and the sequencer -/

/-- A change of the claim unit and a frame handed over for it. -/
theorem State.KeepsLimits.queueClaim (s : State) (c : ClaimUnit) (e : Entry) :
    s.KeepsLimits (({ s with claims := c } : State).enqueue e) := .after (State.enqueue_limits _ e) rfl id

theorem State.joinClaim_limits (s : State) : s.KeepsLimits s.joinClaim := by
  refine .ite ?_ (.refl s)
  split
  · exact .queueClaim s _ _
  all_goals exact .of_read rfl id

theorem State.joinRelease_limits (s : State) (r : JoinResult) : s.KeepsLimits (s.joinRelease r) := by
  unfold State.joinRelease
  split
  case h_3 => exact .queueClaim s _ _
  all_goals exact .of_read rfl id

theorem State.seqRelease_limits (s : State) (r : JoinResult) : s.KeepsLimits (s.seqRelease r) :=
  (s.joinRelease_limits r).trans (.of_read rfl id)

theorem State.leaveWaitToken_limits (s : State) (st : ConnState) : s.KeepsLimits (s.leaveWaitToken st) :=
  .setConn s.abandonCheck_connState.toKeepsProtection st

theorem State.enterWelded_limits (s : State) : s.KeepsLimits s.enterWelded := .setConn (.update s _ _ _ _) _

theorem State.finishOpening_limits (s : State) : s.KeepsLimits s.finishOpening := .setConn (.update s _ _ _ _) _

theorem State.enterOpening_limits (s : State) (d : ConnState) : s.KeepsLimits (s.enterOpening d) :=
  .ite (.trans (.setConn (.update s _ _ _ _) _) (State.finishOpening_limits _)) (.setConn (.update s _ _ _ _) _)

theorem State.forcedLeave_limits (s : State) : s.KeepsLimits s.forcedLeave := by
  have opened : ∀ d, s.KeepsLimits ((s.enterOpening d).seqRelease .failed) := fun d =>
    (s.enterOpening_limits d).trans (State.seqRelease_limits _ _)
  unfold State.forcedLeave
  split
  case h_1 | h_2 | h_3 | h_4 => exact opened _
  case h_5 => exact (s.leaveWaitToken_limits _).trans (State.seqRelease_limits _ _)
  all_goals exact .refl s

theorem State.reviewForced_limits (s : State) : s.KeepsLimits s.reviewForced := .ite s.forcedLeave_limits (.refl s)

theorem State.prechargeFailure_limits (s : State) : s.KeepsLimits s.prechargeFailure := by
  unfold State.prechargeFailure
  refine .trans (.after (State.enterOpening_limits _ _) ?_ ?_) (State.seqRelease_limits _ _)
  · rfl
  · exact id

theorem State.enterJoined_limits (s : State) : s.KeepsLimits s.enterJoined :=
  .trans (.setConn (.update s _ _ _ _) _) (State.seqRelease_limits _ _)

theorem State.enterClosing_limits (s : State) : s.KeepsLimits s.enterClosing :=
  .ite (.trans (.setConn (.update s _ _ _ _) _) (State.enterJoined_limits _)) (.setConn (.update s _ _ _ _) _)

theorem State.enterPrecharge_limits (s : State) : s.KeepsLimits s.enterPrecharge :=
  .ite (.trans (.setConn (.update s _ _ _ _) _) (.of_read rfl id)) (.setConn (.update s _ _ _ _) _)

theorem State.finishLeave_limits (s : State) : s.KeepsLimits s.finishLeave := .setConn (.update s _ _ _ _) _

theorem State.leaveStep3_limits (s : State) : s.KeepsLimits s.leaveStep3 :=
  .ite (.after (State.finishLeave_limits _) rfl id) (.of_read rfl id)

theorem State.leaveStep2_limits (s : State) : s.KeepsLimits s.leaveStep2 :=
  .ite (.after (State.leaveStep3_limits _) rfl id) (.of_read rfl id)

theorem State.enterLeaving_limits (s : State) (c : ConfigSet) : s.KeepsLimits (s.enterLeaving c) :=
  .ite (.trans (.setConn (.update s _ _ _ _) _) (State.leaveStep2_limits _)) (.setConn (.update s _ _ _ _) _)

theorem State.windowSuccess_limits (s : State) (w : WindowUse) : s.KeepsLimits (s.windowSuccess w) := by
  cases w with
  | proving => exact .of_read rfl id
  | negClose => exact .of_read rfl id
  | posClose => exact s.enterJoined_limits
  | opening => exact s.finishOpening_limits
  | leavePos => exact s.leaveStep3_limits
  | leaveNeg => exact s.finishLeave_limits

theorem State.windowFailure_limits (s : State) (w : WindowUse) : s.KeepsLimits (s.windowFailure w) := by
  cases w with
  | proving => exact .after (State.enterWelded_limits _) rfl id
  | negClose => exact s.prechargeFailure_limits
  | posClose => exact s.prechargeFailure_limits
  | opening => exact .after (State.enterWelded_limits _) rfl id
  | leavePos => exact s.enterWelded_limits
  | leaveNeg => exact s.enterWelded_limits

theorem State.testWindow_limits (s : State) : s.KeepsLimits s.testWindow := by
  unfold State.testWindow
  split
  · exact .refl s
  · exact .ite (s.windowSuccess_limits _) (.refl s)

/-! ### The token -/

theorem State.tokenLost_limits (s : State) (g : Bool) : s.KeepsLimits (s.tokenLost g) :=
  .after (t := s.syncToken)
    (.ite (.ite (State.prechargeFailure_limits _) (State.forcedLeave_limits _)) (.ite (.of_read rfl id) (.refl _))) rfl id

theorem State.joinReleaseByOther_limits (s : State) (g : Bool) : s.KeepsLimits (s.joinReleaseByOther g) :=
  (s.joinRelease_limits .failed).trans (.ite
    (.ite (.refl _) ((State.leaveWaitToken_limits _ _).trans (.of_read rfl id)))
    (.ite (State.tokenLost_limits _ _) (.refl _)))

theorem State.startCheck_limits (s : State) : s.KeepsLimits s.startCheck :=
  .after (State.enqueue_limits _ _) rfl id

theorem State.signalToken_limits (s : State) : s.KeepsLimits s.signalToken :=
  .ite (.refl s) (.ite (.ite (.after (State.startCheck_limits _) rfl id) (.of_read rfl id))
    (s.tokenLost_limits _))

theorem State.changeJoin_limits (s : State) (f : List Nat → List Nat) : s.KeepsLimits (s.changeJoin f) :=
  .after (State.signalToken_limits _) rfl id

/-! ### The heater -/

theorem State.slotSignal_limits (s : State) : s.KeepsLimits s.slotSignal :=
  .ite (.refl s) (.ite (.ite (.of_read rfl id) (.of_read rfl id)) (.ite (.of_read rfl id) (.of_read rfl id)))

theorem State.evalSlot_limits (s : State) : s.KeepsLimits s.evalSlot :=
  .ite ((s.slotSignal_limits.trans (.queueClaim _ _ _)).trans (State.slotSignal_limits _)) s.slotSignal_limits

theorem State.changeHeat_limits (s : State) (f : List Nat → List Nat) : s.KeepsLimits (s.changeHeat f) :=
  .after (State.evalSlot_limits _) rfl id

theorem State.setLimit_limits (s : State) (l : Nat) : s.KeepsLimits (s.setLimit l) :=
  .after (State.evalSlot_limits _) rfl id

theorem State.heatClaim_limits (s : State) : s.KeepsLimits s.heatClaim := by
  refine .ite ?_ (.refl s)
  split
  · exact .queueClaim s _ _
  all_goals exact .of_read rfl id

theorem State.heatRelease_limits (s : State) : s.KeepsLimits s.heatRelease := by
  unfold State.heatRelease
  split
  case h_3 => exact .trans (.queueClaim s _ _) (State.evalSlot_limits _)
  all_goals exact .of_read rfl id

theorem State.judgeSoak_limits (s : State) : s.KeepsLimits s.judgeSoak := by
  unfold State.judgeSoak
  split <;> exact .of_read rfl id

theorem State.judgeRecovery_limits (s : State) : s.KeepsLimits s.judgeRecovery := by
  unfold State.judgeRecovery
  split <;> exact .of_read rfl id

theorem State.setLevel_limits (s : State) (k : Nat) : s.KeepsLimits (s.setLevel k) :=
  .ite (.refl s) (.trans (.after (t := { s with thermal := { s.thermal with level := k } })
    (.ite (State.emptyBalance_limits _) (.refl _)) rfl id) (State.judgeSoak_limits _))

theorem State.beginDemand_limits (s : State) : s.KeepsLimits s.beginDemand :=
  .after (State.heatClaim_limits _) rfl id

theorem State.endDemand_limits (s : State) : s.KeepsLimits s.endDemand :=
  .ite (.after (State.heatRelease_limits _) rfl id) (.refl s)

/-- A change of the thermal state. -/
theorem State.setThermal_limits (s : State) (st : ThermalState) : s.KeepsLimits (s.setThermal st) := .of_read rfl id

theorem State.enterInhibited_limits (s : State) : s.KeepsLimits s.enterInhibited :=
  (s.endDemand_limits.trans (State.setThermal_limits _ _)).trans (State.setLevel_limits _ _)

theorem State.leaveInhibited_limits (s : State) : s.KeepsLimits s.leaveInhibited := by
  unfold State.leaveInhibited
  split
  · exact .refl s
  · exact ((s.setLevel_limits _).trans (State.setThermal_limits _ _)).trans (.ite (State.beginDemand_limits _) (.refl _))

theorem State.thermalReview_limits (s : State) : s.KeepsLimits s.thermalReview :=
  .ite (.refl s) (.ite (.ite (s.setLevel_limits _) s.enterInhibited_limits) (.ite s.leaveInhibited_limits (.refl s)))

theorem State.completionHeating_limits (s : State) (c : ConfigSet) : s.KeepsLimits (s.completionHeating c) :=
  (s.setLevel_limits 0).trans (.ite
    (.ite ((State.endDemand_limits _).trans (State.setThermal_limits _ _)) (State.heatClaim_limits _))
    (.ite (State.beginDemand_limits _) (State.setThermal_limits _ _)))

theorem State.completionLevel_limits (s : State) (c : ConfigSet) : s.KeepsLimits (s.completionLevel c) :=
  .ite (.refl s) (.ite (s.completionHeating_limits c)
    ((s.endDemand_limits.trans (State.setThermal_limits _ _)).trans (State.setLevel_limits _ _)))

theorem State.thermalCompletion_limits (s : State) (c : ConfigSet) : s.KeepsLimits (s.thermalCompletion c) :=
  .trans (.trans (.after (s.takeInlet.completionLevel_limits c) rfl id) (State.judgeSoak_limits _))
    (State.judgeRecovery_limits _)

end Sys2Proof.Machine

namespace Sys2Proof.Machine

open Sys2Proof

/-! ### The fire state -/

/-- A change of the fire state below ALARM, or among the states from ALARM on, asks nothing new of the pair. -/
theorem State.setFire_limits {s : State} {st : FireState} (h : fireAlarmed st = true → fireAlarmed s.fire.state = true) :
    s.KeepsLimits (s.setFire st) where
  within := fun hs => by
    have hset : ({ s with fire := { s.fire with state := st } } : State).EnvelopeWithin :=
      ⟨hs.ec, hs.ed, hs.cap, hs.noSet, fun hf => hs.forced (hf.imp id (Or.imp h id))⟩
    exact hset.of_protection (State.cancelRestart_connState _).toKeepsProtection
  watched := fun hs => cancelRestart_watched hs.awake

/-- A change of the fire state to one below ALARM (R113, R122). -/
theorem State.setFire_limits_of_unalarmed (s : State) {st : FireState} (h : fireAlarmed st = false) :
    s.KeepsLimits (s.setFire st) := State.setFire_limits fun ha => absurd ha (by simp [h])

theorem State.setCountdown_limits (s : State) (x : Timer) : s.KeepsLimits (s.setCountdown x) := .of_read rfl id

theorem State.setRepeat_limits (s : State) (x : Timer) : s.KeepsLimits (s.setRepeat x) := .of_read rfl id

theorem State.setFireLines_limits (s : State) (r f t : Bool) : s.KeepsLimits (s.setFireLines r f t) := .of_read rfl id

theorem State.enterReleased_limits {s : State} (h : fireAlarmed s.fire.state = true) : s.KeepsLimits s.enterReleased := by
  unfold State.enterReleased
  exact .trans (.trans (.trans (State.setFire_limits fun _ => h) (State.setCountdown_limits _ _))
    (State.setFireLines_limits _ _ _ _)) (State.enqueue_limits _ _)

theorem State.enterReleaseDelay_limits {s : State} (h : fireAlarmed s.fire.state = true) :
    s.KeepsLimits s.enterReleaseDelay :=
  .ite ((State.setFire_limits fun _ => h).trans (State.setCountdown_limits _ _))
    (.ite (State.enterReleased_limits h) ((State.setFire_limits fun _ => h).trans (State.setCountdown_limits _ _)))

/-- The inhibit moves the fire state from ALARM on (R109, R116). -/
theorem State.reviewInhibit_limits (s : State) : s.KeepsLimits s.reviewInhibit := by
  have back : fireAlarmed s.fire.state = true → s.KeepsLimits ((s.setFire .alarm).setCountdown none) := fun h =>
    (State.setFire_limits fun _ => h).trans (State.setCountdown_limits _ _)
  unfold State.reviewInhibit
  split
  · next h => exact .ite (.refl s) (State.enterReleaseDelay_limits (by rw [h]; rfl))
  · next h => exact .ite (back (by rw [h]; rfl)) (.refl s)
  · next h => exact .ite (back (by rw [h]; rfl)) (.refl s)
  all_goals exact .refl s

/-- The drop of the pair to 0 restores its limits, whatever ahead of it asked for the drop (R41). -/
theorem State.KeepsLimits.zeroPair {s t : State} (h : s.KeepsReadings t) (hw : s.RestartWatched → t.RestartWatched) :
    s.KeepsLimits t.zeroPair where
  within := fun hs => hs.of_zero rfl rfl h.siteCap h.config
  watched := fun hs => ⟨(hw hs).awake, (hw hs).allowed⟩

/-- The end of the drops under container fire and in SAFE: the set is emptied, both claims are released (R46, R83, R84). -/
theorem State.released_limits (s : State) :
    s.KeepsLimits ((s.emptyBalance.joinReleaseByOther false).heatRelease).thermalReview :=
  ((s.emptyBalance_limits.trans (State.joinReleaseByOther_limits _ _)).trans (State.heatRelease_limits _)).trans
    (State.thermalReview_limits _)

theorem State.setContainerFire_limits (s : State) : s.KeepsLimits s.setContainerFire :=
  .ite (.refl s) (.trans (.zeroPair (t := { s with peers := { s.peers with containerFire := true } })
    (by constructor <;> rfl) fun hs => ⟨hs.awake, hs.allowed⟩) (State.released_limits _))

theorem State.evaluateContainerFire_limits (s : State) : s.KeepsLimits s.evaluateContainerFire := by
  refine .ite (.trans (t := { s with peers := { s.peers with containerFire := false } }) ⟨fun hs => ?_, fun hs => ?_⟩
    (State.thermalReview_limits _)) (.refl s)
  · exact ⟨hs.ec, hs.ed, hs.cap, hs.noSet, fun hf => hs.forced (hf.imp id (Or.imp id nofun))⟩
  · exact ⟨hs.awake, hs.allowed⟩

theorem State.queueCall_limits (s : State) : s.KeepsLimits s.queueCall := by
  unfold State.queueCall
  split
  · exact .refl s
  · exact .after (State.enqueue_limits _ _) rfl id

/-- At the entry to ALARM the fire state asks for a pair of 0, which the drop brings about before the command ends (R41, R115). -/
theorem State.enterAlarm_limits (s : State) : s.KeepsLimits s.enterAlarm := by
  have readings : s.KeepsReadings ((s.setRepeat none).setFire .alarm) :=
    .trans (by constructor <;> rfl) (State.setFire_readings _ _)
  have watched : s.RestartWatched → ((s.setRepeat none).setFire .alarm).RestartWatched := fun hs =>
    cancelRestart_watched hs.awake
  have flagged : ∀ t : State, t.KeepsReadings ((t.enqueue t.fireNotice).setFireLines false true true).setContainerFire
      ∧ t.KeepsLimits ((t.enqueue t.fireNotice).setFireLines false true true).setContainerFire := fun t =>
    ⟨((t.enqueue_readings _).trans (by constructor <;> rfl)).trans (State.setContainerFire_readings _),
      ((t.enqueue_limits _).trans (State.setFireLines_limits _ _ _ _)).trans (State.setContainerFire_limits _)⟩
  unfold State.enterAlarm
  exact ((State.KeepsLimits.zeroPair (readings.trans (flagged _).1) fun hs => (flagged _).2.watched (watched hs)).trans
    ((State.emptyBalance_limits _).trans (State.thermalReview_limits _))).trans (State.reviewInhibit_limits _)

theorem State.enterPreAlarm_limits (s : State) : s.KeepsLimits s.enterPreAlarm := by
  unfold State.enterPreAlarm
  exact .trans (.trans ((s.setFire_limits_of_unalarmed rfl).trans (State.emptyBalance_limits _))
    ((State.enqueue_limits _ _).trans (State.setRepeat_limits _ _))) (State.queueCall_limits _)

theorem State.returnToNormal_limits (s : State) : s.KeepsLimits s.returnToNormal := by
  unfold State.returnToNormal
  exact .trans ((s.setRepeat_limits _).trans (State.setFire_limits_of_unalarmed _ rfl)) (State.enqueue_limits _ _)

theorem State.judgeSources_limits (s : State) (x : Sources) : s.KeepsLimits (s.judgeSources x) := by
  unfold State.judgeSources
  split
  · exact .ite (.ite s.enterAlarm_limits s.enterPreAlarm_limits) (.refl s)
  · exact .ite s.enterAlarm_limits (.ite s.returnToNormal_limits (.refl s))
  all_goals exact .refl s

theorem State.reviewZoneKey_limits (s : State) : s.KeepsLimits s.reviewZoneKey :=
  .ite (.refl s) (.after (State.reviewInhibit_limits _) rfl id)

/-! ### SAFE and the end of a command -/

theorem State.enterSafe_limits (s : State) : s.KeepsLimits s.enterSafe :=
  .trans (.zeroPair (t := { s with svc := { s.svc with mode := .safe, apCount := 0 } }) (by constructor <;> rfl)
    fun hs => ⟨nofun, hs.allowed⟩) (State.released_limits _)

theorem State.setDuplicateId_limits (s : State) : s.KeepsLimits s.setDuplicateId :=
  .after (t := { s with svc := { s.svc with duplicateId := true } }) (.ite (State.enterSafe_limits _) (.refl _)) rfl id

theorem State.settle_limits (s : State) : s.KeepsLimits s.settle := s.reviewForced_limits.trans (.of_read rfl id)

/-- A reset leaves a pair of 0 and a site cap of 0 (R21, R26, R182). -/
theorem resetWith_within (lines : Lines) (pending : List Instr) : (State.resetWith lines pending).EnvelopeWithin where
  ec := Nat.zero_le _
  ed := Nat.zero_le _
  cap := fun _ hc => nomatch hc
  noSet := fun _ => rfl
  forced := fun _ => ⟨rfl, rfl⟩

/-- The end of a command keeps the pair within its limits, be it the judgements or a reset. -/
theorem finish_within {s t : State} (hs : s.EnvelopeWithin) (ht : s.finish = .next t) : t.EnvelopeWithin := by
  obtain rfl := Host.Outcome.next.inj ht
  split
  · exact resetWith_within _ _
  · exact s.settle_limits.within hs

/-- A command that leaves a watched restart, and whose end leaves a state that allows none, has cancelled it (R181): a reset would
have ended in a state that allows it. -/
theorem finish_cancels {s t : State} (hs : s.RestartWatched) (ht : s.finish = .next t) (hn : ¬t.AllowsRestart) :
    t.svc.restart = .none ∧ t.svc.mode ≠ .loading := by
  have hw := s.settle_limits.watched hs
  obtain rfl := Host.Outcome.next.inj ht
  split at hn
  · exact absurd ⟨.inl rfl, rfl⟩ hn
  · next hdue =>
    rw [if_neg hdue]
    refine ⟨?_, hw.awake⟩
    cases hr : s.settle.svc.restart with
    | none => rfl
    | pending => exact absurd (hw.allowed hr) hn
    | due => exact absurd hr hdue

/-! ### The receiver -/

theorem State.receive_limits {s : State} {act : State → State} (h : ∀ t, State.KeepsLimits t (act t)) :
    s.KeepsLimits (s.receive act) := .ite (.ite (.of_read rfl id) (.after (h _) rfl id)) (.refl s)

theorem State.receiveKind_limits {s : State} {act : State → State} (payload : List Byte) (n : Nat)
    (h : ∀ t, State.KeepsLimits t (act t)) : s.KeepsLimits (s.receiveKind payload n act) :=
  State.receive_limits fun t => .ite (h t) (.refl t)

theorem State.takeRequest_limits {s : State} {act : List Byte → State → State} (sender : BitVec 5) (payload : List Byte)
    (h : ∀ args t, State.KeepsLimits t (act args t)) : s.KeepsLimits (s.takeRequest sender payload act) :=
  State.receive_limits fun t => by
    split
    · exact .refl t
    · exact .ite (h _ t) (.refl t)

theorem State.judgeRequest_limits {s : State} {act : State → State} (kind : Byte) (args : List Byte) (n : Nat)
    (modeOk : Mode → Bool) (h : s.KeepsLimits (act s)) : s.KeepsLimits (s.judgeRequest kind args n modeOk act) :=
  .ite (s.reply_limits _ _ _) (.ite h (s.reply_limits _ _ _))

/-! ### The evaluation of the pair (R34 to R40) -/

/-- The ramp never goes above the target (R39). -/
theorem rampTo_le (c : ConfigSet) (previous target : Nat) : rampTo c previous target ≤ target := by
  unfold rampTo
  split <;> omega

/-- The forces on the targets, one by one (R35, R36). -/
theorem forceZero_iff {s : State} : s.forceZero = true ↔ s.svc.mode ≠ .active ∨ fireAlarmed s.fire.state = true
    ∨ s.peers.containerFire = true ∨ s.chain.dataLoss = true ∨ s.chain.tempLoss = true ∨ s.env.trip = true := by
  simp [State.forceZero, or_assoc]

/-- A forced target is 0 (R35, R36). -/
theorem target_of_forceZero {s : State} (x : Nat) (h : s.forceZero = true) : s.target x = 0 := if_pos h

/-- A target lies within its capped value (R35 to R37). -/
theorem target_le (s : State) (x : Nat) : s.target x ≤ x := by
  unfold State.target
  split <;> [skip; split] <;> omega

/-- A capped value lies within the site cap (R34). -/
theorem capCurrent_le (c : ConfigSet) (siteCap x : Nat) : capCurrent c siteCap x ≤ siteCap :=
  (min_le_right _ _).trans (min_le_right _ _)

/-- An evaluation writes a pair within the site cap, and a pair of 0 where a force holds (R40). -/
theorem State.evaluatePair_limits (s : State) (c : ConfigSet) : s.KeepsLimits (s.evaluatePair c) where
  within := fun hs => by
    refine ⟨?_, ?_, hs.cap, hs.noSet, fun hf => ?_⟩
    · exact (rampTo_le _ _ _).trans ((target_le _ _).trans (capCurrent_le _ _ _))
    · exact (rampTo_le _ _ _).trans ((target_le _ _).trans (capCurrent_le _ _ _))
    · have hforce : s.forceZero = true := forceZero_iff.mpr (hf.imp id (Or.imp id .inl))
      have hzero : ∀ previous x, rampTo c previous (s.target x) = 0 := fun previous x =>
        Nat.le_zero.mp ((rampTo_le _ _ _).trans_eq (target_of_forceZero x hforce))
      exact ⟨hzero _ _, hzero _ _⟩
  watched := fun hs => ⟨hs.awake, hs.allowed⟩

/-! ### The module chain -/

theorem State.sequencerCompletion_limits (s : State) (c : ConfigSet) (good0 : Bool) :
    s.KeepsLimits (s.sequencerCompletion c good0) := by
  unfold State.sequencerCompletion
  split
  · exact .ite (.ite ((State.KeepsLimits.setConn (.update s _ _ _ _) _).trans (State.joinClaim_limits _))
      (.of_read rfl id)) (.refl s)
  · exact .ite s.enterClosing_limits (.refl s)
  · exact .ite s.leaveStep2_limits (.refl s)
  all_goals exact .refl s

/-- A completion evaluates the pair, and nothing else in it asks for another one (R15, R22). -/
theorem State.completeScan_limits (s : State) (c : ConfigSet) (stop : Option Nat) (goods bad : List Nat) :
    s.KeepsLimits (s.completeScan c stop goods bad) := by
  have judged : ∀ t : State, t.KeepsLimits ((t.judgeTrips c goods).evaluatePair c) := fun t =>
    .after (State.evaluatePair_limits _ c) rfl id
  have rebuilt : ∀ t : State, t.KeepsLimits (t.rebuildBalance c) := fun t => .after (State.setMembers_limits _ _) rfl id
  have owed : ∀ t : State, t.KeepsLimits t.startOwed := fun t => .ite (.of_read rfl id) (.refl t)
  unfold State.completeScan
  refine .after (t := { s with chain := s.chain.completed c stop goods bad }) ?_ rfl id
  exact .trans (.trans ((judged _).trans ((rebuilt _).trans ((State.thermalCompletion_limits _ c).trans
    (State.reviewForced_limits _)))) (State.sequencerCompletion_limits _ c _)) (owed _)

theorem State.continueScan_limits (s : State) (c : ConfigSet) (p : Nat) (goods bad : List Nat) :
    s.KeepsLimits (s.continueScan c p goods bad) := .ite (.of_read rfl id) (s.completeScan_limits c _ _ _)

theorem State.endTransaction_limits (s : State) (c : ConfigSet) (r : ScanRun) (body : ReplyBody)
    (o : TransactionOutcome) : s.KeepsLimits (s.endTransaction c r body o) := by
  have stored : s.KeepsLimits (s.storeReply r.position body) := by cases body <;> exact .of_read rfl id
  cases o with
  | good => exact stored.trans (State.continueScan_limits _ _ _ _ _)
  | checkFail => exact s.continueScan_limits _ _ _ _
  | noReply => exact s.completeScan_limits _ _ _ _
  | wrongPosition => exact s.completeScan_limits _ _ _ _

theorem State.tryResult_limits (s : State) (c : ConfigSet) (r : ScanRun) (body : ReplyBody) (x : TryResult) :
    s.KeepsLimits (s.tryResult c r body x) := by
  have ended : ∀ replied, s.KeepsLimits (s.endTry c r replied) := fun replied =>
    .ite (.of_read rfl id) (s.endTransaction_limits _ _ _ _)
  cases x with
  | good => exact s.endTransaction_limits c r body .good
  | wrongPosition => exact s.endTransaction_limits c r body .wrongPosition
  | badCheck => exact ended _
  | noReply => exact ended _

theorem State.replyArrives_limits (s : State) (reply : ChainReply) : s.KeepsLimits (s.replyArrives reply) := by
  unfold State.replyArrives
  split
  · exact s.tryResult_limits _ _ _ _
  · exact .refl s

theorem State.replyWaitExpires_limits (s : State) : s.KeepsLimits s.replyWaitExpires := by
  unfold State.replyWaitExpires
  split
  · exact s.tryResult_limits _ _ _ _
  · exact .refl s

theorem State.scanInterval_limits (s : State) : s.KeepsLimits s.scanInterval :=
  .ite (.ite (.of_read rfl id) (.of_read rfl id)) (.refl s)

/-! ### Start-up -/

theorem State.leaveLoading_limits (s : State) (period : Nat) : s.KeepsLimits (s.leaveLoading period) :=
  .after ((State.thermalReview_limits _).trans (State.enqueueAnnounce_limits _)) rfl id

theorem State.gridAsserted_limits (s : State) (c : ConfigSet) : s.KeepsLimits (s.gridAsserted c) := by
  unfold State.gridAsserted
  split <;> exact .of_read rfl id

/-- In LOADING no restart is watched, so that the limits of the pair alone are to be kept. -/
theorem State.KeepsLimits.of_loading {s t : State} (hl : s.svc.mode = .loading)
    (h : s.EnvelopeWithin → t.EnvelopeWithin) : s.KeepsLimits t := ⟨h, fun hs => absurd hl hs.awake⟩

/-- The entry to LISTENING sets the site cap to IRACK_MAX, above a pair that is 0 in LOADING (R26, R175). -/
theorem State.enterListening_limits {s : State} (c : ConfigSet) (h : s.svc.mode = .loading) :
    s.KeepsLimits (s.enterListening c) := by
  have listening : s.KeepsLimits { s with
      svc := { s.svc with mode := .listening, config := some c, siteCap := c.irackMax, apCount := 0 }
      claims := { s.claims with limit := c.heatLimitIsland }
      chain := { s.chain with scanTimer := some 100 }
      env := { s.env with runawayTimer := some 1000 } } := by
    refine .of_loading h fun hs => ?_
    obtain ⟨hec, hed⟩ := hs.forced (.inl (by simp [h]))
    exact ⟨by simp [hec], by simp [hed], fun _ hc => by cases hc; exact le_rfl, nofun, fun _ => ⟨hec, hed⟩⟩
  have started : ∀ t : State, t.KeepsLimits t.startScan := fun _ => .of_read rfl id
  have degraded : ∀ t : State, t.KeepsLimits (if t.lines.chillerFault then t.setDegraded true else t) := fun t =>
    .ite (.of_read rfl id) (.refl t)
  have healthy : ∀ t : State, t.KeepsLimits (if t.lines.gridHealthy then t.gridAsserted c else t) := fun t =>
    .ite (t.gridAsserted_limits c) (.refl t)
  unfold State.enterListening
  exact .trans (.trans (listening.trans ((State.evalSlot_limits _).trans
    ((State.leaveLoading_limits _ _).trans (started _)))) (degraded _)) (healthy _)

theorem State.loadConfig_limits (s : State) (image : List Byte) : s.KeepsLimits (s.loadConfig image) := by
  unfold State.loadConfig
  split
  · next h =>
    split
    · exact State.enterListening_limits _ h
    · refine .trans (.of_loading h fun hs => ?_) (State.leaveLoading_limits _ _)
      exact ⟨hs.ec, hs.ed, hs.cap, hs.noSet, fun _ => hs.forced (.inl (by simp [h]))⟩
  · exact .refl s

/-! ### The fire unit, the heater and the grid -/

theorem State.sampleLoops_limits (s : State) (a b : Nat) : s.KeepsLimits (s.sampleLoops a b) :=
  .ite (.after (State.judgeSources_limits _ _) rfl id) (.refl s)

theorem State.sampleRunaway_limits (s : State) : s.KeepsLimits s.sampleRunaway := by
  unfold State.sampleRunaway
  split
  · exact .refl s
  · exact .ite (.after (State.judgeSources_limits _ _) rfl id) (.refl s)

theorem State.countdownExpires_limits (s : State) : s.KeepsLimits s.countdownExpires := by
  unfold State.countdownExpires
  split
  · next h => exact State.enterReleased_limits (by rw [h.1]; rfl)
  · exact .refl s

theorem State.repeatExpires_limits (s : State) : s.KeepsLimits s.repeatExpires :=
  .ite (.after (State.queueCall_limits _) rfl id) (.refl s)

theorem State.abortChange_limits (s : State) (b : Bool) : s.KeepsLimits (s.abortChange b) := by
  refine .trans (t := { s with lines := { s.lines with abort := b } }) (.of_read rfl id) ?_
  unfold State.abortChange
  dsimp only
  split
  · next h => exact .ite ((State.setFire_limits fun _ => by rw [h]; rfl).trans (.of_read rfl id)) (.refl _)
  · next h => exact .ite (.refl _) (State.enterReleaseDelay_limits (by rw [h]; rfl))
  all_goals exact .refl _

theorem State.keyChange_limits (s : State) (b : Bool) : s.KeepsLimits (s.keyChange b) :=
  .after (t := { s with lines := { s.lines with key := b } })
    (.ite (.refl _) (.after (State.reviewInhibit_limits _) rfl id)) rfl id

theorem State.setDegraded_limits (s : State) (b : Bool) : s.KeepsLimits (s.setDegraded b) := .of_read rfl id

theorem State.chillerFaultChange_limits (s : State) (b : Bool) : s.KeepsLimits (s.chillerFaultChange b) :=
  .after (t := { s with lines := { s.lines with chillerFault := b } })
    (.ite (.trans (.ite (State.setDegraded_limits _ _) (.refl _)) (State.judgeRecovery_limits _)) (.refl _)) rfl id

theorem State.heatSoakExpire_limits (s : State) : s.KeepsLimits s.heatSoakExpire := .ite (.of_read rfl id) (.refl s)

theorem State.recoveryExpire_limits (s : State) : s.KeepsLimits s.recoveryExpire := .ite (.of_read rfl id) (.refl s)

theorem State.gridReleased_limits (s : State) (c : ConfigSet) : s.KeepsLimits (s.gridReleased c) := by
  unfold State.gridReleased
  split
  · exact .refl s
  · exact .of_read rfl id
  · exact .after (State.setLimit_limits _ _) rfl id

theorem State.gridChange_limits (s : State) (b : Bool) : s.KeepsLimits (s.gridChange b) := by
  refine .trans (t := { s with lines := { s.lines with gridHealthy := b } }) (.of_read rfl id) ?_
  unfold State.gridChange
  dsimp only
  split
  · exact .refl _
  · exact .ite (.ite (State.gridAsserted_limits _ _) (State.gridReleased_limits _ _)) (.refl _)

theorem State.reconnectExpires_limits (s : State) : s.KeepsLimits s.reconnectExpires := by
  unfold State.reconnectExpires
  split
  · exact .refl s
  · exact .ite (.after (State.setLimit_limits _ _) rfl id) (.refl s)

/-! ### Peers -/

theorem State.fireReported_limits (s : State) (f : FireState) : s.KeepsLimits (s.fireReported f) :=
  .ite s.setContainerFire_limits (.refl s)

/-- A change of the peer table. -/
theorem State.setTable_limits (s : State) (l : List PeerRecord) : s.KeepsLimits (s.setTable l) := .of_read rfl id

theorem State.takeAnnounce_limits (s : State) (n : Nat) (p : List Byte) : s.KeepsLimits (s.takeAnnounce n p) := by
  have repaired : ∀ (t : State) (f g : List Nat → List Nat), t.KeepsLimits ((t.changeJoin f).changeHeat g) := fun t f g =>
    (t.changeJoin_limits f).trans (State.changeHeat_limits _ g)
  have confirmed : ∀ t : State, t.KeepsLimits t.confirmByPeer := fun t => .ite t.enterAlarm_limits (.refl t)
  exact .ite ((((s.setTable_limits _).trans (repaired _ _ _)).trans (State.reviewZoneKey_limits _)).trans
      ((State.fireReported_limits _ _).trans (confirmed _)))
    (.ite ((s.fireReported_limits _).trans (State.setDuplicateId_limits _)) (.refl s))

theorem State.noticeToFireUnit_limits (s : State) (zone : Nat) (f : FireState) :
    s.KeepsLimits (s.noticeToFireUnit zone f) := by
  have followed : fireAlarmed s.fire.state = true → s.KeepsLimits
      (if f = .released ∧ zone = s.ownZone ∧ s.fire.serviceKey = false then s.enterReleased else s) := fun h =>
    .ite (State.enterReleased_limits h) (.refl s)
  unfold State.noticeToFireUnit
  split
  · exact .ite s.enterAlarm_limits (.ite s.queueCall_limits (.refl s))
  · next h => exact followed (by rw [h]; rfl)
  · next h => exact followed (by rw [h]; rfl)
  · next h => exact followed (by rw [h]; rfl)
  all_goals exact .refl s

theorem State.takeFireNotice_limits (s : State) (n : Nat) (p : List Byte) : s.KeepsLimits (s.takeFireNotice n p) :=
  .ite (((s.setTable_limits _).trans (State.reviewZoneKey_limits _)).trans
      ((State.fireReported_limits _ _).trans (State.noticeToFireUnit_limits _ _ _)))
    (.ite (s.fireReported_limits _) (.refl s))

/-! ### The announcement period -/

theorem State.requeueJoin_limits (s : State) : s.KeepsLimits s.requeueJoin := by
  refine .ite (.after (t := { s with claims := { s.claims with join := { s.claims.join with requeue := false } } })
    ?_ rfl id) (.refl s)
  dsimp only
  split
  · exact State.enqueue_limits _ _
  · exact State.enqueue_limits _ _
  all_goals exact .refl _

theorem State.requeueHeat_limits (s : State) : s.KeepsLimits s.requeueHeat := by
  refine .ite (.after (t := { s with claims := { s.claims with heat := { s.claims.heat with requeue := false } } })
    ?_ rfl id) (.refl s)
  dsimp only
  split
  · exact State.enqueue_limits _ _
  · exact State.enqueue_limits _ _
  all_goals exact .refl _

/-- The entry to ACTIVE from LISTENING, where the pair is 0 (R40, R176). -/
theorem State.enterActive_limits {s : State} (h : s.svc.mode = .listening) : s.KeepsLimits s.enterActive := by
  have active : s.KeepsLimits { s with svc := { s.svc with mode := .active, apCount := 0 } } :=
    ⟨fun hs => have hzero := hs.forced (.inl (by simp [h])); hs.of_zero hzero.1 hzero.2 rfl rfl,
      fun hs => ⟨nofun, hs.allowed⟩⟩
  have proving : ∀ t : State, t.KeepsLimits t.startProving := fun _ => .after (State.testWindow_limits _) rfl id
  exact (active.trans (proving _)).trans (State.thermalReview_limits _)

theorem State.countAp_limits (s : State) : s.KeepsLimits s.countAp := by
  unfold State.countAp
  split
  · next h => exact .ite (State.enterActive_limits h) (.of_read rfl id)
  · exact .refl s

theorem State.apExpires_limits (s : State) : s.KeepsLimits s.apExpires := by
  have swept : s.KeepsLimits s.ageAndSweep :=
    ((s.setTable_limits _).trans (State.reviewZoneKey_limits _)).trans
      ((State.changeJoin_limits _ _).trans (State.changeHeat_limits _ _))
  have checked : ∀ t : State, t.KeepsLimits t.requeueCheck := fun t => .ite t.startCheck_limits (.refl t)
  have judged : ∀ t : State, t.KeepsLimits t.judgeCongestion := fun t => .ite (.of_read rfl id) (.refl t)
  exact .ite ((swept.trans ((State.requeueJoin_limits _).trans ((State.requeueHeat_limits _).trans (checked _)))).trans
    ((State.enqueueAnnounce_limits _).trans ((judged _).trans (State.countAp_limits _)))) (.refl s)

/-! ### Claim frames and timers -/

theorem State.takeJoinClaim_limits (s : State) (n : Nat) : s.KeepsLimits (s.takeJoinClaim n) :=
  .ite (s.changeJoin_limits _) (.refl s)

theorem State.takeJoinDone_limits (s : State) (n : Nat) : s.KeepsLimits (s.takeJoinDone n) :=
  .ite (s.changeJoin_limits _) (.refl s)

theorem State.takeHeatClaim_limits (s : State) (n : Nat) : s.KeepsLimits (s.takeHeatClaim n) :=
  .ite (s.changeHeat_limits _) (.refl s)

theorem State.takeHeatRelease_limits (s : State) (n : Nat) : s.KeepsLimits (s.takeHeatRelease n) :=
  .ite (s.changeHeat_limits _) (.refl s)

theorem State.headExpires_limits (s : State) : s.KeepsLimits s.headExpires := by
  unfold State.headExpires
  split
  · exact .after (t := { s with claims := { s.claims with headTimer := none } })
      (.ite (.ite (State.joinReleaseByOther_limits _ _) (.refl _)) (State.changeJoin_limits _ _)) rfl id
  · exact .refl s

theorem State.holdExpires_limits (s : State) : s.KeepsLimits s.holdExpires := by
  unfold State.holdExpires
  split
  · exact .after (State.evalSlot_limits _) rfl id
  all_goals exact .refl s

theorem State.ownJoinClaimDone_limits (s : State) : s.KeepsLimits s.ownJoinClaimDone := by
  refine .after (t := s.setJoinEntries (appendAbsent s.ownNumber s.claims.join.entries)) ?_ rfl id
  unfold State.ownJoinClaimDone
  dsimp only
  split
  · exact .after (State.signalToken_limits _) rfl id
  · exact .queueClaim _ _ _
  all_goals exact State.signalToken_limits _

theorem State.ownJoinDoneDone_limits (s : State) : s.KeepsLimits s.ownJoinDoneDone := by
  refine .after (t := s.setJoinEntries (removeNumber s.ownNumber s.claims.join.entries)) ?_ rfl id
  unfold State.ownJoinDoneDone
  dsimp only
  split
  · exact .after (State.signalToken_limits _) rfl id
  · exact .trans (.queueClaim _ _ _) (State.signalToken_limits _)
  all_goals exact State.signalToken_limits _

theorem State.ownHeatClaimDone_limits (s : State) : s.KeepsLimits s.ownHeatClaimDone := by
  refine .after (t := s.setHeatEntries (appendAbsent s.ownNumber s.claims.heat.entries)) ?_ rfl id
  unfold State.ownHeatClaimDone
  dsimp only
  split
  · exact .after (State.evalSlot_limits _) rfl id
  · exact .trans (.queueClaim _ _ _) (State.evalSlot_limits _)
  all_goals exact State.evalSlot_limits _

theorem State.ownHeatReleaseDone_limits (s : State) : s.KeepsLimits s.ownHeatReleaseDone := by
  refine .after (t := s.setHeatEntries (removeNumber s.ownNumber s.claims.heat.entries)) ?_ rfl id
  unfold State.ownHeatReleaseDone
  dsimp only
  split
  · exact .after (State.evalSlot_limits _) rfl id
  · exact .trans (.queueClaim _ _ _) (State.evalSlot_limits _)
  all_goals exact State.evalSlot_limits _

/-! ### The link -/

theorem State.takeCensusCall_limits (s : State) (n : Nat) (p : List Byte) : s.KeepsLimits (s.takeCensusCall n p) :=
  .ite (.of_read rfl id) (.refl s)

theorem State.joinedResult_limits (s : State) (w : WindowRead) : s.KeepsLimits (s.joinedResult w) := by
  have abandoned : ∀ t : State, t.KeepsLimits t.abandonJoin := fun t =>
    (t.leaveWaitToken_limits _).trans (State.seqRelease_limits _ _)
  have mismatched : s.KeepsLimits ({ s with conn := { s.conn with mismatch := true } } : State).abandonJoin :=
    .after (abandoned _) rfl id
  unfold State.joinedResult
  split
  · exact .ite (.ite (abandoned s) (.ite (.ite mismatched s.enterPrecharge_limits)
      (.ite mismatched s.enterPrecharge_limits))) (.refl s)
  · exact .refl s

theorem State.settleGateway_limits (s : State) (result : ReplyResult) (data : List Byte) :
    s.KeepsLimits (s.settleGateway result data) := .after (State.enqueue_limits _ _) rfl id

theorem State.gatewayResult_limits (s : State) (q z : Byte) (w : WindowRead) : s.KeepsLimits (s.gatewayResult q z w) := by
  unfold State.gatewayResult
  split
  · exact .ite (s.settleGateway_limits _ _) (.refl s)
  · exact .refl s

theorem State.goodWindow_limits (s : State) (a : CensusAnswer) (w : WindowRead) : s.KeepsLimits (s.goodWindow a w) := by
  have own : s.KeepsLimits (s.ownCallGood a.own) := .ite (.of_read rfl id) (.refl s)
  have zone : ∀ (t : State) (P : Prop) [Decidable P], t.KeepsLimits (if P then t.zoneResult w else t) := fun t P _ =>
    .ite (.ite t.enterAlarm_limits (.refl t)) (.refl t)
  have joined : ∀ (t : State) (P : Prop) [Decidable P], t.KeepsLimits (if P then t.joinedResult w else t) := fun t P _ =>
    .ite (t.joinedResult_limits w) (.refl t)
  have removed : ∀ t : State, t.KeepsLimits (t.removeIdentical a.question a.zone) := fun t =>
    .ite (.of_read rfl id) (.of_read rfl id)
  exact (own.trans (zone _ _)).trans ((joined _ _).trans ((removed _).trans (State.gatewayResult_limits _ _ _ _)))

theorem State.failedWindow_limits (s : State) (a : CensusAnswer) : s.KeepsLimits (s.failedWindow a) := by
  unfold State.failedWindow
  split
  · exact .ite (s.enqueue_limits _) (.of_read rfl id)
  · exact .ite (.refl s) s.startCheck_limits
  · exact s.settleGateway_limits _ _
  all_goals exact .refl s

theorem State.windowCompletes_limits (s : State) (w : WindowRead) : s.KeepsLimits (s.windowCompletes w) := by
  unfold State.windowCompletes
  split
  · exact .refl s
  · exact .after (t := { s with link := { s.link with census := none } })
      (.ite (State.goodWindow_limits _ _ _) (State.failedWindow_limits _ _)) rfl id

theorem State.attemptStart_limits (s : State) (b : Bool) : s.KeepsLimits (s.attemptStart b) :=
  .ite (.of_read rfl id) (.of_read rfl id)

theorem State.arbitrationLost_limits (s : State) : s.KeepsLimits s.arbitrationLost := .ite (.refl s) (.of_read rfl id)

theorem State.setReception_limits (s : State) (r : Reception) : s.KeepsLimits (s.setReception r) := .of_read rfl id

theorem State.bitError_limits (s : State) (n : Nat) : s.KeepsLimits (s.bitError n) := by
  have dropped : ∀ x, s.KeepsLimits (s.bitErrorEntry x) := fun x =>
    .ite (.of_read rfl id) (.after (State.reportLoss_limits _ _) rfl id)
  have counted : ∀ t : State, t.KeepsLimits (t.headerError n) := fun t =>
    .ite (.ite (.after (State.setDuplicateId_limits _) rfl id) (.of_read rfl id)) (.of_read rfl id)
  unfold State.bitError
  split
  · exact .refl s
  · exact .trans ((dropped _).trans (State.setReception_limits _ _)) (counted _)

/-- A restart that becomes due is no longer pending (R181). -/
theorem State.dueRestart_limits (s : State) : s.KeepsLimits s.dueRestart := .ite (.of_read rfl nofun) (.refl s)

theorem State.selfReceive_limits (s : State) (x : Entry) : s.KeepsLimits (s.selfReceive x) := by
  unfold State.selfReceive
  split
  · split
    · exact s.ownJoinClaimDone_limits
    · exact s.ownJoinDoneDone_limits
    · exact s.ownHeatClaimDone_limits
    · exact s.ownHeatReleaseDone_limits
    · exact .refl s
  · exact .of_read rfl id
  · exact .ite s.dueRestart_limits (.refl s)
  all_goals exact .refl s

theorem State.frameCompletes_limits (s : State) : s.KeepsLimits s.frameCompletes := by
  unfold State.frameCompletes
  split
  · exact .refl s
  · exact .after (State.selfReceive_limits _ _) rfl id

theorem State.discardFrame_limits (s : State) (r : DiscardReason) : s.KeepsLimits (s.discardFrame r) :=
  .ite (.of_read rfl id) (.refl s)

/-! ### The sequencer's inputs and timers -/

theorem State.auxChange_limits (s : State) (p n : Bool) : s.KeepsLimits (s.auxChange p n) :=
  .after (State.testWindow_limits _) rfl id

theorem State.auxWindowExpires_limits (s : State) : s.KeepsLimits s.auxWindowExpires := by
  unfold State.auxWindowExpires
  split
  · exact .refl s
  · exact s.windowFailure_limits _

theorem State.prechargeExpires_limits (s : State) : s.KeepsLimits s.prechargeExpires :=
  .ite s.prechargeFailure_limits (.refl s)

theorem State.leaveExpires_limits (s : State) : s.KeepsLimits s.leaveExpires := .ite s.leaveStep2_limits (.refl s)

/-! ### The gateway's requests -/

theorem State.doReadStatus_limits (s : State) (args : List Byte) : s.KeepsLimits (s.doReadStatus args) :=
  State.judgeRequest_limits _ _ _ _ (s.reply_limits _ _ _)

theorem State.doReadModule_limits (s : State) (args : List Byte) : s.KeepsLimits (s.doReadModule args) :=
  State.judgeRequest_limits _ _ _ _ (.ite (s.reply_limits _ _ _) (s.reply_limits _ _ _))

/-- A site cap that falls takes the pair along (R26, R27). -/
theorem State.setCap_limits (s : State) (value : Nat) : s.KeepsLimits (s.setCap value) := by
  unfold State.setCap
  split
  · exact .refl s
  · next c hc =>
    refine ⟨fun hs => ⟨min_le_right _ _, min_le_right _ _, fun d hd => ?_, fun hn => ?_, fun hf => ?_⟩,
      fun hs => ⟨hs.awake, hs.allowed⟩⟩
    · obtain rfl : c = d := Option.some.inj (hc.symm.trans hd)
      exact min_le_right _ _
    · exact absurd (hc.symm.trans hn) nofun
    · obtain ⟨hec, hed⟩ := hs.forced hf
      simp [hec, hed]

theorem State.doSetSiteCap_limits (s : State) (args : List Byte) : s.KeepsLimits (s.doSetSiteCap args) :=
  State.judgeRequest_limits _ _ _ _ ((s.setCap_limits _).trans (State.reply_limits _ _ _ _))

theorem State.doHoldJoin_limits (s : State) (args : List Byte) : s.KeepsLimits (s.doHoldJoin args) :=
  State.judgeRequest_limits _ _ _ _ (.after (State.reply_limits _ _ _ _) rfl id)

theorem State.doResumeJoin_limits (s : State) (args : List Byte) : s.KeepsLimits (s.doResumeJoin args) :=
  State.judgeRequest_limits _ _ _ _ (.after (State.reply_limits _ _ _ _) rfl id)

theorem State.takeOutEffect_limits (s : State) (c : ConfigSet) : s.KeepsLimits (s.takeOutEffect c) := by
  unfold State.takeOutEffect
  split
  · exact .trans (.setConn (.refl s) _) (State.reply_limits _ _ _ _)
  · exact ((s.leaveWaitToken_limits _).trans (State.seqRelease_limits _ _)).trans (State.reply_limits _ _ _ _)
  · exact (s.enterLeaving_limits c).trans (State.reply_limits _ _ _ _)
  all_goals exact s.reply_limits _ _ _

theorem State.doTakeOut_limits (s : State) (args : List Byte) : s.KeepsLimits (s.doTakeOut args) :=
  State.judgeRequest_limits _ _ _ _ (by
    split
    · exact s.takeOutEffect_limits _
    · exact s.reply_limits _ _ _)

theorem State.doReturn_limits (s : State) (args : List Byte) : s.KeepsLimits (s.doReturn args) :=
  State.judgeRequest_limits _ _ _ _
    (.ite (.trans (.setConn (.refl s) _) (State.reply_limits _ _ _ _)) (s.reply_limits _ _ _))

theorem State.doClearLockout_limits (s : State) (args : List Byte) : s.KeepsLimits (s.doClearLockout args) := by
  have untripped : s.KeepsLimits s.clearTrip := .ite (.of_read rfl id) (.refl s)
  have unlocked : ∀ t : State, t.KeepsLimits t.clearConn := fun t => .ite (.setConn (.update t _ _ _ _) _) (.refl t)
  exact State.judgeRequest_limits _ _ _ _ ((untripped.trans (unlocked _)).trans (State.reply_limits _ _ _ _))

theorem State.resetFire_limits (s : State) : s.KeepsLimits s.resetFire := by
  unfold State.resetFire
  refine .after (t := (({ s with env := { s.env with latch := false, riseFlag := false, ring := [] } } : State).setRepeat
    none).setCountdown none) ?_ rfl id
  exact ((State.setFireLines_limits _ _ _ _).trans (State.setFire_limits_of_unalarmed _ rfl)).trans
    ((State.enqueue_limits _ _).trans (State.thermalReview_limits _))

theorem State.doFireReset_limits (s : State) (args : List Byte) : s.KeepsLimits (s.doFireReset args) := by
  have evaluated : ∀ (t : State) (result : ReplyResult), t.KeepsLimits (t.evaluateContainerFire.reply 9 result []) :=
    fun t _ => t.evaluateContainerFire_limits.trans (State.reply_limits _ _ _ _)
  exact State.judgeRequest_limits _ _ _ _ (.ite (evaluated _ _) (.ite (s.resetFire_limits.trans (evaluated _ _))
    (evaluated _ _)))

theorem State.doBreakerHold_limits (s : State) (args : List Byte) : s.KeepsLimits (s.doBreakerHold args) :=
  State.judgeRequest_limits _ _ _ _ (.after (State.reply_limits _ _ _ _) rfl id)

theorem State.doBreakerRelease_limits (s : State) (args : List Byte) : s.KeepsLimits (s.doBreakerRelease args) :=
  State.judgeRequest_limits _ _ _ _ (.after (State.reply_limits _ _ _ _) rfl id)

theorem State.doCensusRequest_limits (s : State) (args : List Byte) : s.KeepsLimits (s.doCensusRequest args) :=
  State.judgeRequest_limits _ _ _ _ (.ite (.ite (s.reply_limits _ _ _) (.after (State.enqueue_limits _ _) rfl id))
    (s.reply_limits _ _ _))

/-- A RESTART becomes pending in a state that allows it alone (R181). -/
theorem State.doRestart_limits (s : State) (args : List Byte) : s.KeepsLimits (s.doRestart args) := by
  refine State.judgeRequest_limits _ _ _ _ ?_
  split
  · next h =>
    refine .ite (s.reply_limits _ _ _) (.trans ⟨fun hs => ?_, fun hs => ?_⟩ (State.enqueue_limits _ _))
    · exact ⟨hs.ec, hs.ed, hs.cap, hs.noSet, hs.forced⟩
    · exact ⟨hs.awake, fun _ => restartAllowed_iff.mp h⟩
  · exact s.reply_limits _ _ _

theorem State.doKind_limits (s : State) (kind : Byte) (args : List Byte) : s.KeepsLimits (s.doKind kind args) := by
  unfold State.doKind
  split
  · exact s.doReadStatus_limits args
  · exact s.doReadModule_limits args
  · exact s.doSetSiteCap_limits args
  · exact s.doHoldJoin_limits args
  · exact s.doResumeJoin_limits args
  · exact s.doTakeOut_limits args
  · exact s.doReturn_limits args
  · exact s.doClearLockout_limits args
  · exact s.doFireReset_limits args
  · exact s.doBreakerHold_limits args
  · exact s.doBreakerRelease_limits args
  · exact s.doCensusRequest_limits args
  · exact s.doRestart_limits args
  · exact .refl s
  · exact s.reply_limits _ _ _

/-! ### Every command -/

/-- Every command but POWER_ON_RESET is an operation that keeps the limits, and the judgements of its end. -/
theorem exec_limits {i : Instr} (s : State) (h : ∀ straps, i ≠ .powerOnReset straps) :
    ∃ u, exec i s = u.finish ∧ s.KeepsLimits u := by
  cases i with
  | powerOnReset straps => exact absurd rfl (h straps)
  | configLoad image => exact ⟨_, rfl, s.loadConfig_limits image⟩
  | scanIntervalExpiry => exact ⟨_, rfl, s.scanInterval_limits⟩
  | chainReplyArrival reply => exact ⟨_, rfl, s.replyArrives_limits reply⟩
  | chainReplyWaitExpiry => exact ⟨_, rfl, s.replyWaitExpires_limits⟩
  | loopSample a b => exact ⟨_, rfl, s.sampleLoops_limits a b⟩
  | runawaySample => exact ⟨_, rfl, s.sampleRunaway_limits⟩
  | releaseCountdownExpiry => exact ⟨_, rfl, s.countdownExpires_limits⟩
  | censusRepeatExpiry => exact ⟨_, rfl, s.repeatExpires_limits⟩
  | abortInputChange b => exact ⟨_, rfl, s.abortChange_limits b⟩
  | maintenanceKeyChange b => exact ⟨_, rfl, s.keyChange_limits b⟩
  | chillerFaultInputChange b => exact ⟨_, rfl, s.chillerFaultChange_limits b⟩
  | heatSoakExpiry => exact ⟨_, rfl, s.heatSoakExpire_limits⟩
  | recoveryExpiry => exact ⟨_, rfl, s.recoveryExpire_limits⟩
  | apExpiry => exact ⟨_, rfl, s.apExpires_limits⟩
  | announceArrival n p => exact ⟨_, rfl, State.receiveKind_limits p 24 fun t => t.takeAnnounce_limits _ p⟩
  | fireNoticeArrival n p => exact ⟨_, rfl, State.receiveKind_limits p 3 fun t => t.takeFireNotice_limits _ p⟩
  | joinClaimArrival n p => exact ⟨_, rfl, State.receiveKind_limits p 0 fun t => t.takeJoinClaim_limits _⟩
  | joinDoneArrival n p => exact ⟨_, rfl, State.receiveKind_limits p 1 fun t => t.takeJoinDone_limits _⟩
  | heatClaimArrival n p => exact ⟨_, rfl, State.receiveKind_limits p 0 fun t => t.takeHeatClaim_limits _⟩
  | heatReleaseArrival n p => exact ⟨_, rfl, State.receiveKind_limits p 0 fun t => t.takeHeatRelease_limits _⟩
  | censusCallArrival n p => exact ⟨_, rfl, State.receiveKind_limits p 2 fun t => t.takeCensusCall_limits _ p⟩
  | censusWindowCompletion w => exact ⟨_, rfl, s.windowCompletes_limits w⟩
  | linkIdleAttemptStart b => exact ⟨_, rfl, s.attemptStart_limits b⟩
  | lostArbitration => exact ⟨_, rfl, s.arbitrationLost_limits⟩
  | attemptBitError n => exact ⟨_, rfl, s.bitError_limits n⟩
  | ownFrameCompletion => exact ⟨_, rfl, s.frameCompletes_limits⟩
  | headTimerExpiry => exact ⟨_, rfl, s.headExpires_limits⟩
  | holdTimerExpiry => exact ⟨_, rfl, s.holdExpires_limits⟩
  | auxInputChange p n => exact ⟨_, rfl, s.auxChange_limits p n⟩
  | auxWindowExpiry => exact ⟨_, rfl, s.auxWindowExpires_limits⟩
  | prechargeTimerExpiry => exact ⟨_, rfl, s.prechargeExpires_limits⟩
  | leaveTimerExpiry => exact ⟨_, rfl, s.leaveExpires_limits⟩
  | failureHoldExpiry => exact ⟨s.failureHoldExpires, rfl, .of_read rfl id⟩
  | gridHealthyChange b => exact ⟨_, rfl, s.gridChange_limits b⟩
  | reconnectExpiry => exact ⟨_, rfl, s.reconnectExpires_limits⟩
  | readStatus n p => exact ⟨_, rfl, State.takeRequest_limits n p fun x t => t.doReadStatus_limits x⟩
  | readModule n p => exact ⟨_, rfl, State.takeRequest_limits n p fun x t => t.doReadModule_limits x⟩
  | setSiteCap n p => exact ⟨_, rfl, State.takeRequest_limits n p fun x t => t.doSetSiteCap_limits x⟩
  | holdJoin n p => exact ⟨_, rfl, State.takeRequest_limits n p fun x t => t.doHoldJoin_limits x⟩
  | resumeJoin n p => exact ⟨_, rfl, State.takeRequest_limits n p fun x t => t.doResumeJoin_limits x⟩
  | takeOut n p => exact ⟨_, rfl, State.takeRequest_limits n p fun x t => t.doTakeOut_limits x⟩
  | returnRack n p => exact ⟨_, rfl, State.takeRequest_limits n p fun x t => t.doReturn_limits x⟩
  | clearLockout n p => exact ⟨_, rfl, State.takeRequest_limits n p fun x t => t.doClearLockout_limits x⟩
  | fireReset n p => exact ⟨_, rfl, State.takeRequest_limits n p fun x t => t.doFireReset_limits x⟩
  | breakerHold n p => exact ⟨_, rfl, State.takeRequest_limits n p fun x t => t.doBreakerHold_limits x⟩
  | breakerRelease n p => exact ⟨_, rfl, State.takeRequest_limits n p fun x t => t.doBreakerRelease_limits x⟩
  | censusRequest n p => exact ⟨_, rfl, State.takeRequest_limits n p fun x t => t.doCensusRequest_limits x⟩
  | restart n p => exact ⟨_, rfl, State.takeRequest_limits n p fun x t => t.doRestart_limits x⟩
  | unknownRequest n k p => exact ⟨_, rfl, State.takeRequest_limits n p fun x t => t.doKind_limits k x⟩
  | receivedFrameDiscard r => exact ⟨_, rfl, s.discardFrame_limits r⟩

/-- Every command keeps the pair within its limits; POWER_ON_RESET leaves it at 0. -/
theorem exec_within {i : Instr} {s t : State} (hs : s.EnvelopeWithin) (h : exec i s = .next t) : t.EnvelopeWithin := by
  by_cases hreset : ∃ straps, i = .powerOnReset straps
  · obtain ⟨straps, rfl⟩ := hreset
    exact finish_within (s := s.powerOn straps) (resetWith_within _ _) h
  · obtain ⟨u, hu, hk⟩ := exec_limits s (not_exists.mp hreset)
    exact finish_within (hk.within hs) (hu ▸ h)

/-- Settles O11: the command in front keeps the limits of the pair, and an idle step changes nothing. -/
theorem envelopeWithinKept : Obligations.EnvelopeWithinKept := by
  intro s t hs h
  unfold step at h
  split at h
  · cases h
    exact hs
  · next c rest _ => exact exec_within (s := { s with pending := rest }) ⟨hs.ec, hs.ed, hs.cap, hs.noSet, hs.forced⟩ h

/-- A command that ends in a state which allows no restart has cancelled the pending one (R181). -/
theorem exec_cancels {i : Instr} {s t : State} (hs : s.RestartWatched) (h : exec i s = .next t) (hn : ¬t.AllowsRestart) :
    t.svc.restart = .none ∧ t.svc.mode ≠ .loading := by
  by_cases hreset : ∃ straps, i = .powerOnReset straps
  · obtain ⟨straps, rfl⟩ := hreset
    obtain rfl := Host.Outcome.next.inj ((finish_of_steady (resetWith_steady _ _)).symm.trans h)
    exact absurd ⟨.inl rfl, rfl⟩ hn
  · obtain ⟨u, hu, hk⟩ := exec_limits s (not_exists.mp hreset)
    exact finish_cancels (hk.watched hs) (hu ▸ h) hn

end Sys2Proof.Machine

namespace Sys2Proof.Machine

open Sys2Proof

/-! ### The six stages of an evaluation (R28 to R39) -/

/-- Settles O26: each comparison of the table is strict, so a temperature at a threshold falls to the band above. -/
theorem bandOfTemperature : Obligations.BandOfTemperature := by
  intro c row t hab hbc
  unfold bandEntry
  refine ⟨fun ha => if_pos ha, fun ⟨ha, hb⟩ => ?_, fun ⟨hb, hc⟩ => ?_, fun hc => ?_⟩
  · rw [if_neg (by omega), if_pos hb]
  · rw [if_neg (by omega), if_neg (by omega), if_pos hc]
  · rw [if_neg (by omega), if_neg (by omega), if_neg (by omega)]

/-- At P′ and below nothing is tapered (R32). -/
theorem taperCharge_of_le {c : ConfigSet} (base : Nat) {vmax : Nat} (h : (vmax : Int) ≤ c.pPrime) :
    taperCharge c base vmax = base := if_pos h

/-- At L′ and above nothing is left (R32). -/
theorem taperCharge_of_ge {c : ConfigSet} (base : Nat) {vmax : Nat} (hpl : c.pPrime < c.lPrime)
    (h : c.lPrime ≤ (vmax : Int)) : taperCharge c base vmax = 0 := by
  unfold taperCharge
  rw [if_neg (by omega), if_pos h]

/-- Between P′ and L′ the charge taper is linear, rounded down (R32). -/
theorem taperCharge_of_between {c : ConfigSet} (base : Nat) {vmax : Nat} (hp : c.pPrime < (vmax : Int))
    (hl : (vmax : Int) < c.lPrime) :
    (taperCharge c base vmax : Int) = (base : Int) * (c.lPrime - vmax) / (c.lPrime - c.pPrime) := by
  unfold taperCharge
  rw [if_neg (by omega), if_neg (by omega)]
  push_cast
  rw [Int.toNat_of_nonneg (by omega), Int.toNat_of_nonneg (by omega)]

/-- Between VDS_LIM and VDS_TAP the discharge taper is linear, rounded down (R33). -/
theorem taperDischarge_of_between {c : ConfigSet} (base : Nat) {vmin : Nat} (hl : c.vdsLim < vmin) (ht : vmin < c.vdsTap) :
    (taperDischarge c base vmin : Int) = (base : Int) * (vmin - c.vdsLim) / (c.vdsTap - c.vdsLim) := by
  unfold taperDischarge
  rw [if_neg (by omega), if_neg (by omega)]
  push_cast [Nat.cast_sub hl.le, Nat.cast_sub (hl.trans ht).le]
  rfl

/-- Settles O27: both tapers by their three ranges; a reading of 5000 mV lies in the last one of the charge taper. -/
theorem tapersRoundDown : Obligations.TapersRoundDown := by
  refine ⟨fun c base vmax hpl => ?_, fun c base vmin hlt => ?_⟩
  · exact ⟨taperCharge_of_le base, taperCharge_of_ge base hpl, fun ⟨hp, hl⟩ => taperCharge_of_between base hp hl,
      fun hl => taperCharge_of_ge base hpl (by omega)⟩
  · refine ⟨fun ht => if_pos ht, fun hl => ?_, fun ⟨hl, ht⟩ => taperDischarge_of_between base hl ht⟩
    unfold taperDischarge
    rw [if_neg (by omega), if_pos hl]

/-- Without a force the capped value is the target, but for PRE_ALARM, in which it is halved and rounded down (R37). -/
theorem target_of_not_forced {s : State} (x : Nat) (h : ¬s.forceZero = true) :
    s.target x = if s.fire.state = .preAlarm then x / 2 else x := if_neg h

/-- Settles O28: the targets are the capped tapers of the base, and stage 5 alone looks at the forces and the fire state. -/
theorem targetsOfAnEvaluation : Obligations.TargetsOfAnEvaluation := by
  intro s c table xc xd forced
  have hcharge : s.chargeTarget c = s.target xc := rfl
  have hdischarge : s.dischargeTarget c = s.target xd := rfl
  rw [hcharge, hdischarge]
  refine ⟨fun hf => ?_, fun hf hpre => ?_, fun hf hnormal => ?_⟩
  · exact ⟨target_of_forceZero _ (forceZero_iff.mpr hf), target_of_forceZero _ (forceZero_iff.mpr hf)⟩
  · have hnot := forceZero_iff.not.mpr hf
    exact ⟨by rw [target_of_not_forced _ hnot, if_pos hpre], by rw [target_of_not_forced _ hnot, if_pos hpre]⟩
  · have hnot := forceZero_iff.not.mpr hf
    exact ⟨by rw [target_of_not_forced _ hnot, hnormal]; rfl, by rw [target_of_not_forced _ hnot, hnormal]; rfl⟩

/-- A value below its target rises by RAMP at most (R39). -/
theorem rampTo_of_lt {c : ConfigSet} {previous target : Nat} (h : previous < target) :
    rampTo c previous target = min target (previous + c.ramp) := if_pos h

/-- A value at or above its target falls to it at once (R39). -/
theorem rampTo_of_ge {c : ConfigSet} {previous target : Nat} (h : target ≤ previous) :
    rampTo c previous target = target := if_neg (Nat.not_lt.mpr h)

/-- Settles O29: each value of the pair is ramped from its own previous value. -/
theorem rampRisesSlowlyFallsAtOnce : Obligations.RampRisesSlowlyFallsAtOnce := fun _ _ =>
  ⟨rampTo_of_lt, rampTo_of_ge, rampTo_of_lt, rampTo_of_ge⟩

end Sys2Proof.Machine

namespace Sys2Proof.Machine

open Sys2Proof

/-! ### A pending restart under smoke (R181) -/

/-- A command that ends in a state which takes no forced leave answers that state judged, where no reset is due. -/
theorem finish_of_idle {u : State} (hc : takesForcedLeave u.conn.state = false) (hd : u.svc.restart ≠ .due) :
    u.finish = .next u.updateContainerLevel.driveChiller.judgePermit := by
  have hs : u.settle = u.updateContainerLevel.driveChiller.judgePermit := by
    rw [State.settle, reviewForced_of_not_taken hc]
  rw [finish_of_not_due (by rw [hs]; exact hd), hs]

/-- A reply tied to a restart is plain once the tie is cut (R181). -/
theorem mem_retag {old new : Purpose} {e : Entry} {q : List Entry} (he : e ∈ q) (hp : e.purpose = old) :
    { e with purpose := new } ∈ retag old new q := List.mem_map.mpr ⟨e, he, if_pos hp⟩

/-- A fire state that allows no restart cancels the pending one, whose reply still goes out (R181). -/
theorem setFire_of_pending {s : State} {st : FireState} (hr : s.svc.restart = .pending) (hst : st ≠ .normal) :
    s.setFire st = { s with
      fire := { s.fire with state := st }
      svc := { s.svc with restart := .none }
      link := { s.link with queue := retag .restartReply .plain s.link.queue } } :=
  if_pos ⟨hr, by simp [State.restartAllowed, hst]⟩

/-- Frames have joined the queue, and the connection state, the fire state and the settings are the same. -/
structure State.OnlyQueues (s t : State) : Prop where
  queue : ∀ e ∈ s.link.queue, e ∈ t.link.queue
  conn : t.conn = s.conn
  fire : t.fire.state = s.fire.state
  svc : t.svc = s.svc

theorem State.OnlyQueues.trans {s t u : State} (h : s.OnlyQueues t) (k : t.OnlyQueues u) : s.OnlyQueues u :=
  ⟨fun e he => k.queue e (h.queue e he), k.conn.trans h.conn, k.fire.trans h.fire, k.svc.trans h.svc⟩

/-- A frame that finds room displaces none (R163). -/
theorem State.enqueue_onlyQueues {s : State} (e : Entry) (h : s.link.queue.length < 8) :
    s.OnlyQueues (s.enqueue e) ∧ (s.enqueue e).link.queue.length = s.link.queue.length + 1 := by
  rw [enqueue_of_room h]
  exact ⟨⟨fun _ he => mem_insertByClass.mpr (.inr he), rfl, rfl, rfl⟩, insertByClass_length _ _⟩

/-- The census call joins the queue, or is pending already (R111). -/
theorem State.queueCall_onlyQueues {s : State} (h : s.link.queue.length < 8) : s.OnlyQueues s.queueCall := by
  unfold State.queueCall
  split
  · exact ⟨fun _ he => he, rfl, rfl, rfl⟩
  · have queued := (State.enqueue_onlyQueues (s := { s with fire := { s.fire with census := .callPending } })
      s.zoneCall h).1
    exact ⟨queued.queue, queued.conn, queued.fire, queued.svc⟩

theorem State.emptyBalance_link (s : State) : s.emptyBalance.link = s.link := by
  unfold State.emptyBalance State.setMembers
  split <;> rfl

theorem State.emptyBalance_onlyQueues (s : State) : s.OnlyQueues s.emptyBalance := by
  unfold State.emptyBalance State.setMembers
  split <;> exact ⟨fun _ he => he, rfl, rfl, rfl⟩

/-- The entry to PRE_ALARM changes the fire state, drops the balance set and queues two frames (R110, R111). -/
theorem State.enterPreAlarm_onlyQueues {s : State} (h : (s.setFire .preAlarm).link.queue.length ≤ 6) :
    (s.setFire .preAlarm).OnlyQueues s.enterPreAlarm := by
  have emptied := (s.setFire .preAlarm).emptyBalance_onlyQueues
  have room : (s.setFire .preAlarm).emptyBalance.link.queue.length ≤ 6 := by rwa [State.emptyBalance_link]
  obtain ⟨noticed, hlength⟩ := State.enqueue_onlyQueues (s := (s.setFire .preAlarm).emptyBalance)
    (s.setFire .preAlarm).emptyBalance.fireNotice (by omega)
  have repeating : ∀ t : State, t.OnlyQueues (t.setRepeat (some 2000)) := fun _ => ⟨fun _ he => he, rfl, rfl, rfl⟩
  exact (emptied.trans noticed).trans ((repeating _).trans (State.queueCall_onlyQueues
    (show ((s.setFire .preAlarm).emptyBalance.enqueue _).link.queue.length < 8 by omega)))

/-- The first source of a station without a zone peer in alarm takes NORMAL to PRE_ALARM (R108, R110). -/
theorem judgeSources_of_first {s : State} {before : Sources} (hn : s.fire.state = .normal)
    (hg : before.gained s.sources = true) (hsize : s.sources.size < 2) (hp : s.zonePeerAlarm = false) :
    s.judgeSources before = s.enterPreAlarm := by
  unfold State.judgeSources
  rw [hn]
  dsimp only
  rw [if_pos hg, if_neg (by simp [hp, hsize])]

/-- The sample that completes the debounce of the smoke loop gains the first source (R104, R108). -/
theorem sampleLoops_of_smoke {s u : State} {iS iH : Nat}
    (hu : u = { s with fire := s.fire.sampled (loopClass iS) (loopClass iH) }) (ht : s.fire.loopTimer ≠ none)
    (hn : s.fire.state = .normal) (hp : s.zonePeerAlarm = false) (hl : s.env.latch = false)
    (hs : s.fire.loopS.state ≠ .alarm) (hS : (s.fire.loopS.sampled (loopClass iS)).state = .alarm)
    (hH : (s.fire.loopH.sampled (loopClass iH)).state ≠ .alarm) : s.sampleLoops iS iH = u.enterPreAlarm := by
  subst hu
  have hsources : ({ s with fire := s.fire.sampled (loopClass iS) (loopClass iH) } : State).sources = ⟨true, false, false⟩ := by
    simp [State.sources, FireUnit.sampled, hS, hH, hl]
  rw [State.sampleLoops, if_pos (Option.isSome_iff_ne_none.mpr ht)]
  refine judgeSources_of_first hn ?_ ?_ hp <;> rw [hsources]
  · simp [Sources.gained, State.sources, hs]
  · decide

/-- An entry to PRE_ALARM cancels the pending restart, and its reply still goes out (R110, R181). -/
theorem finish_enterPreAlarm {u : State} (hr : u.svc.restart = .pending) (ha : takesForcedLeave u.conn.state = false)
    (hq : u.link.queue.length ≤ 6) :
    ∃ t, u.enterPreAlarm.finish = .next t ∧ t.fire.state = .preAlarm ∧ t.svc.restart = .none ∧ t.svc.mode = u.svc.mode
      ∧ ∀ e ∈ u.link.queue, e.purpose = .restartReply → { e with purpose := .plain } ∈ t.link.queue := by
  have entered : State.OnlyQueues { u with
      fire := { u.fire with state := .preAlarm }
      svc := { u.svc with restart := .none }
      link := { u.link with queue := retag .restartReply .plain u.link.queue } } u.enterPreAlarm := by
    have hset := setFire_of_pending (st := .preAlarm) hr (by decide)
    rw [← hset]
    refine State.enterPreAlarm_onlyQueues ?_
    rw [hset]
    simpa [retag] using hq
  refine ⟨_, finish_of_idle (by rw [entered.conn]; exact ha) (by rw [entered.svc]; exact nofun), entered.fire, ?_, ?_, ?_⟩
  · exact (congrArg Service.restart entered.svc).trans rfl
  · exact (congrArg Service.mode entered.svc).trans rfl
  · exact fun e he hp => entered.queue _ (mem_retag he hp)

/-- A LOOP_SAMPLE that raises PRE_ALARM cancels the pending restart (R181). -/
theorem loopSample_cancels {s : State} {iS iH : Nat} (hr : s.svc.restart = .pending) (ha : s.AllowsRestart)
    (ht : s.fire.loopTimer ≠ none) (hq : s.link.queue.length ≤ 6) (hp : s.zonePeerAlarm = false)
    (hl : s.env.latch = false) (hs : s.fire.loopS.state ≠ .alarm)
    (hS : (s.fire.loopS.sampled (loopClass iS)).state = .alarm) (hH : (s.fire.loopH.sampled (loopClass iH)).state ≠ .alarm) :
    ∃ t, exec (.loopSample iS iH) s = .next t ∧ t.fire.state = .preAlarm ∧ t.svc.restart = .none ∧ t.svc.mode = s.svc.mode
      ∧ ∀ e ∈ s.link.queue, e.purpose = .restartReply → { e with purpose := .plain } ∈ t.link.queue := by
  change ∃ t, (s.sampleLoops iS iH).finish = .next t ∧ _
  rw [sampleLoops_of_smoke rfl ht ha.2 hp hl hs hS hH]
  exact finish_enterPreAlarm hr (takesForcedLeave_of_restartAllowed (restartAllowed_iff.mpr ha)) hq

/-! ### The requests that set a value (R26, R27, R156, R180) -/

/-- A request of the right length in a mode that accepts it goes to its owner (R178). -/
theorem judgeRequest_of_ok {s : State} {kind : Byte} {args : List Byte} {n : Nat} {modeOk : Mode → Bool}
    {act : State → State} (hn : args.length = n) (hm : modeOk s.svc.mode = true) :
    s.judgeRequest kind args n modeOk act = act s := by
  unfold State.judgeRequest
  rw [if_neg (not_not.mpr hn), if_pos hm]

/-- The settings, the pair and the queue are not judged at the end of a command, where the mode, the straps and the trip stay. -/
theorem State.Steady.setSettings {s : State} {v : Service} {x : Envelope} {l : Link} (h : s.Steady)
    (hm : v.mode = s.svc.mode) (hstraps : v.straps = s.svc.straps) (htrip : x.trip = s.env.trip) (hr : v.restart ≠ .due) :
    ({ s with svc := v, env := x, link := l } : State).Steady where
  permit := by rw [State.permitNow, hm]; exact h.permit
  containerLevel := h.containerLevel
  pump1 := by rw [hm, hstraps]; exact h.pump1
  pump2 := by rw [hm, hstraps]; exact h.pump2
  chillerRun := by rw [hm, hstraps]; exact h.chillerRun
  forced := by rw [State.forcedCause, hm, htrip]; exact h.forced
  noDue := hr

/-- What the requests of this part presuppose: a steady station hears a frame that is addressed to it, and has room for the
reply. -/
structure State.TakesRequest (s : State) (dest : Byte) : Prop where
  steady : s.Steady
  hears : s.Hears
  room : s.Room
  addressed : s.addressed dest = true

/-- A request ends in the reply to it, where its owner leaves a steady state with room for that reply. -/
theorem State.TakesRequest.answers {s u : State} {dest : Byte} {args : List Byte} {act : List Byte → State → State}
    {kind : Byte} {result : ReplyResult} {data : List Byte} (h : s.TakesRequest dest)
    (hact : act args s.heard = u.heard.reply kind result data) (hu : u.Steady) (hroom : u.Room) :
    (s.takeRequest 0 (dest :: args) act).finish = .next (u.replied kind result data) := by
  rw [takeRequest_of_addressed args act h.hears h.addressed, hact, reply_of_room kind result data hroom]
  exact finish_of_steady (replied_steady hu)

/-- SET_SITE_CAP limits the site cap and the pair (R26, R27). -/
theorem exec_setSiteCap {s : State} {dest : Byte} (h : s.TakesRequest dest) {c : ConfigSet} (hi lo : Byte)
    (hm : s.svc.mode = .active) (hc : s.svc.config = some c) :
    let cap := min (hi.toNat * 256 + lo.toNat) c.irackMax
    exec (.setSiteCap 0 [dest, hi, lo]) s = .next (({ s with
      svc := { s.svc with siteCap := cap }
      env := { s.env with ec := min s.env.ec cap, ed := min s.env.ed cap } } : State).replied 3 .done []) := by
  intro cap
  refine h.answers (act := fun args t => t.doSetSiteCap args) ?_
    (h.steady.setSettings rfl rfl rfl h.steady.noDue) h.room
  have hcap : s.heard.setCap (hi.toNat * 256 + lo.toNat) = State.heard { s with
      svc := { s.svc with siteCap := cap }
      env := { s.env with ec := min s.env.ec cap, ed := min s.env.ed cap } } := by
    unfold State.setCap
    rw [show s.heard.svc.config = some c from hc]
    rfl
  rw [← hcap]
  exact judgeRequest_of_ok rfl (by simp [activeMode, State.heard, hm])

theorem exec_holdJoin {s : State} {dest : Byte} (h : s.TakesRequest dest) (hm : s.svc.mode = .active) :
    exec (.holdJoin 0 [dest]) s = .next ((s.setJoinHeld true).replied 4 .done []) :=
  h.answers (act := fun args t => t.doHoldJoin args) (judgeRequest_of_ok rfl (by simp [activeMode, State.heard, hm]))
    (h.steady.setSettings rfl rfl rfl h.steady.noDue) h.room

theorem exec_resumeJoin {s : State} {dest : Byte} (h : s.TakesRequest dest) (hm : s.svc.mode = .active) :
    exec (.resumeJoin 0 [dest]) s = .next ((s.setJoinHeld false).replied 5 .done []) :=
  h.answers (act := fun args t => t.doResumeJoin args) (judgeRequest_of_ok rfl (by simp [activeMode, State.heard, hm]))
    (h.steady.setSettings rfl rfl rfl h.steady.noDue) h.room

/-- The modes in which a breaker hold is taken (R156). -/
theorem holdMode_iff {m : Mode} : holdMode m = true ↔ m = .active ∨ m = .safe ∨ m = .configFault := by
  simp [holdMode, or_assoc]

/-- A breaker hold or its release is answered, and the permit is judged by it (R153, R156). -/
theorem exec_breaker {s : State} {dest kind : Byte} {b : Bool} {act : List Byte → State → State} (h : s.TakesRequest dest)
    (hact : act [] s.heard = (s.setBreakerHold b).heard.reply kind .done []) :
    (s.takeRequest 0 [dest] act).finish = .next ((s.setBreakerHold b).judgePermit.replied kind .done []) := by
  rw [takeRequest_of_addressed [] act h.hears h.addressed, hact, reply_of_room (s := s.setBreakerHold b) kind .done [] h.room]
  refine finish_of_permit rfl (replied_steady ?_)
  exact ⟨rfl, h.steady.containerLevel, h.steady.pump1, h.steady.pump2, h.steady.chillerRun, h.steady.forced, h.steady.noDue⟩

/-- BREAKER_HOLD withholds the permit (R156). -/
theorem exec_breakerHold {s : State} {dest : Byte} (h : s.TakesRequest dest)
    (hm : s.svc.mode = .active ∨ s.svc.mode = .safe ∨ s.svc.mode = .configFault) :
    exec (.breakerHold 0 [dest]) s =
      .next (({ s with grid := { s.grid with breakerHold := true, permit := false } } : State).replied 10 .done []) := by
  have hpermit : (s.setBreakerHold true).permitNow = false := Bool.and_false _
  have hheld : (s.setBreakerHold true).judgePermit = { s with grid := { s.grid with breakerHold := true, permit := false } } := by
    rw [State.judgePermit, hpermit]
    rfl
  rw [← hheld]
  exact exec_breaker (act := fun args t => t.doBreakerHold args) h (judgeRequest_of_ok rfl (holdMode_iff.mpr hm))

/-- BREAKER_RELEASE leaves the permit to the other conditions (R153, R156). -/
theorem exec_breakerRelease {s : State} {dest : Byte} (h : s.TakesRequest dest)
    (hm : s.svc.mode = .active ∨ s.svc.mode = .safe ∨ s.svc.mode = .configFault) :
    exec (.breakerRelease 0 [dest]) s = .next (({ s with grid := { s.grid with
      breakerHold := false
      permit := s.grid.state == .up && s.svc.mode == .active && s.fire.state == .normal && !s.peers.containerFire
        && s.claims.join.entries.isEmpty && s.conn.state != .welded } } : State).replied 11 .done []) := by
  have hpermit : (s.setBreakerHold false).permitNow = (s.grid.state == .up && s.svc.mode == .active && s.fire.state == .normal
      && !s.peers.containerFire && s.claims.join.entries.isEmpty && s.conn.state != .welded) := Bool.and_true _
  rw [← hpermit]
  exact exec_breaker (act := fun args t => t.doBreakerRelease args) h (judgeRequest_of_ok rfl (holdMode_iff.mpr hm))

/-! ### The requests whose answer is deferred (R180 to R182) -/

/-- A CENSUS_REQUEST asks one of the four questions, with a zone where the question has one (R180). -/
theorem censusValuesOk_iff {q z : Byte} : censusValuesOk q z = true ↔
    (q = 1 ∧ 1 ≤ z.toNat ∧ z.toNat ≤ 4) ∨ ((q = 2 ∨ q = 3 ∨ q = 4) ∧ z = 0) := by
  unfold censusValuesOk
  split
  · next hq => subst hq; simp [questionZoneSource]
  · next hq =>
    have hne : ¬q = 1 := hq
    simp only [Bool.and_eq_true, Bool.or_eq_true, decide_eq_true_eq, beq_iff_eq, hne, false_and, false_or, or_assoc]
    rfl

/-- CENSUS_REQUEST by its values and the pending census (R180). -/
theorem exec_censusRequest {s : State} {dest : Byte} (h : s.TakesRequest dest) (q z : Byte)
    (hm : s.svc.mode = .active ∨ s.svc.mode = .listening) :
    (censusValuesOk q z = false →
      exec (.censusRequest 0 [dest, q, z]) s = .next (s.replied 12 .refusedValue []))
    ∧ (censusValuesOk q z = true → s.svc.gatewayCensus ≠ none →
      exec (.censusRequest 0 [dest, q, z]) s = .next (s.replied 12 .refusedState []))
    ∧ (censusValuesOk q z = true → s.svc.gatewayCensus = none →
      exec (.censusRequest 0 [dest, q, z]) s = .next (({ s with
        svc := { s.svc with gatewayCensus := some (q, z) } } : State).heard.queued (censusCall q z .gatewayCall))) := by
  have hjudged : s.heard.doCensusRequest [q, z] = if censusValuesOk q z then
      (if s.svc.gatewayCensus.isSome then s.heard.reply 12 .refusedState []
      else State.enqueue (State.heard { s with svc := { s.svc with gatewayCensus := some (q, z) } })
        (censusCall q z .gatewayCall))
      else s.heard.reply 12 .refusedValue [] :=
    judgeRequest_of_ok rfl (by rcases hm with hm | hm <;> simp [censusMode, State.heard, hm])
  refine ⟨fun hok => ?_, fun hok hg => ?_, fun hok hg => ?_⟩
  · exact h.answers (act := fun args t => t.doCensusRequest args) (by rw [hjudged, hok]; rfl) h.steady h.room
  · refine h.answers (act := fun args t => t.doCensusRequest args) ?_ h.steady h.room
    rw [hjudged, if_pos hok, if_pos (Option.isSome_iff_ne_none.mpr hg)]
  · change (s.takeRequest 0 [dest, q, z] fun args t => t.doCensusRequest args).finish = _
    rw [takeRequest_of_addressed _ _ h.hears h.addressed, hjudged, if_pos hok, if_neg (by simp [hg]),
      enqueue_of_room (by exact h.room)]
    exact finish_of_steady (h.steady.setSettings rfl rfl rfl h.steady.noDue)

/-- RESTART by the states that allow it and the pending restart (R181). -/
theorem exec_restart {s : State} {dest : Byte} (h : s.TakesRequest dest) :
    (¬s.AllowsRestart → exec (.restart 0 [dest]) s = .next (s.replied 13 .refusedState []))
    ∧ (s.AllowsRestart → s.svc.restart = .none → exec (.restart 0 [dest]) s = .next (({ s with
        svc := { s.svc with restart := .pending } } : State).heard.queued (serviceReply 13 .done [] .restartReply)))
    ∧ (s.AllowsRestart → s.svc.restart = .pending → exec (.restart 0 [dest]) s = .next (s.replied 13 .done [])) := by
  have hjudged : s.heard.doRestart [] = if s.restartAllowed then
      (if s.svc.restart = .pending then s.heard.reply 13 .done []
      else State.enqueue (State.heard { s with svc := { s.svc with restart := .pending } })
        (serviceReply 13 .done [] .restartReply))
      else s.heard.reply 13 .refusedState [] := judgeRequest_of_ok rfl rfl
  refine ⟨fun hn => ?_, fun ha hr => ?_, fun ha hr => ?_⟩
  · refine h.answers (act := fun args t => t.doRestart args) ?_ h.steady h.room
    rw [hjudged, if_neg (restartAllowed_iff.not.mpr hn)]
  · change (s.takeRequest 0 [dest] fun args t => t.doRestart args).finish = _
    rw [takeRequest_of_addressed _ _ h.hears h.addressed, hjudged, if_pos (restartAllowed_iff.mpr ha),
      if_neg (by simp [hr]), enqueue_of_room (by exact h.room)]
    exact finish_of_steady (h.steady.setSettings rfl rfl rfl nofun)
  · refine h.answers (act := fun args t => t.doRestart args) ?_ h.steady h.room
    rw [hjudged, if_pos (restartAllowed_iff.mpr ha), if_pos hr]

/-- The completion of the reply that a pending restart is tied to ends in the reset (R181, R182). -/
theorem exec_ownFrameCompletion_of_restartReply {t : State} {e : Entry} (hs : t.Steady) (hr : t.svc.restart = .pending)
    (hl : t.onLine = some e) (hcls : e.cls = .service) (hpurpose : e.purpose = .restartReply) :
    exec .ownFrameCompletion t = exec (.powerOnReset t.lines.straps) t := by
  have hdone : t.frameCompletes = { t.sent with svc := { t.svc with restart := .due } } := by
    unfold State.frameCompletes
    simp only [hl, State.selfReceive, hcls, hpurpose]
    exact if_pos hr
  have hreview : t.frameCompletes.reviewForced = t.frameCompletes := by
    rw [hdone]
    unfold State.reviewForced
    split
    · next hc => exact forcedLeave_of_not_taken (hs.forced hc)
    · rfl
  have hsettle : t.frameCompletes.settle.svc.restart = .due := by
    rw [State.settle, hreview, hdone]
    rfl
  have hreset : t.frameCompletes.finish = .next t.frameCompletes.restartReset := congrArg _ (if_pos hsettle)
  refine hreset.trans ?_
  rw [hdone]
  exact (finish_of_steady (resetWith_steady t.lines t.pending)).symm

/-- Settles O59: every command that leaves the accepted states cancels a pending restart, and each request by its own law. -/
theorem settingsAndDeferredRequests : Obligations.SettingsAndDeferredRequests := by
  refine ⟨fun i s t h _ ha hm hn => exec_cancels ⟨hm, fun _ => ha⟩ h hn, ?_, ?_⟩
  · intro s iS iH hr ha _ ht hq hp hl hs hS hH
    exact loopSample_cancels hr ha ht hq hp hl hs hS hH
  · intro s dest hs hh hroom haddr
    have h : s.TakesRequest dest := ⟨hs, hh, hroom, haddr⟩
    obtain ⟨refused, accepted, again⟩ := exec_restart h
    refine ⟨fun c hi lo hm hc => exec_setSiteCap h hi lo hm hc, fun hm => ⟨exec_holdJoin h hm, exec_resumeJoin h hm⟩,
      fun hm => ⟨exec_breakerHold h hm, exec_breakerRelease h hm⟩, fun q z hm => ?_, refused, accepted, again,
      fun t e => exec_ownFrameCompletion_of_restartReply⟩
    obtain ⟨outOfRange, pending, asked⟩ := exec_censusRequest h q z hm
    exact ⟨fun hok => outOfRange (Bool.eq_false_iff.mpr (censusValuesOk_iff.not.mpr hok)),
      fun hok => pending (censusValuesOk_iff.mpr hok), fun hok => asked (censusValuesOk_iff.mpr hok)⟩

end Sys2Proof.Machine

namespace Sys2Proof.Machine

open Sys2Proof

/-! ### The order in which cells join (R49) -/

/-- A cell of the rack: a position 1 to M and an index 1 to CELLS. -/
def IsCell (c : ConfigSet) (m : Nat × Nat) : Prop := 1 ≤ m.1 ∧ m.1 ≤ c.modules ∧ 1 ≤ m.2 ∧ m.2 ≤ c.cells

/-- The lower position, then the lower cell index. -/
def EarlierCell (y m : Nat × Nat) : Prop := y.1 < m.1 ∨ (y.1 = m.1 ∧ y.2 < m.2)

/-- The higher voltage, then the earlier cell (R49). -/
def JoinsBefore (volts : Nat × Nat → Nat) (y m : Nat × Nat) : Prop :=
  volts m < volts y ∨ (volts m = volts y ∧ EarlierCell y m)

theorem EarlierCell.ne {y m : Nat × Nat} (h : EarlierCell y m) : y ≠ m := by
  rintro rfl
  unfold EarlierCell at h
  omega

theorem mem_allCells {c : ConfigSet} {m : Nat × Nat} : m ∈ allCells c ↔ IsCell c m := by
  obtain ⟨p, i⟩ := m
  simp only [allCells, IsCell, List.mem_flatMap, List.mem_range, List.mem_map, Prod.mk.injEq]
  constructor
  · rintro ⟨p', hp, i', hi, rfl, rfl⟩
    omega
  · rintro ⟨hp, hpM, hi, hiC⟩
    exact ⟨p - 1, by omega, i - 1, by omega, by omega, by omega⟩

/-- The cells are listed in ascending order of position and index. -/
theorem allCells_sorted (c : ConfigSet) : (allCells c).Pairwise EarlierCell := by
  unfold allCells
  refine List.pairwise_flatMap.mpr ⟨fun p _ => ?_, ?_⟩
  · exact List.pairwise_map.mpr (List.pairwise_lt_range.imp fun h => .inr ⟨rfl, Nat.succ_lt_succ h⟩)
  · refine List.pairwise_lt_range.imp fun h => ?_
    simp only [List.mem_map]
    rintro _ ⟨_, _, rfl⟩ _ ⟨_, _, rfl⟩
    exact .inl (Nat.succ_lt_succ h)

theorem allCells_nodup (c : ConfigSet) : (allCells c).Nodup := (allCells_sorted c).imp EarlierCell.ne

/-- The candidate that is put in is the only one that comes to the list. -/
theorem insertByVoltage_perm (volts : Nat × Nat → Nat) (m : Nat × Nat) (l : List (Nat × Nat)) :
    (insertByVoltage volts m l).Perm (m :: l) := by
  induction l with
  | nil => exact .refl _
  | cons x xs ih =>
    unfold insertByVoltage
    split
    · exact (ih.cons x).trans (.swap m x xs)
    · exact .refl _

/-- A candidate behind every one of at least its voltage keeps the joining order, where all of them are earlier cells (R49). -/
theorem insertByVoltage_sorted {volts : Nat × Nat → Nat} {m : Nat × Nat} {l : List (Nat × Nat)}
    (hl : l.Pairwise (JoinsBefore volts)) (hm : ∀ x ∈ l, EarlierCell x m) :
    (insertByVoltage volts m l).Pairwise (JoinsBefore volts) := by
  induction l with
  | nil => exact List.pairwise_singleton _ _
  | cons x xs ih =>
    obtain ⟨hx, hxs⟩ := List.pairwise_cons.mp hl
    have hxm : EarlierCell x m := hm x List.mem_cons_self
    unfold insertByVoltage
    split
    · next hle =>
      refine List.pairwise_cons.mpr ⟨fun y hy => ?_, ih hxs fun y hy => hm y (List.mem_cons_of_mem x hy)⟩
      rcases List.mem_cons.mp ((insertByVoltage_perm volts m xs).mem_iff.mp hy) with rfl | hy
      · exact hle.lt_or_eq.imp id fun he => ⟨he, hxm⟩
      · exact hx y hy
    · next hlt =>
      refine List.pairwise_cons.mpr ⟨fun y hy => .inl ?_, hl⟩
      rcases List.mem_cons.mp hy with rfl | hy
      · omega
      · rcases hx y hy with h | ⟨h, _⟩ <;> omega

/-- The candidates that are put in one after the other are the only ones that come to the list. -/
theorem foldl_insertByVoltage_perm (volts : Nat × Nat → Nat) (l acc : List (Nat × Nat)) :
    (l.foldl (fun acc m => insertByVoltage volts m acc) acc).Perm (l ++ acc) := by
  induction l generalizing acc with
  | nil => exact .refl acc
  | cons m l ih => exact ((ih _).trans ((insertByVoltage_perm volts m acc).append_left l)).trans List.perm_middle

/-- Put in one after the other, in ascending order of cell, they come to stand in the joining order. -/
theorem foldl_insertByVoltage_sorted {volts : Nat × Nat → Nat} {l acc : List (Nat × Nat)}
    (hacc : acc.Pairwise (JoinsBefore volts)) (hl : l.Pairwise EarlierCell) (h : ∀ a ∈ acc, ∀ m ∈ l, EarlierCell a m) :
    (l.foldl (fun acc m => insertByVoltage volts m acc) acc).Pairwise (JoinsBefore volts) := by
  induction l generalizing acc with
  | nil => exact hacc
  | cons m l ih =>
    obtain ⟨hm, hl⟩ := List.pairwise_cons.mp hl
    refine ih (insertByVoltage_sorted hacc fun a ha => h a ha m List.mem_cons_self) hl fun a ha k hk => ?_
    rcases List.mem_cons.mp ((insertByVoltage_perm volts m acc).mem_iff.mp ha) with rfl | ha
    · exact hm k hk
    · exact h a ha k (List.mem_cons_of_mem m hk)

theorem mem_candidates {s : State} {c : ConfigSet} {kept : List (Nat × Nat)} {m : Nat × Nat} :
    m ∈ s.candidates c kept ↔ IsCell c m ∧ s.joins c m = true ∧ m ∉ kept := by
  unfold State.candidates
  rw [(foldl_insertByVoltage_perm _ _ _).mem_iff]
  simp [mem_allCells]

/-- The candidates stand in the joining order (R49). -/
theorem candidates_sorted (s : State) (c : ConfigSet) (kept : List (Nat × Nat)) :
    (s.candidates c kept).Pairwise (JoinsBefore s.cellVoltage) :=
  foldl_insertByVoltage_sorted .nil ((allCells_sorted c).filter _) nofun

theorem candidates_nodup (s : State) (c : ConfigSet) (kept : List (Nat × Nat)) : (s.candidates c kept).Nodup := by
  unfold State.candidates
  rw [(foldl_insertByVoltage_perm _ _ _).nodup_iff, List.append_nil]
  exact (allCells_nodup c).filter _

/-! ### The fill step (R49) -/

/-- The members of a set at one position. -/
def membersAt (p : Nat) (l : List (Nat × Nat)) : List (Nat × Nat) := l.filter (fun m => m.1 == p)

/-- The limits of a set: at most 8 members, at most 2 of a module (R43). -/
structure WithinLimits (l : List (Nat × Nat)) : Prop where
  size : l.length ≤ 8
  perModule : ∀ p, (membersAt p l).length ≤ 2

/-- A set of members of another, none twice, is within its limits. -/
theorem WithinLimits.of_subset {l l' : List (Nat × Nat)} (h : WithinLimits l) (hn : l'.Nodup) (hs : l' ⊆ l) :
    WithinLimits l' where
  size := (hn.subperm hs).length_le.trans h.size
  perModule := fun p => ((hn.subperm hs).filter _).length_le.trans (h.perModule p)

/-- A member joins a set with a place for it (R43). -/
theorem WithinLimits.append {l : List (Nat × Nat)} {m : Nat × Nat} (h : WithinLimits l) (hsize : l.length ≠ 8)
    (hmodule : (membersAt m.1 l).length ≠ 2) : WithinLimits (l ++ [m]) where
  size := by
    have := h.size
    simp
    omega
  perModule := fun p => by
    have := h.perModule p
    rw [membersAt, List.filter_append, List.length_append, ← membersAt]
    by_cases hp : m.1 = p
    · subst hp
      simp
      omega
    · simpa [hp] using this

theorem fillSet_cons (members : List (Nat × Nat)) (m : Nat × Nat) (rest : List (Nat × Nat)) :
    fillSet members (m :: rest) =
      if members.length = 8 then members
      else if (membersAt m.1 members).length = 2 then fillSet members rest
      else fillSet (members ++ [m]) rest := rfl

/-- The fill step puts some of the candidates behind the members, in their order. -/
theorem fillSet_eq_append (members cands : List (Nat × Nat)) :
    ∃ joined, fillSet members cands = members ++ joined ∧ joined.Sublist cands := by
  induction cands generalizing members with
  | nil => exact ⟨[], (List.append_nil members).symm, .slnil⟩
  | cons m rest ih =>
    rw [fillSet_cons]
    split
    · exact ⟨[], (List.append_nil members).symm, List.nil_sublist _⟩
    · split
      · obtain ⟨joined, h, hs⟩ := ih members
        exact ⟨joined, h, hs.cons m⟩
      · obtain ⟨joined, h, hs⟩ := ih (members ++ [m])
        exact ⟨m :: joined, by simp [h], hs.cons_cons m⟩

theorem fillSet_withinLimits {members : List (Nat × Nat)} (h : WithinLimits members) (cands : List (Nat × Nat)) :
    WithinLimits (fillSet members cands) := by
  induction cands generalizing members with
  | nil => exact h
  | cons m rest ih =>
    rw [fillSet_cons]
    split
    · exact h
    · next hsize =>
      split
      · exact ih h
      · next hmodule => exact ih (h.append hsize hmodule)

/-- A full set takes no candidate. -/
theorem fillSet_of_full {members : List (Nat × Nat)} (h : members.length = 8) (cands : List (Nat × Nat)) :
    fillSet members cands = members := by
  cases cands with
  | nil => rfl
  | cons m rest => exact if_pos h

/-- The candidates may be taken in two parts. -/
theorem fillSet_append (members pre post : List (Nat × Nat)) :
    fillSet members (pre ++ post) = fillSet (fillSet members pre) post := by
  induction pre generalizing members with
  | nil => rfl
  | cons m pre ih =>
    rw [List.cons_append, fillSet_cons, fillSet_cons]
    split
    · next h => exact (fillSet_of_full h post).symm
    · split <;> exact ih _

/-- A candidate is left out only where the set is full, or its module is, with members and with candidates that stand before it
(R49). -/
theorem fillSet_leaves_out {r : Nat × Nat → Nat × Nat → Prop} {members cands : List (Nat × Nat)} {m : Nat × Nat}
    (h : WithinLimits members) (hc : cands.Pairwise r) (hm : m ∈ cands) (hn : m ∉ fillSet members cands) :
    ((fillSet members cands).length = 8 ∧ ∀ y ∈ fillSet members cands, y ∈ members ∨ r y m)
      ∨ ((membersAt m.1 (fillSet members cands)).length = 2
        ∧ ∀ y ∈ membersAt m.1 (fillSet members cands), y ∈ members ∨ r y m) := by
  obtain ⟨pre, post, rfl⟩ := List.append_of_mem hm
  have hpre : ∀ y ∈ fillSet members pre, y ∈ members ∨ r y m := fun y hy => by
    obtain ⟨joined, he, hs⟩ := fillSet_eq_append members pre
    rw [he, List.mem_append] at hy
    exact hy.imp id fun hy => (List.pairwise_append.mp hc).2.2 y (hs.subset hy) m List.mem_cons_self
  have hlimits := fillSet_withinLimits h (pre ++ m :: post)
  rw [fillSet_append] at hn hlimits ⊢
  obtain ⟨joined, he, -⟩ := fillSet_eq_append (fillSet members pre) (m :: post)
  by_cases hfull : (fillSet members pre).length = 8
  · rw [fillSet_of_full hfull] at hn ⊢
    exact .inl ⟨hfull, hpre⟩
  by_cases hmodule : (membersAt m.1 (fillSet members pre)).length = 2
  · refine .inr ?_
    have hsplit : membersAt m.1 (fillSet members pre ++ joined) = membersAt m.1 (fillSet members pre) ++ membersAt m.1 joined :=
      List.filter_append ..
    have hnone : membersAt m.1 joined = [] := by
      have hle := hlimits.perModule m.1
      rw [he, hsplit, List.length_append] at hle
      exact List.length_eq_zero_iff.mp (by omega)
    rw [he, hsplit, hnone, List.append_nil]
    exact ⟨hmodule, fun y hy => hpre y (List.mem_filter.mp hy).1⟩
  · refine absurd ?_ hn
    have hjoins : fillSet (fillSet members pre) (m :: post) = fillSet (fillSet members pre ++ [m]) post := by
      rw [fillSet_cons, if_neg hfull, if_neg hmodule]
    obtain ⟨later, he', -⟩ := fillSet_eq_append (fillSet members pre ++ [m]) post
    rw [hjoins, he']
    simp

/-! ### The rebuild (R45 to R49) -/

/-- The seven conditions of R45. -/
theorem balanceEligible_iff {s : State} {c : ConfigSet} {x : BalanceInputs} :
    s.balanceEligible c x = true ↔
      s.svc.mode = .active ∧ s.fire.state = .normal ∧ s.peers.containerFire = false ∧ s.thermal.level < 3
        ∧ (x.current ≤ 10 * c.balCurrent ∧ -(10 * c.balCurrent : Int) ≤ x.current) ∧ x.tmax < c.tc ∧ x.dataLoss = false := by
  have hcurrent : x.current.natAbs ≤ 10 * c.balCurrent ↔
      x.current ≤ 10 * c.balCurrent ∧ -(10 * c.balCurrent : Int) ≤ x.current := by omega
  simp [State.balanceEligible, hcurrent, and_assoc]

/-- The members that keep their place (R48). -/
def State.kept (s : State) (c : ConfigSet) : List (Nat × Nat) := s.balance.members.filter (s.keeps c)

theorem mem_kept {s : State} {c : ConfigSet} {m : Nat × Nat} :
    m ∈ s.kept c ↔ m ∈ s.balance.members ∧ (s.moduleRecord m.1).age = 0
      ∧ (c.balWindow : Int) - 3 ≤ (s.cellVoltage m : Int) - s.chain.vmin := by
  have hvolts : s.chain.vmin + c.balWindow ≤ s.cellVoltage m + 3 ↔
      (c.balWindow : Int) - 3 ≤ (s.cellVoltage m : Int) - s.chain.vmin := by omega
  simp [State.kept, State.keeps, hvolts]

/-- The conditions on a cell that joins (R49). -/
theorem joins_iff {s : State} {c : ConfigSet} {m : Nat × Nat} :
    s.joins c m = true ↔ (s.moduleRecord m.1).age = 0
      ∧ (c.balWindow : Int) ≤ (s.cellVoltage m : Int) - s.chain.vmin ∧ c.balFloor ≤ s.cellVoltage m := by
  have hvolts : s.chain.vmin + c.balWindow ≤ s.cellVoltage m ↔
      (c.balWindow : Int) ≤ (s.cellVoltage m : Int) - s.chain.vmin := by omega
  simp [State.joins, hvolts, and_assoc]

/-- The members that keep their place, and behind them the candidates that the fill step takes (R48, R49). -/
def State.filled (s : State) (c : ConfigSet) : List (Nat × Nat) := fillSet (s.kept c) (s.candidates c (s.kept c))

theorem rebuilt_of_eligible {s : State} {c : ConfigSet} {x : BalanceInputs} (h : s.balanceEligible c x = true) :
    s.rebuilt c x = canonicalSet c (s.filled c) := if_pos h

/-- Not eligible, the set is empty (R47). -/
theorem rebuilt_of_not_eligible {s : State} {c : ConfigSet} {x : BalanceInputs} (h : s.balanceEligible c x ≠ true) :
    s.rebuilt c x = [] := if_neg h

theorem mem_canonicalSet {c : ConfigSet} {l : List (Nat × Nat)} {m : Nat × Nat} :
    m ∈ canonicalSet c l ↔ IsCell c m ∧ m ∈ l := by
  simp [canonicalSet, mem_allCells]

theorem canonicalSet_nodup (c : ConfigSet) (l : List (Nat × Nat)) : (canonicalSet c l).Nodup := (allCells_nodup c).filter _

/-- The canonical order changes no set of cells. -/
theorem canonicalSet_perm {c : ConfigSet} {l : List (Nat × Nat)} (hn : l.Nodup) (hc : ∀ m ∈ l, IsCell c m) :
    (canonicalSet c l).Perm l :=
  (List.perm_ext_iff_of_nodup (canonicalSet_nodup c l) hn).mpr fun m => by
    rw [mem_canonicalSet]
    exact ⟨And.right, fun hm => ⟨hc m hm, hm⟩⟩

/-- A rebuild names cells of the rack, each once. -/
theorem rebuilt_cells {s : State} {c : ConfigSet} {x : BalanceInputs} : ∀ m ∈ s.rebuilt c x, IsCell c m := fun m hm => by
  by_cases h : s.balanceEligible c x = true
  · rw [rebuilt_of_eligible h] at hm
    exact (mem_canonicalSet.mp hm).1
  · rw [rebuilt_of_not_eligible h] at hm
    exact absurd hm List.not_mem_nil

theorem rebuilt_nodup (s : State) (c : ConfigSet) (x : BalanceInputs) : (s.rebuilt c x).Nodup := by
  by_cases h : s.balanceEligible c x = true
  · rw [rebuilt_of_eligible h]
    exact canonicalSet_nodup c _
  · rw [rebuilt_of_not_eligible h]
    exact .nil

theorem kept_withinLimits {s : State} (h : WithinLimits s.balance.members) (hn : s.balance.members.Nodup) (c : ConfigSet) :
    WithinLimits (s.kept c) := h.of_subset (hn.filter _) List.filter_sublist.subset

/-- A rebuild keeps the limits of the set (R43). -/
theorem rebuilt_withinLimits {s : State} (h : WithinLimits s.balance.members) (hn : s.balance.members.Nodup) (c : ConfigSet)
    (x : BalanceInputs) : WithinLimits (s.rebuilt c x) := by
  by_cases he : s.balanceEligible c x = true
  · rw [rebuilt_of_eligible he]
    exact (fillSet_withinLimits (kept_withinLimits h hn c) _).of_subset (canonicalSet_nodup c _)
      fun m hm => (mem_canonicalSet.mp hm).2
  · rw [rebuilt_of_not_eligible he]
    exact ⟨Nat.zero_le _, fun _ => Nat.zero_le _⟩

/-- Each member of a filled set kept its place or is a candidate. -/
theorem mem_filled {s : State} {c : ConfigSet} {m : Nat × Nat} (hm : m ∈ s.filled c) :
    m ∈ s.kept c ∨ (IsCell c m ∧ s.joins c m = true) := by
  obtain ⟨joined, he, hs⟩ := fillSet_eq_append (s.kept c) (s.candidates c (s.kept c))
  rw [State.filled, he, List.mem_append] at hm
  refine hm.imp id fun hm => ?_
  obtain ⟨hcell, hjoins, -⟩ := mem_candidates.mp (hs.subset hm)
  exact ⟨hcell, hjoins⟩

/-- Each member that keeps its place is in the filled set (R48). -/
theorem mem_filled_of_kept {s : State} {c : ConfigSet} {m : Nat × Nat} (hm : m ∈ s.kept c) : m ∈ s.filled c := by
  obtain ⟨joined, he, -⟩ := fillSet_eq_append (s.kept c) (s.candidates c (s.kept c))
  rw [State.filled, he]
  exact List.mem_append_left joined hm

theorem filled_nodup {s : State} (hn : s.balance.members.Nodup) (c : ConfigSet) : (s.filled c).Nodup := by
  obtain ⟨joined, he, hs⟩ := fillSet_eq_append (s.kept c) (s.candidates c (s.kept c))
  rw [State.filled, he]
  refine List.nodup_append'.mpr ⟨hn.filter _, hs.nodup (candidates_nodup s c _), fun m hk hj => ?_⟩
  obtain ⟨-, -, hnot⟩ := mem_candidates.mp (hs.subset hj)
  exact hnot hk

/-- Settles O31: the rebuilt set is the filled one in another order, and the fill step takes the candidates in their order. -/
theorem balanceRebuild : Obligations.BalanceRebuild := by
  intro s c x eligible volts above isCell stays joins before t
  refine ⟨fun he => rebuilt_of_not_eligible (balanceEligible_iff.not.mpr he), fun he hn hsize hmodule hcells => ?_⟩
  have h : WithinLimits s.balance.members := ⟨hsize, hmodule⟩
  have ht : t = canonicalSet c (s.filled c) := rebuilt_of_eligible (balanceEligible_iff.mpr he)
  have hlimits : WithinLimits t := rebuilt_withinLimits h hn c x
  have hstays : ∀ m ∈ s.kept c, stays m := fun m hm => mem_kept.mp hm
  have filledCells : ∀ m ∈ s.filled c, IsCell c m := fun m hm =>
    (mem_filled hm).elim (fun hk => hcells m (hstays m hk).1) And.left
  have hperm : t.Perm (s.filled c) := ht ▸ canonicalSet_perm (filled_nodup hn c) filledCells
  refine ⟨fun m hm => hperm.mem_iff.mpr (mem_filled_of_kept (mem_kept.mpr hm)), fun m hm => ?_, rebuilt_nodup s c x,
    hlimits.size, hlimits.perModule, fun m hm hnot => ?_⟩
  · exact (mem_filled (hperm.mem_iff.mp hm)).imp (hstays m) fun ⟨hcell, hj⟩ => ⟨hcell, joins_iff.mp hj⟩
  · have hout : m ∉ s.filled c := hperm.mem_iff.not.mp hnot
    have hcandidate : m ∈ s.candidates c (s.kept c) :=
      mem_candidates.mpr ⟨hm.1, joins_iff.mpr hm.2, fun hk => hout (mem_filled_of_kept hk)⟩
    have hfilter : ∀ y ∈ t, y.1 = m.1 → y ∈ membersAt m.1 (s.filled c) := fun y hy hp =>
      List.mem_filter.mpr ⟨hperm.mem_iff.mp hy, by simpa using hp⟩
    rcases fillSet_leaves_out (kept_withinLimits h hn c) (candidates_sorted s c _) hcandidate hout with
      ⟨hfull, hbefore⟩ | ⟨hfull, hbefore⟩
    · exact .inl ⟨hperm.length_eq.trans hfull, fun y hy => (hbefore y (hperm.mem_iff.mp hy)).imp (hstays y) id⟩
    · exact .inr ⟨(hperm.filter _).length_eq.trans hfull,
        fun y hy hp => (hbefore y (hfilter y hy hp)).imp (hstays y) id⟩

end Sys2Proof.Machine

namespace Sys2Proof.Machine

open Sys2Proof

/-! ### The balance set, its masks and its eligibility (R43 to R46) -/

/-- The set within its limits, of positions that have a record, with every mask its part of the module (R43, R44). -/
structure State.SetShaped (s : State) : Prop where
  limits : WithinLimits s.balance.members
  once : s.balance.members.Nodup
  positions : ∀ m ∈ s.balance.members, 1 ≤ m.1 ∧ m.1 ≤ 12 ∧ 1 ≤ m.2
  masks : s.chain.modules.map (·.mask) = (List.range 12).map fun k => maskOf s.balance.members (k + 1)
  configured : ∀ c, s.svc.config = some c → c.modules ≤ 12

/-- A set with members stands only while balancing is eligible (R45, R46). -/
def State.BalancesEligibly (s : State) : Prop :=
  s.balance.members ≠ [] →
    s.svc.mode = .active ∧ s.fire.state = .normal ∧ s.peers.containerFire = false ∧ s.thermal.level < 3
      ∧ ∃ c x, s.svc.config = some c ∧ s.balance.taken = some x
        ∧ (x.current ≤ 10 * c.balCurrent ∧ -(10 * c.balCurrent : Int) ≤ x.current) ∧ x.tmax < c.tc ∧ x.dataLoss = false

theorem State.BalancesEligibly.of_nil {s : State} (h : s.balance.members = []) : s.BalancesEligibly := fun hn => absurd h hn

/-- The masks of the twelve records, read one by one or as a list (R44). -/
theorem masks_iff {s : State} : s.chain.modules.map (·.mask) = (List.range 12).map (fun k => maskOf s.balance.members (k + 1)) ↔
    s.chain.modules.length = 12 ∧ ∀ p, 1 ≤ p → p ≤ 12 → (s.moduleRecord p).mask = maskOf s.balance.members p := by
  have hread : ∀ p, (s.moduleRecord p).mask = (s.chain.modules.map (·.mask)).getD (p - 1) [] := fun p =>
    (List.getD_map (d := ModuleRecord.reset) ..).symm
  constructor
  · intro h
    refine ⟨by simpa using congrArg List.length h, fun p h1 h12 => ?_⟩
    rw [hread, h]
    simp [List.getD_eq_getElem?_getD, show p - 1 < 12 by omega, show p - 1 + 1 = p by omega]
  · rintro ⟨hlength, h⟩
    refine List.ext_getElem (by simp [hlength]) fun k hk _ => ?_
    have hk12 : k < 12 := by simpa [hlength] using hk
    have := h (k + 1) (by omega) (by omega)
    rw [hread, Nat.add_sub_cancel, List.getD_eq_getElem _ _ hk] at this
    simpa using this

theorem balanceSound_iff {s : State} : s.BalanceSound ↔ s.SetShaped ∧ s.BalancesEligibly := by
  constructor
  · intro h
    exact ⟨⟨⟨h.size, h.perModule⟩, h.once, h.positions, masks_iff.mpr ⟨h.records, h.masks⟩, h.configured⟩, h.eligible⟩
  · rintro ⟨h, heligible⟩
    obtain ⟨hrecords, hmasks⟩ := masks_iff.mp h.masks
    exact ⟨h.limits.size, h.limits.perModule, h.once, hrecords, h.configured, h.positions, hmasks, heligible⟩

/-- What the shape of the set reads of a state. -/
def State.setRead (s : State) : List (Nat × Nat) × List (List Nat) × Option ConfigSet :=
  (s.balance.members, s.chain.modules.map (·.mask), s.svc.config)

/-- What its eligibility reads besides. -/
def State.eligibilityRead (s : State) : Option BalanceInputs × Mode × FireState × Bool × Nat :=
  (s.balance.taken, s.svc.mode, s.fire.state, s.peers.containerFire, s.thermal.level)

/-- All that the invariant reads of a state. -/
def State.balanceRead (s : State) :
    (List (Nat × Nat) × List (List Nat) × Option ConfigSet) × Option BalanceInputs × Mode × FireState × Bool × Nat :=
  (s.setRead, s.eligibilityRead)

theorem State.SetShaped.of_read {s t : State} (hs : s.SetShaped) (h : t.setRead = s.setRead) : t.SetShaped := by
  simp only [setRead, Prod.mk.injEq] at h
  obtain ⟨hmembers, hmasks, hconfig⟩ := h
  exact ⟨hmembers ▸ hs.limits, hmembers ▸ hs.once, hmembers ▸ hs.positions, by rw [hmasks, hmembers, hs.masks],
    hconfig ▸ hs.configured⟩

/-- The two parts of the invariant, which the operations of every block keep. -/
structure State.KeepsBalance (s t : State) : Prop where
  shaped : s.SetShaped → t.SetShaped
  eligibly : s.BalancesEligibly → t.BalancesEligibly

namespace State.KeepsBalance

theorem refl (s : State) : s.KeepsBalance s := ⟨id, id⟩

/-- What keeps the two parts keeps the invariant. -/
theorem sound {s t : State} (h : s.KeepsBalance t) (hs : s.BalanceSound) : t.BalanceSound := by
  obtain ⟨hshaped, heligible⟩ := balanceSound_iff.mp hs
  exact balanceSound_iff.mpr ⟨h.shaped hshaped, h.eligibly heligible⟩

theorem trans {s t u : State} (h : s.KeepsBalance t) (k : t.KeepsBalance u) : s.KeepsBalance u :=
  ⟨k.shaped ∘ h.shaped, k.eligibly ∘ h.eligibly⟩

theorem ite {s t u : State} {P : Prop} [Decidable P] (h : s.KeepsBalance t) (k : s.KeepsBalance u) :
    s.KeepsBalance (if P then t else u) := by
  split
  · exact h
  · exact k

/-- An operation that leaves what the invariant reads. -/
theorem of_read {s t : State} (h : t.balanceRead = s.balanceRead) : s.KeepsBalance t where
  shaped := fun hs => hs.of_read (congrArg Prod.fst h)
  eligibly := fun hs => by
    simp only [balanceRead, setRead, eligibilityRead, Prod.mk.injEq] at h
    obtain ⟨⟨hmembers, -, hconfig⟩, htaken, hmode, hfire, hflag, hlevel⟩ := h
    unfold BalancesEligibly
    rw [hmembers, hconfig, htaken, hmode, hfire, hflag, hlevel]
    exact hs

/-- An operation behind a change of what the invariant does not read. -/
theorem after {s t u : State} (k : t.KeepsBalance u) (h : t.balanceRead = s.balanceRead) : s.KeepsBalance u :=
  (of_read h).trans k

/-- The operations of the queue, the own join claim and the sequencer. -/
theorem of_blocks {s t : State} (h : s.KeepsBlocks t) : s.KeepsBalance t := by
  refine .of_read ?_
  rw [balanceRead, setRead, eligibilityRead, h.balance, h.chain, h.svc, h.fire, h.peers, h.thermal]
  rfl

/-- A change of what the set's shape does not read, in a state where the set is empty by R45. -/
theorem of_ineligible {s t : State} (h : t.setRead = s.setRead)
    (hs : s.svc.mode ≠ .active ∨ s.fire.state ≠ .normal) : s.KeepsBalance t where
  shaped := fun hshaped => hshaped.of_read h
  eligibly := fun heligible => by
    refine .of_nil (by_contra fun hn => ?_)
    have hmembers : t.balance.members = s.balance.members := congrArg Prod.fst h
    obtain ⟨hmode, hfire, -⟩ := heligible (hmembers ▸ hn)
    exact hs.elim (· hmode) (· hfire)

end State.KeepsBalance

/-! ### Changes of the set (R44, R46) -/

/-- The masks that are written are the set's parts of the modules (R44). -/
theorem map_mask_writeMasks (members : List (Nat × Nat)) (records : List ModuleRecord) :
    (writeMasks members records).map (·.mask) = (List.range records.length).map fun k => maskOf members (k + 1) := by
  refine List.ext_getElem (by simp [writeMasks]) fun k _ _ => ?_
  simp [writeMasks]

theorem State.setMembers_shaped {s : State} {members : List (Nat × Nat)} (hs : s.SetShaped) (hlimits : WithinLimits members)
    (honce : members.Nodup) (hpositions : ∀ m ∈ members, 1 ≤ m.1 ∧ m.1 ≤ 12 ∧ 1 ≤ m.2) :
    (s.setMembers members).SetShaped := by
  unfold State.setMembers
  split
  · exact hs
  · refine ⟨hlimits, honce, hpositions, ?_, hs.configured⟩
    have hlength : s.chain.modules.length = 12 := (masks_iff.mp hs.masks).1
    rw [← hlength]
    exact map_mask_writeMasks members s.chain.modules

/-- The drop of the set restores its eligibility, whatever ahead of it asked for the drop (R46). -/
theorem State.KeepsBalance.empty {s t : State} (h : s.SetShaped → t.SetShaped) : s.KeepsBalance t.emptyBalance where
  shaped := fun hs => State.setMembers_shaped (h hs) ⟨Nat.zero_le _, fun _ => Nat.zero_le _⟩ .nil nofun
  eligibly := fun _ => .of_nil (setMembers_members t [])

/-- A rebuild on the inputs of this completion leaves a set within its limits, and one with members only where balancing is
eligible on them (R45, R47). -/
theorem State.rebuildBalance_balanced {s : State} {c : ConfigSet} (hc : s.svc.config = some c) :
    s.KeepsBalance (s.rebuildBalance c) where
  shaped := fun hs => by
    have htaken : s.taken.SetShaped := hs.of_read rfl
    refine State.setMembers_shaped htaken (rebuilt_withinLimits hs.limits hs.once c _) (rebuilt_nodup s c _) fun m hm => ?_
    obtain ⟨hp, hpM, hi, -⟩ := rebuilt_cells m hm
    exact ⟨hp, hpM.trans (hs.configured c hc), hi⟩
  eligibly := fun _ => by
    set x : BalanceInputs := ⟨s.chain.sense.current, s.chain.tmax, s.chain.dataLoss⟩
    have rest : ∀ m, (s.taken.setMembers m).eligibilityRead = s.taken.eligibilityRead
        ∧ (s.taken.setMembers m).svc.config = some c := fun m => by
      unfold State.setMembers
      split <;> exact ⟨rfl, hc⟩
    intro hn
    rw [rebuildBalance_eq] at hn ⊢
    rw [setMembers_members] at hn
    obtain ⟨hread, hconfig⟩ := rest (s.rebuilt c x)
    simp only [State.eligibilityRead, Prod.mk.injEq] at hread
    obtain ⟨htaken, hmode, hfire, hflag, hlevel⟩ := hread
    have he : s.balanceEligible c x = true := by_contra fun h => hn (rebuilt_of_not_eligible h)
    obtain ⟨active, normal, clear, cool, inputs⟩ := balanceEligible_iff.mp he
    exact ⟨hmode.trans active, hfire.trans normal, hflag.trans clear, hlevel.trans_lt cool, c, x, hconfig, htaken, inputs⟩

/-! ### The queue, the token -/

theorem State.enqueue_balanced (s : State) (e : Entry) : s.KeepsBalance (s.enqueue e) :=
  .of_blocks (s.enqueue_connState e).toKeepsBlocks

theorem State.reportLoss_balanced (s : State) (e : Entry) : s.KeepsBalance (s.reportLoss e) :=
  .of_blocks (KeepsConnState.of_queueing (s.reportLoss_keeps e) (State.reportLoss_restart e)).toKeepsBlocks

theorem State.reply_balanced (s : State) (kind : Byte) (result : ReplyResult) (data : List Byte) :
    s.KeepsBalance (s.reply kind result data) := s.enqueue_balanced _

theorem State.enqueueAnnounce_balanced (s : State) : s.KeepsBalance s.enqueueAnnounce :=
  .ite (.of_read rfl) (s.enqueue_balanced _)

/-- A change of the claim unit and a frame handed over for it. -/
theorem State.KeepsBalance.queueClaim (s : State) (c : ClaimUnit) (e : Entry) :
    s.KeepsBalance (({ s with claims := c } : State).enqueue e) := .after (State.enqueue_balanced _ e) rfl

theorem State.setConn_balanced (s : State) (st : ConnState) : s.KeepsBalance (s.setConn st) := .of_blocks (s.setConn_blocks st)

theorem State.leaveWaitToken_balanced (s : State) (st : ConnState) : s.KeepsBalance (s.leaveWaitToken st) :=
  .of_blocks (s.leaveWaitToken_blocks st)

theorem State.seqRelease_balanced (s : State) (r : JoinResult) : s.KeepsBalance (s.seqRelease r) :=
  .of_blocks (s.seqRelease_connState r).toKeepsBlocks

theorem State.testWindow_balanced (s : State) : s.KeepsBalance s.testWindow := .of_blocks s.testWindow_blocks

theorem State.tokenLost_balanced (s : State) (g : Bool) : s.KeepsBalance (s.tokenLost g) :=
  .after (t := s.syncToken) (.ite
    (.ite (.of_blocks (State.prechargeFailure_blocks _)) (.of_blocks (State.forcedLeave_blocks _)))
    (.ite (.of_read rfl) (.refl _))) rfl

theorem State.joinReleaseByOther_balanced (s : State) (g : Bool) : s.KeepsBalance (s.joinReleaseByOther g) :=
  .trans (.of_blocks (s.joinRelease_connState .failed).toKeepsBlocks) (.ite
    (.ite (.refl _) ((State.leaveWaitToken_balanced _ _).trans (.of_read rfl)))
    (.ite (State.tokenLost_balanced _ _) (.refl _)))

theorem State.startCheck_balanced (s : State) : s.KeepsBalance s.startCheck := .after (State.enqueue_balanced _ _) rfl

theorem State.signalToken_balanced (s : State) : s.KeepsBalance s.signalToken :=
  .ite (.refl s) (.ite (.ite (.after (State.startCheck_balanced _) rfl) (.of_read rfl)) (s.tokenLost_balanced _))

theorem State.changeJoin_balanced (s : State) (f : List Nat → List Nat) : s.KeepsBalance (s.changeJoin f) :=
  .after (State.signalToken_balanced _) rfl

/-! ### The heater -/

/-- The heater's operations on the slots change neither the set nor the own level. -/
theorem State.evalSlot_balanced (s : State) : s.KeepsBalance s.evalSlot := by
  obtain ⟨hchain, -, hbalance⟩ := evalSlot_ignores.keeps s
  have h := s.evalSlot_safe
  refine .of_read ?_
  rw [State.balanceRead, State.setRead, State.eligibilityRead, hbalance, hchain, h.svc, h.fire, h.peers, evalSlot_level]
  rfl

theorem State.changeHeat_balanced (s : State) (f : List Nat → List Nat) : s.KeepsBalance (s.changeHeat f) :=
  .after (State.evalSlot_balanced _) rfl

theorem State.setLimit_balanced (s : State) (l : Nat) : s.KeepsBalance (s.setLimit l) :=
  .after (State.evalSlot_balanced _) rfl

theorem State.heatClaim_balanced (s : State) : s.KeepsBalance s.heatClaim := by
  refine .ite ?_ (.refl s)
  split
  case h_1 => exact .queueClaim s _ _
  all_goals exact .of_read rfl

theorem State.heatRelease_balanced (s : State) : s.KeepsBalance s.heatRelease := by
  unfold State.heatRelease
  split
  case h_3 => exact .trans (.queueClaim s _ _) (State.evalSlot_balanced _)
  all_goals exact .of_read rfl

theorem State.judgeSoak_balanced (s : State) : s.KeepsBalance s.judgeSoak := by
  unfold State.judgeSoak
  split <;> exact .of_read rfl

theorem State.judgeRecovery_balanced (s : State) : s.KeepsBalance s.judgeRecovery := by
  unfold State.judgeRecovery
  split <;> exact .of_read rfl

theorem State.setThermal_balanced (s : State) (st : ThermalState) : s.KeepsBalance (s.setThermal st) := .of_read rfl

/-- A level of 3 drops the set, and a set stands at every level below it (R45, R46). -/
theorem State.setLevel_balanced {s : State} {k : Nat} (hk : s.thermal.level < 3 → k ≤ 3) : s.KeepsBalance (s.setLevel k) := by
  set t : State := { s with thermal := { s.thermal with level := k } }
  have levelled : k ≠ 3 → s.KeepsBalance t := fun h3 =>
    ⟨fun hs => hs.of_read rfl, fun hs hn => by
      obtain ⟨hmode, hfire, hflag, hlevel, hinputs⟩ := hs hn
      exact ⟨hmode, hfire, hflag, lt_of_le_of_ne (hk hlevel) h3, hinputs⟩⟩
  have dropped : s.KeepsBalance t.emptyBalance := .empty fun hs => hs.of_read rfl
  unfold State.setLevel
  split
  · exact .refl s
  · refine .trans ?_ (State.judgeSoak_balanced _)
    split
    · exact dropped
    · next h3 => exact levelled h3

theorem coolingLevel_le (c : ConfigSet) (prev : Nat) (tmax : Int) : coolingLevel c prev tmax ≤ 3 := by
  unfold coolingLevel
  split_ifs <;> omega

theorem inhibitLevel_le (s : State) : s.inhibitLevel ≤ 3 := by
  unfold State.inhibitLevel
  split <;> omega

/-- TEMP_LOSS holds the level, and otherwise none above 3 comes about (R91). -/
theorem nextLevel_le {s : State} (c : ConfigSet) (h : s.thermal.level < 3) : s.nextLevel c ≤ 3 := by
  have := coolingLevel_le c s.thermal.level s.chain.tmax
  unfold State.nextLevel
  split <;> omega

theorem State.beginDemand_balanced (s : State) : s.KeepsBalance s.beginDemand := .after (State.heatClaim_balanced _) rfl

theorem State.endDemand_balanced (s : State) : s.KeepsBalance s.endDemand :=
  .ite (.after (State.heatRelease_balanced _) rfl) (.refl s)

theorem State.enterInhibited_balanced (s : State) : s.KeepsBalance s.enterInhibited :=
  (s.endDemand_balanced.trans (State.setThermal_balanced _ _)).trans (State.setLevel_balanced fun _ => inhibitLevel_le _)

theorem State.leaveInhibited_balanced (s : State) : s.KeepsBalance s.leaveInhibited := by
  unfold State.leaveInhibited
  split
  · exact .refl s
  · exact ((State.setLevel_balanced fun _ => coolingLevel_le _ _ _).trans (State.setThermal_balanced _ _)).trans
      (.ite (State.beginDemand_balanced _) (.refl _))

theorem State.thermalReview_balanced (s : State) : s.KeepsBalance s.thermalReview :=
  .ite (.refl s) (.ite
    (.ite (State.setLevel_balanced fun _ => inhibitLevel_le s) s.enterInhibited_balanced)
    (.ite s.leaveInhibited_balanced (.refl s)))

theorem State.completionHeating_balanced (s : State) (c : ConfigSet) : s.KeepsBalance (s.completionHeating c) :=
  (State.setLevel_balanced fun _ => Nat.zero_le 3).trans (.ite
    (.ite ((State.endDemand_balanced _).trans (State.setThermal_balanced _ _)) (State.heatClaim_balanced _))
    (.ite (State.beginDemand_balanced _) (State.setThermal_balanced _ _)))

theorem State.completionCooling_balanced {s : State} {k : Nat} (hk : s.thermal.level < 3 → k ≤ 3) :
    s.KeepsBalance (s.completionCooling k) :=
  (s.endDemand_balanced.trans (State.setThermal_balanced _ _)).trans
    (State.setLevel_balanced fun hl => hk (by rwa [State.setThermal_thermal_level, endDemand_level] at hl))

theorem State.thermalCompletion_balanced (s : State) (c : ConfigSet) : s.KeepsBalance (s.thermalCompletion c) := by
  have level : ∀ t : State, t.KeepsBalance (t.completionLevel c) := fun t =>
    .ite (.refl t) (.ite (t.completionHeating_balanced c) (State.completionCooling_balanced (nextLevel_le c)))
  exact .trans (.trans (.after (level s.takeInlet) rfl) (State.judgeSoak_balanced _)) (State.judgeRecovery_balanced _)

end Sys2Proof.Machine

namespace Sys2Proof.Machine

open Sys2Proof

/-! ### The balance set as the fire state changes (R46) -/

/-- A change of the fire state to NORMAL, or out of a state in which the set is empty, leaves the set eligible. -/
theorem State.setFire_balanced {s : State} {st : FireState} (h : st = .normal ∨ s.fire.state ≠ .normal) :
    s.KeepsBalance (s.setFire st) := by
  refine .trans (t := { s with fire := { s.fire with state := st } }) ?_
    (.of_blocks (State.cancelRestart_connState _).toKeepsBlocks)
  rcases h with rfl | h
  · exact ⟨fun hs => hs.of_read rfl, fun hs hn => have ⟨hmode, _, rest⟩ := hs hn; ⟨hmode, rfl, rest⟩⟩
  · exact .of_ineligible rfl (.inr h)

/-- The shape of the set asks for no fire state. -/
theorem State.setFire_shaped {s : State} (hs : s.SetShaped) (st : FireState) : (s.setFire st).SetShaped :=
  (State.KeepsBalance.of_blocks (State.cancelRestart_connState _).toKeepsBlocks).shaped
    (State.SetShaped.of_read (t := { s with fire := { s.fire with state := st } }) hs rfl)

theorem State.setCountdown_balanced (s : State) (x : Timer) : s.KeepsBalance (s.setCountdown x) := .of_read rfl

theorem State.setRepeat_balanced (s : State) (x : Timer) : s.KeepsBalance (s.setRepeat x) := .of_read rfl

theorem State.setFireLines_balanced (s : State) (r f t : Bool) : s.KeepsBalance (s.setFireLines r f t) := .of_read rfl

theorem State.enterReleased_balanced {s : State} (h : s.fire.state ≠ .normal) : s.KeepsBalance s.enterReleased := by
  unfold State.enterReleased
  exact (((State.setFire_balanced (.inr h)).trans (State.setCountdown_balanced _ _)).trans
    (State.setFireLines_balanced _ _ _ _)).trans (State.enqueue_balanced _ _)

theorem State.enterReleaseDelay_balanced {s : State} (h : s.fire.state ≠ .normal) : s.KeepsBalance s.enterReleaseDelay :=
  .ite ((State.setFire_balanced (.inr h)).trans (State.setCountdown_balanced _ _)) (.ite (State.enterReleased_balanced h)
    ((State.setFire_balanced (.inr h)).trans (State.setCountdown_balanced _ _)))

/-- The inhibit moves the fire state from ALARM on, where the set is empty (R46, R116). -/
theorem State.reviewInhibit_balanced (s : State) : s.KeepsBalance s.reviewInhibit := by
  have back : s.fire.state ≠ .normal → s.KeepsBalance ((s.setFire .alarm).setCountdown none) := fun h =>
    (State.setFire_balanced (.inr h)).trans (State.setCountdown_balanced _ _)
  unfold State.reviewInhibit
  split
  · next h => exact .ite (.refl s) (State.enterReleaseDelay_balanced (by simp [h]))
  · next h => exact .ite (back (by simp [h])) (.refl s)
  · next h => exact .ite (back (by simp [h])) (.refl s)
  all_goals exact .refl s

/-- The end of the drops under container fire and in SAFE, behind whatever asked for them (R46, R83, R84). -/
theorem State.released_balanced {s t : State} (h : t.setRead = s.setRead) :
    s.KeepsBalance ((t.emptyBalance.joinReleaseByOther false).heatRelease).thermalReview :=
  (State.KeepsBalance.empty fun hs => hs.of_read h).trans
    (((State.joinReleaseByOther_balanced _ _).trans (State.heatRelease_balanced _)).trans (State.thermalReview_balanced _))

theorem State.setContainerFire_balanced (s : State) : s.KeepsBalance s.setContainerFire :=
  .ite (.refl s) (State.released_balanced rfl)

/-- The flag is cleared where it is set, and there the set is empty (R46, R61). -/
theorem State.evaluateContainerFire_balanced (s : State) : s.KeepsBalance s.evaluateContainerFire := by
  refine .ite (.trans (t := { s with peers := { s.peers with containerFire := false } })
    ⟨fun hs => hs.of_read rfl, fun hs hn => ?_⟩ (State.thermalReview_balanced _)) (.refl s)
  obtain ⟨hmode, hfire, -, rest⟩ := hs hn
  exact ⟨hmode, hfire, rfl, rest⟩

theorem State.queueCall_balanced (s : State) : s.KeepsBalance s.queueCall := by
  unfold State.queueCall
  split
  · exact .refl s
  · exact .after (State.enqueue_balanced _ _) rfl

/-- The entry to ALARM drops the set before it ends (R115). -/
theorem State.enterAlarm_balanced (s : State) : s.KeepsBalance s.enterAlarm := by
  have flagged : ∀ t : State, t.KeepsBalance ((t.enqueue t.fireNotice).setFireLines false true true).setContainerFire.zeroPair :=
    fun t => ((t.enqueue_balanced _).trans (State.setFireLines_balanced _ _ _ _)).trans
      ((State.setContainerFire_balanced _).trans (.of_read rfl))
  have alarmed : s.SetShaped → ((s.setRepeat none).setFire .alarm).SetShaped := fun hs =>
    State.setFire_shaped ((s.setRepeat_balanced none).shaped hs) .alarm
  unfold State.enterAlarm
  exact ((State.KeepsBalance.empty fun hs => (flagged _).shaped (alarmed hs)).trans (State.thermalReview_balanced _)).trans
    (State.reviewInhibit_balanced _)

/-- So does the entry to PRE_ALARM (R110). -/
theorem State.enterPreAlarm_balanced (s : State) : s.KeepsBalance s.enterPreAlarm := by
  unfold State.enterPreAlarm
  exact ((State.KeepsBalance.empty fun hs => State.setFire_shaped hs .preAlarm).trans
    ((State.enqueue_balanced _ _).trans (State.setRepeat_balanced _ _))).trans (State.queueCall_balanced _)

theorem State.returnToNormal_balanced (s : State) : s.KeepsBalance s.returnToNormal := by
  unfold State.returnToNormal
  exact ((s.setRepeat_balanced none).trans (State.setFire_balanced (.inl rfl))).trans (State.enqueue_balanced _ _)

theorem State.judgeSources_balanced (s : State) (x : Sources) : s.KeepsBalance (s.judgeSources x) := by
  unfold State.judgeSources
  split
  · exact .ite (.ite s.enterAlarm_balanced s.enterPreAlarm_balanced) (.refl s)
  · exact .ite s.enterAlarm_balanced (.ite s.returnToNormal_balanced (.refl s))
  all_goals exact .refl s

theorem State.reviewZoneKey_balanced (s : State) : s.KeepsBalance s.reviewZoneKey :=
  .ite (.refl s) (.after (State.reviewInhibit_balanced _) rfl)

/-! ### SAFE and the end of a command -/

theorem State.enterSafe_balanced (s : State) : s.KeepsBalance s.enterSafe := State.released_balanced rfl

theorem State.setDuplicateId_balanced (s : State) : s.KeepsBalance s.setDuplicateId :=
  .after (t := { s with svc := { s.svc with duplicateId := true } }) (.ite (State.enterSafe_balanced _) (.refl _)) rfl

theorem State.settle_balanced (s : State) : s.KeepsBalance s.settle :=
  .trans (.of_blocks s.reviewForced_blocks) (.of_read rfl)

/-- A reset leaves an empty set and empty masks (R20, R52, R182). -/
theorem resetWith_balanceSound (lines : Lines) (pending : List Instr) : (State.resetWith lines pending).BalanceSound := by
  have hmasks : Chain.reset.modules.map (·.mask) = (List.range 12).map fun k => maskOf [] (k + 1) := by
    simp [Chain.reset, ModuleRecord.reset, maskOf]
  exact balanceSound_iff.mpr ⟨{
    limits := ⟨Nat.zero_le _, fun _ => Nat.zero_le _⟩
    once := .nil
    positions := fun _ hm => absurd hm List.not_mem_nil
    masks := hmasks
    configured := fun _ hc => nomatch hc }, .of_nil rfl⟩

/-- The end of a command keeps the balance set sound, be it the judgements or a reset. -/
theorem finish_balanceSound {s t : State} (hs : s.BalanceSound) (ht : s.finish = .next t) : t.BalanceSound := by
  obtain rfl := Host.Outcome.next.inj ht
  split
  · exact resetWith_balanceSound _ _
  · exact s.settle_balanced.sound hs

/-! ### The receiver -/

theorem State.receive_balanced {s : State} {act : State → State} (h : ∀ t, State.KeepsBalance t (act t)) :
    s.KeepsBalance (s.receive act) := .ite (.ite (.of_read rfl) (.after (h _) rfl)) (.refl s)

theorem State.receiveKind_balanced {s : State} {act : State → State} (payload : List Byte) (n : Nat)
    (h : ∀ t, State.KeepsBalance t (act t)) : s.KeepsBalance (s.receiveKind payload n act) :=
  State.receive_balanced fun t => .ite (h t) (.refl t)

theorem State.takeRequest_balanced {s : State} {act : List Byte → State → State} (sender : BitVec 5) (payload : List Byte)
    (h : ∀ args t, State.KeepsBalance t (act args t)) : s.KeepsBalance (s.takeRequest sender payload act) :=
  State.receive_balanced fun t => by
    split
    · exact .refl t
    · exact .ite (h _ t) (.refl t)

theorem State.judgeRequest_balanced {s : State} {act : State → State} (kind : Byte) (args : List Byte) (n : Nat)
    (modeOk : Mode → Bool) (h : s.KeepsBalance (act s)) : s.KeepsBalance (s.judgeRequest kind args n modeOk act) :=
  .ite (s.reply_balanced _ _ _) (.ite h (s.reply_balanced _ _ _))

/-! ### The module chain -/

/-- A change of the records that leaves the masks. -/
theorem State.KeepsBalance.of_masks {s : State} {ch : Chain} (h : ch.modules.map (·.mask) = s.chain.modules.map (·.mask)) :
    s.KeepsBalance { s with chain := ch } := .of_read (congrArg
  (fun l => ((s.balance.members, l, s.svc.config), s.eligibilityRead)) h)

/-- A reply leaves the mask of the record that it updates (R7). -/
theorem State.storeReply_balanced (s : State) (p : Nat) (body : ReplyBody) : s.KeepsBalance (s.storeReply p body) := by
  cases body with
  | module cells temps =>
    refine .of_masks (List.ext_getElem? fun k => ?_)
    rw [List.getElem?_map, List.getElem?_map, List.getElem?_modify]
    cases s.chain.modules[k]? with
    | none => rfl
    | some r => by_cases hk : p - 1 = k <;> simp [hk]
  | rackSense current stringV busV inlet => exact .of_read rfl
  | other n => exact .refl s

/-- A completion ages the records and leaves their masks (R9). -/
theorem completed_masks (ch : Chain) (c : ConfigSet) (stop : Option Nat) (goods bad : List Nat) :
    (ch.completed c stop goods bad).modules.map (·.mask) = ch.modules.map (·.mask) := by
  change (ch.aged c.modules goods).modules.map (·.mask) = _
  refine List.ext_getElem (by simp [Chain.aged]) fun k _ _ => ?_
  simp only [Chain.aged, List.map_map, List.getElem_map, List.getElem_zipIdx, Function.comp_apply]
  split <;> rfl

theorem State.startScan_balanced (s : State) : s.KeepsBalance s.startScan := .of_read rfl

/-- A completion rebuilds the set on the inputs that it takes, and drops it again where the own level rises to 3 (R46, R47). -/
theorem State.completeScan_balanced {s : State} {c : ConfigSet} (hc : s.svc.config = some c) (stop : Option Nat)
    (goods bad : List Nat) : s.KeepsBalance (s.completeScan c stop goods bad) := by
  have paired : s.KeepsBalance (s.paired c stop goods bad) :=
    (State.KeepsBalance.of_masks (completed_masks s.chain c stop goods bad)).trans (.of_read rfl)
  have rebuilt : s.KeepsBalance (s.evaluated c stop goods bad) :=
    (paired.trans (State.rebuildBalance_balanced hc)).trans (State.thermalCompletion_balanced _ c)
  rw [completeScan_eq]
  exact (rebuilt.trans (.of_blocks ((State.reviewForced_blocks _).trans (State.sequencerCompletion_blocks _ c _)))).trans
    (.ite (.of_read rfl) (.refl _))

theorem State.continueScan_balanced {s : State} {c : ConfigSet} (hc : s.svc.config = some c) (p : Nat) (goods bad : List Nat) :
    s.KeepsBalance (s.continueScan c p goods bad) := .ite (.of_read rfl) (State.completeScan_balanced hc _ _ _)

theorem State.endTransaction_balanced {s : State} {c : ConfigSet} (hc : s.svc.config = some c) (r : ScanRun) (body : ReplyBody)
    (o : TransactionOutcome) : s.KeepsBalance (s.endTransaction c r body o) := by
  have hstored : (s.storeReply r.position body).svc.config = some c := by cases body <;> exact hc
  cases o with
  | good => exact (s.storeReply_balanced _ _).trans (State.continueScan_balanced hstored _ _ _)
  | checkFail => exact State.continueScan_balanced hc _ _ _
  | noReply => exact State.completeScan_balanced hc _ _ _
  | wrongPosition => exact State.completeScan_balanced hc _ _ _

theorem State.tryResult_balanced {s : State} {c : ConfigSet} (hc : s.svc.config = some c) (r : ScanRun) (body : ReplyBody)
    (x : TryResult) : s.KeepsBalance (s.tryResult c r body x) := by
  have ended : ∀ replied, s.KeepsBalance (s.endTry c r replied) := fun replied =>
    .ite (.of_read rfl) (State.endTransaction_balanced hc _ _ _)
  cases x with
  | good => exact State.endTransaction_balanced hc r body .good
  | wrongPosition => exact State.endTransaction_balanced hc r body .wrongPosition
  | badCheck => exact ended _
  | noReply => exact ended _

theorem State.replyArrives_balanced (s : State) (reply : ChainReply) : s.KeepsBalance (s.replyArrives reply) := by
  unfold State.replyArrives
  split
  · next hc _ => exact State.tryResult_balanced hc _ _ _
  · exact .refl s

theorem State.replyWaitExpires_balanced (s : State) : s.KeepsBalance s.replyWaitExpires := by
  unfold State.replyWaitExpires
  split
  · next hc _ => exact State.tryResult_balanced hc _ _ _
  · exact .refl s

theorem State.scanInterval_balanced (s : State) : s.KeepsBalance s.scanInterval :=
  .ite (.ite (.of_read rfl) s.startScan_balanced) (.refl s)

/-! ### Start-up -/

/-- An accepted image names at most twelve modules (11.6, R175). -/
theorem loadImage_modules_le {b : List Byte} {c : ConfigSet} (h : loadImage b = some c) : c.modules ≤ 12 := by
  unfold loadImage at h
  split_ifs at h with _ _ hok
  obtain rfl := Option.some.inj h
  simp only [fieldsOk, Bool.and_eq_true, and_assoc] at hok
  obtain ⟨hmodules, -⟩ := hok
  simp only [within, Bool.and_eq_true, decide_eq_true_eq] at hmodules
  exact hmodules.2

theorem State.leaveLoading_balanced (s : State) (period : Nat) : s.KeepsBalance (s.leaveLoading period) :=
  .after ((State.thermalReview_balanced _).trans (State.enqueueAnnounce_balanced _)) rfl

theorem State.gridAsserted_balanced (s : State) (c : ConfigSet) : s.KeepsBalance (s.gridAsserted c) := by
  unfold State.gridAsserted
  split <;> exact .of_read rfl

theorem State.setDegraded_balanced (s : State) (b : Bool) : s.KeepsBalance (s.setDegraded b) := .of_read rfl

/-- The entry to LISTENING gives the configuration set to a station whose balance set is empty (R46, R175). -/
theorem State.enterListening_balanced {s : State} {c : ConfigSet} (h : s.svc.mode = .loading) (hc : c.modules ≤ 12) :
    s.KeepsBalance (s.enterListening c) := by
  have listening : s.KeepsBalance { s with
      svc := { s.svc with mode := .listening, config := some c, siteCap := c.irackMax, apCount := 0 }
      claims := { s.claims with limit := c.heatLimitIsland }
      chain := { s.chain with scanTimer := some 100 }
      env := { s.env with runawayTimer := some 1000 } } := by
    refine ⟨fun hs => ⟨hs.limits, hs.once, hs.positions, hs.masks, ?_⟩, fun hs hn => ?_⟩
    · rintro d ⟨⟩
      exact hc
    · obtain ⟨hmode, -⟩ := hs hn
      exact absurd hmode (by simp [h])
  have degraded : ∀ t : State, t.KeepsBalance (if t.lines.chillerFault then t.setDegraded true else t) := fun t =>
    .ite (t.setDegraded_balanced true) (.refl t)
  have healthy : ∀ t : State, t.KeepsBalance (if t.lines.gridHealthy then t.gridAsserted c else t) := fun t =>
    .ite (t.gridAsserted_balanced c) (.refl t)
  unfold State.enterListening
  exact .trans (.trans (listening.trans ((State.evalSlot_balanced _).trans
    ((State.leaveLoading_balanced _ _).trans (State.startScan_balanced _)))) (degraded _)) (healthy _)

/-- In LOADING the set is empty, so that the entry to CONFIG_FAULT asks nothing of it (R45, R175). -/
theorem State.loadConfig_balanced (s : State) (image : List Byte) : s.KeepsBalance (s.loadConfig image) := by
  unfold State.loadConfig
  split
  · next h =>
    split
    · next hload => exact State.enterListening_balanced h (loadImage_modules_le hload)
    · exact .trans (t := { s with svc := { s.svc with mode := .configFault, configFaultFlag := true } })
        (.of_ineligible rfl (.inl (by simp [h]))) (State.leaveLoading_balanced _ _)
  · exact .refl s

/-! ### The fire unit, the heater and the grid -/

theorem State.sampleLoops_balanced (s : State) (a b : Nat) : s.KeepsBalance (s.sampleLoops a b) :=
  .ite (.after (State.judgeSources_balanced _ _) rfl) (.refl s)

theorem State.sampleRunaway_balanced (s : State) : s.KeepsBalance s.sampleRunaway := by
  unfold State.sampleRunaway
  split
  · exact .refl s
  · exact .ite (.after (State.judgeSources_balanced _ _) rfl) (.refl s)

theorem State.countdownExpires_balanced (s : State) : s.KeepsBalance s.countdownExpires := by
  unfold State.countdownExpires
  split
  · next h => exact State.enterReleased_balanced (by simp [h.1])
  · exact .refl s

theorem State.repeatExpires_balanced (s : State) : s.KeepsBalance s.repeatExpires :=
  .ite (.after (State.queueCall_balanced _) rfl) (.refl s)

theorem State.abortChange_balanced (s : State) (b : Bool) : s.KeepsBalance (s.abortChange b) := by
  refine .trans (t := { s with lines := { s.lines with abort := b } }) (.of_read rfl) ?_
  unfold State.abortChange
  dsimp only
  split
  · next h => exact .ite ((State.setFire_balanced (.inr (by simp [h]))).trans (.of_read rfl)) (.refl _)
  · next h => exact .ite (.refl _) (State.enterReleaseDelay_balanced (by simp [h]))
  all_goals exact .refl _

theorem State.keyChange_balanced (s : State) (b : Bool) : s.KeepsBalance (s.keyChange b) :=
  .after (t := { s with lines := { s.lines with key := b } })
    (.ite (.refl _) (.after (State.reviewInhibit_balanced _) rfl)) rfl

theorem State.chillerFaultChange_balanced (s : State) (b : Bool) : s.KeepsBalance (s.chillerFaultChange b) :=
  .after (t := { s with lines := { s.lines with chillerFault := b } })
    (.ite (.trans (.ite (State.setDegraded_balanced _ _) (.refl _)) (State.judgeRecovery_balanced _)) (.refl _)) rfl

theorem State.heatSoakExpire_balanced (s : State) : s.KeepsBalance s.heatSoakExpire :=
  .ite (s.setDegraded_balanced true) (.refl s)

theorem State.recoveryExpire_balanced (s : State) : s.KeepsBalance s.recoveryExpire :=
  .ite (s.setDegraded_balanced false) (.refl s)

theorem State.gridReleased_balanced (s : State) (c : ConfigSet) : s.KeepsBalance (s.gridReleased c) := by
  unfold State.gridReleased
  split
  · exact .refl s
  · exact .of_read rfl
  · exact .after (State.setLimit_balanced _ _) rfl

theorem State.gridChange_balanced (s : State) (b : Bool) : s.KeepsBalance (s.gridChange b) := by
  refine .trans (t := { s with lines := { s.lines with gridHealthy := b } }) (.of_read rfl) ?_
  unfold State.gridChange
  dsimp only
  split
  · exact .refl _
  · exact .ite (.ite (State.gridAsserted_balanced _ _) (State.gridReleased_balanced _ _)) (.refl _)

theorem State.reconnectExpires_balanced (s : State) : s.KeepsBalance s.reconnectExpires := by
  unfold State.reconnectExpires
  split
  · exact .refl s
  · exact .ite (.after (State.setLimit_balanced _ _) rfl) (.refl s)

end Sys2Proof.Machine

namespace Sys2Proof.Machine

open Sys2Proof

/-! ### The balance set at the peers' frames and the announcement period -/

theorem State.fireReported_balanced (s : State) (f : FireState) : s.KeepsBalance (s.fireReported f) :=
  .ite s.setContainerFire_balanced (.refl s)

/-- A change of the peer table. -/
theorem State.setTable_balanced (s : State) (l : List PeerRecord) : s.KeepsBalance (s.setTable l) := .of_read rfl

theorem State.takeAnnounce_balanced (s : State) (n : Nat) (p : List Byte) : s.KeepsBalance (s.takeAnnounce n p) := by
  have repaired : ∀ (t : State) (f g : List Nat → List Nat), t.KeepsBalance ((t.changeJoin f).changeHeat g) := fun t f g =>
    (t.changeJoin_balanced f).trans (State.changeHeat_balanced _ g)
  have confirmed : ∀ t : State, t.KeepsBalance t.confirmByPeer := fun t => .ite t.enterAlarm_balanced (.refl t)
  exact .ite ((((s.setTable_balanced _).trans (repaired _ _ _)).trans (State.reviewZoneKey_balanced _)).trans
      ((State.fireReported_balanced _ _).trans (confirmed _)))
    (.ite ((s.fireReported_balanced _).trans (State.setDuplicateId_balanced _)) (.refl s))

theorem State.noticeToFireUnit_balanced (s : State) (zone : Nat) (f : FireState) :
    s.KeepsBalance (s.noticeToFireUnit zone f) := by
  have followed : s.fire.state ≠ .normal → s.KeepsBalance
      (if f = .released ∧ zone = s.ownZone ∧ s.fire.serviceKey = false then s.enterReleased else s) := fun h =>
    .ite (State.enterReleased_balanced h) (.refl s)
  unfold State.noticeToFireUnit
  split
  · exact .ite s.enterAlarm_balanced (.ite s.queueCall_balanced (.refl s))
  · next h => exact followed (by simp [h])
  · next h => exact followed (by simp [h])
  · next h => exact followed (by simp [h])
  all_goals exact .refl s

theorem State.takeFireNotice_balanced (s : State) (n : Nat) (p : List Byte) : s.KeepsBalance (s.takeFireNotice n p) :=
  .ite (((s.setTable_balanced _).trans (State.reviewZoneKey_balanced _)).trans
      ((State.fireReported_balanced _ _).trans (State.noticeToFireUnit_balanced _ _ _)))
    (.ite (s.fireReported_balanced _) (.refl s))

theorem State.requeueJoin_balanced (s : State) : s.KeepsBalance s.requeueJoin := by
  refine .ite (.after (t := { s with claims := { s.claims with join := { s.claims.join with requeue := false } } })
    ?_ rfl) (.refl s)
  dsimp only
  split
  case h_1 | h_2 => exact State.enqueue_balanced _ _
  all_goals exact .refl _

theorem State.requeueHeat_balanced (s : State) : s.KeepsBalance s.requeueHeat := by
  refine .ite (.after (t := { s with claims := { s.claims with heat := { s.claims.heat with requeue := false } } })
    ?_ rfl) (.refl s)
  dsimp only
  split
  case h_1 | h_2 => exact State.enqueue_balanced _ _
  all_goals exact .refl _

/-- ACTIVE is entered from LISTENING, where the set is empty (R45, R176). -/
theorem State.enterActive_balanced {s : State} (h : s.svc.mode = .listening) : s.KeepsBalance s.enterActive := by
  have active : s.KeepsBalance { s with svc := { s.svc with mode := .active, apCount := 0 } } :=
    .of_ineligible rfl (.inl (by simp [h]))
  have proving : ∀ t : State, t.KeepsBalance t.startProving := fun _ => .after (State.testWindow_balanced _) rfl
  exact (active.trans (proving _)).trans (State.thermalReview_balanced _)

theorem State.countAp_balanced (s : State) : s.KeepsBalance s.countAp := by
  unfold State.countAp
  split
  · next h => exact .ite (State.enterActive_balanced h) (.of_read rfl)
  · exact .refl s

theorem State.apExpires_balanced (s : State) : s.KeepsBalance s.apExpires := by
  have swept : s.KeepsBalance s.ageAndSweep :=
    ((s.setTable_balanced _).trans (State.reviewZoneKey_balanced _)).trans
      ((State.changeJoin_balanced _ _).trans (State.changeHeat_balanced _ _))
  have checked : ∀ t : State, t.KeepsBalance t.requeueCheck := fun t => .ite t.startCheck_balanced (.refl t)
  have judged : ∀ t : State, t.KeepsBalance t.judgeCongestion := fun t => .ite (.of_read rfl) (.refl t)
  exact .ite ((swept.trans ((State.requeueJoin_balanced _).trans ((State.requeueHeat_balanced _).trans (checked _)))).trans
    ((State.enqueueAnnounce_balanced _).trans ((judged _).trans (State.countAp_balanced _)))) (.refl s)

/-! ### Claim frames and timers -/

theorem State.takeJoinClaim_balanced (s : State) (n : Nat) : s.KeepsBalance (s.takeJoinClaim n) :=
  .ite (s.changeJoin_balanced _) (.refl s)

theorem State.takeJoinDone_balanced (s : State) (n : Nat) : s.KeepsBalance (s.takeJoinDone n) :=
  .ite (s.changeJoin_balanced _) (.refl s)

theorem State.takeHeatClaim_balanced (s : State) (n : Nat) : s.KeepsBalance (s.takeHeatClaim n) :=
  .ite (s.changeHeat_balanced _) (.refl s)

theorem State.takeHeatRelease_balanced (s : State) (n : Nat) : s.KeepsBalance (s.takeHeatRelease n) :=
  .ite (s.changeHeat_balanced _) (.refl s)

theorem State.headExpires_balanced (s : State) : s.KeepsBalance s.headExpires := by
  unfold State.headExpires
  split
  · exact .after (t := { s with claims := { s.claims with headTimer := none } })
      (.ite (.ite (State.joinReleaseByOther_balanced _ _) (.refl _)) (State.changeJoin_balanced _ _)) rfl
  · exact .refl s

theorem State.holdExpires_balanced (s : State) : s.KeepsBalance s.holdExpires := by
  unfold State.holdExpires
  split
  · exact .after (State.evalSlot_balanced _) rfl
  all_goals exact .refl s

theorem State.ownJoinClaimDone_balanced (s : State) : s.KeepsBalance s.ownJoinClaimDone := by
  refine .after (t := s.setJoinEntries (appendAbsent s.ownNumber s.claims.join.entries)) ?_ rfl
  unfold State.ownJoinClaimDone
  dsimp only
  split
  · exact .after (State.signalToken_balanced _) rfl
  · exact .queueClaim _ _ _
  all_goals exact State.signalToken_balanced _

theorem State.ownJoinDoneDone_balanced (s : State) : s.KeepsBalance s.ownJoinDoneDone := by
  refine .after (t := s.setJoinEntries (removeNumber s.ownNumber s.claims.join.entries)) ?_ rfl
  unfold State.ownJoinDoneDone
  dsimp only
  split
  · exact .after (State.signalToken_balanced _) rfl
  · exact .trans (.queueClaim _ _ _) (State.signalToken_balanced _)
  all_goals exact State.signalToken_balanced _

theorem State.ownHeatClaimDone_balanced (s : State) : s.KeepsBalance s.ownHeatClaimDone := by
  refine .after (t := s.setHeatEntries (appendAbsent s.ownNumber s.claims.heat.entries)) ?_ rfl
  unfold State.ownHeatClaimDone
  dsimp only
  split
  · exact .after (State.evalSlot_balanced _) rfl
  · exact .trans (.queueClaim _ _ _) (State.evalSlot_balanced _)
  all_goals exact State.evalSlot_balanced _

theorem State.ownHeatReleaseDone_balanced (s : State) : s.KeepsBalance s.ownHeatReleaseDone := by
  refine .after (t := s.setHeatEntries (removeNumber s.ownNumber s.claims.heat.entries)) ?_ rfl
  unfold State.ownHeatReleaseDone
  dsimp only
  split
  · exact .after (State.evalSlot_balanced _) rfl
  · exact .trans (.queueClaim _ _ _) (State.evalSlot_balanced _)
  all_goals exact State.evalSlot_balanced _

/-! ### The link -/

theorem State.takeCensusCall_balanced (s : State) (n : Nat) (p : List Byte) : s.KeepsBalance (s.takeCensusCall n p) :=
  .ite (.of_read rfl) (.refl s)

theorem State.joinedResult_balanced (s : State) (w : WindowRead) : s.KeepsBalance (s.joinedResult w) := by
  have abandoned : ∀ t : State, t.KeepsBalance t.abandonJoin := fun t =>
    (t.leaveWaitToken_balanced _).trans (State.seqRelease_balanced _ _)
  have mismatched : s.KeepsBalance ({ s with conn := { s.conn with mismatch := true } } : State).abandonJoin :=
    .after (abandoned _) rfl
  have precharged : s.KeepsBalance s.enterPrecharge := .of_blocks s.enterPrecharge_blocks
  unfold State.joinedResult
  split
  · exact .ite (.ite (abandoned s) (.ite (.ite mismatched precharged) (.ite mismatched precharged))) (.refl s)
  · exact .refl s

theorem State.settleGateway_balanced (s : State) (result : ReplyResult) (data : List Byte) :
    s.KeepsBalance (s.settleGateway result data) := .after (State.enqueue_balanced _ _) rfl

theorem State.gatewayResult_balanced (s : State) (q z : Byte) (w : WindowRead) : s.KeepsBalance (s.gatewayResult q z w) := by
  unfold State.gatewayResult
  split
  · exact .ite (s.settleGateway_balanced _ _) (.refl s)
  · exact .refl s

theorem State.goodWindow_balanced (s : State) (a : CensusAnswer) (w : WindowRead) : s.KeepsBalance (s.goodWindow a w) := by
  have own : s.KeepsBalance (s.ownCallGood a.own) := .ite (.of_read rfl) (.refl s)
  have zone : ∀ (t : State) (P : Prop) [Decidable P], t.KeepsBalance (if P then t.zoneResult w else t) := fun t P _ =>
    .ite (.ite t.enterAlarm_balanced (.refl t)) (.refl t)
  have joined : ∀ (t : State) (P : Prop) [Decidable P], t.KeepsBalance (if P then t.joinedResult w else t) := fun t P _ =>
    .ite (t.joinedResult_balanced w) (.refl t)
  have removed : ∀ t : State, t.KeepsBalance (t.removeIdentical a.question a.zone) := fun t =>
    .ite (.of_read rfl) (.of_read rfl)
  exact (own.trans (zone _ _)).trans ((joined _ _).trans ((removed _).trans (State.gatewayResult_balanced _ _ _ _)))

theorem State.failedWindow_balanced (s : State) (a : CensusAnswer) : s.KeepsBalance (s.failedWindow a) := by
  unfold State.failedWindow
  split
  · exact .ite (s.enqueue_balanced _) (.of_read rfl)
  · exact .ite (.refl s) s.startCheck_balanced
  · exact s.settleGateway_balanced _ _
  all_goals exact .refl s

theorem State.windowCompletes_balanced (s : State) (w : WindowRead) : s.KeepsBalance (s.windowCompletes w) := by
  unfold State.windowCompletes
  split
  · exact .refl s
  · exact .after (t := { s with link := { s.link with census := none } })
      (.ite (State.goodWindow_balanced _ _ _) (State.failedWindow_balanced _ _)) rfl

theorem State.attemptStart_balanced (s : State) (b : Bool) : s.KeepsBalance (s.attemptStart b) :=
  .ite (.of_read rfl) (.of_read rfl)

theorem State.arbitrationLost_balanced (s : State) : s.KeepsBalance s.arbitrationLost := .ite (.refl s) (.of_read rfl)

theorem State.bitError_balanced (s : State) (n : Nat) : s.KeepsBalance (s.bitError n) := by
  have dropped : ∀ x, s.KeepsBalance (s.bitErrorEntry x) := fun x =>
    .ite (.of_read rfl) (.after (State.reportLoss_balanced _ _) rfl)
  have waits : ∀ t : State, t.KeepsBalance (t.setReception .untilIdle) := fun _ => .of_read rfl
  have counted : ∀ t : State, t.KeepsBalance (t.headerError n) := fun t =>
    .ite (.ite (.after (State.setDuplicateId_balanced _) rfl) (.of_read rfl)) (.of_read rfl)
  unfold State.bitError
  split
  · exact .refl s
  · exact .trans ((dropped _).trans (waits _)) (counted _)

theorem State.selfReceive_balanced (s : State) (x : Entry) : s.KeepsBalance (s.selfReceive x) := by
  have due : s.KeepsBalance s.dueRestart := .ite (.of_read rfl) (.refl s)
  unfold State.selfReceive
  split
  · split
    · exact s.ownJoinClaimDone_balanced
    · exact s.ownJoinDoneDone_balanced
    · exact s.ownHeatClaimDone_balanced
    · exact s.ownHeatReleaseDone_balanced
    · exact .refl s
  · exact .of_read rfl
  · exact .ite due (.refl s)
  all_goals exact .refl s

theorem State.frameCompletes_balanced (s : State) : s.KeepsBalance s.frameCompletes := by
  unfold State.frameCompletes
  split
  · exact .refl s
  · exact .after (State.selfReceive_balanced _ _) rfl

theorem State.discardFrame_balanced (s : State) (r : DiscardReason) : s.KeepsBalance (s.discardFrame r) :=
  .ite (.of_read rfl) (.refl s)

/-! ### The sequencer's inputs and timers -/

theorem State.auxChange_balanced (s : State) (p n : Bool) : s.KeepsBalance (s.auxChange p n) :=
  .after (State.testWindow_balanced _) rfl

theorem State.auxWindowExpires_balanced (s : State) : s.KeepsBalance s.auxWindowExpires := by
  unfold State.auxWindowExpires
  split
  · exact .refl s
  · exact .of_blocks (s.windowFailure_blocks _)

theorem State.prechargeExpires_balanced (s : State) : s.KeepsBalance s.prechargeExpires :=
  .ite (.of_blocks s.prechargeFailure_blocks) (.refl s)

theorem State.leaveExpires_balanced (s : State) : s.KeepsBalance s.leaveExpires :=
  .ite (.of_blocks s.leaveStep2_blocks) (.refl s)

/-! ### The gateway's requests -/

theorem State.doReadStatus_balanced (s : State) (args : List Byte) : s.KeepsBalance (s.doReadStatus args) :=
  State.judgeRequest_balanced _ _ _ _ (s.reply_balanced _ _ _)

theorem State.doReadModule_balanced (s : State) (args : List Byte) : s.KeepsBalance (s.doReadModule args) :=
  State.judgeRequest_balanced _ _ _ _ (.ite (s.reply_balanced _ _ _) (s.reply_balanced _ _ _))

theorem State.setCap_balanced (s : State) (value : Nat) : s.KeepsBalance (s.setCap value) := by
  unfold State.setCap
  split
  · exact .refl s
  · exact .of_read rfl

theorem State.doSetSiteCap_balanced (s : State) (args : List Byte) : s.KeepsBalance (s.doSetSiteCap args) :=
  State.judgeRequest_balanced _ _ _ _ ((s.setCap_balanced _).trans (State.reply_balanced _ _ _ _))

theorem State.doHoldJoin_balanced (s : State) (args : List Byte) : s.KeepsBalance (s.doHoldJoin args) :=
  State.judgeRequest_balanced _ _ _ _ (.after (State.reply_balanced _ _ _ _) rfl)

theorem State.doResumeJoin_balanced (s : State) (args : List Byte) : s.KeepsBalance (s.doResumeJoin args) :=
  State.judgeRequest_balanced _ _ _ _ (.after (State.reply_balanced _ _ _ _) rfl)

theorem State.takeOutEffect_balanced (s : State) (c : ConfigSet) : s.KeepsBalance (s.takeOutEffect c) := by
  unfold State.takeOutEffect
  split
  · exact (s.setConn_balanced _).trans (State.reply_balanced _ _ _ _)
  · exact ((s.leaveWaitToken_balanced _).trans (State.seqRelease_balanced _ _)).trans (State.reply_balanced _ _ _ _)
  · exact .trans (.of_blocks (s.enterLeaving_blocks c)) (State.reply_balanced _ _ _ _)
  all_goals exact s.reply_balanced _ _ _

theorem State.doTakeOut_balanced (s : State) (args : List Byte) : s.KeepsBalance (s.doTakeOut args) :=
  State.judgeRequest_balanced _ _ _ _ (by
    split
    · exact s.takeOutEffect_balanced _
    · exact s.reply_balanced _ _ _)

theorem State.doReturn_balanced (s : State) (args : List Byte) : s.KeepsBalance (s.doReturn args) :=
  State.judgeRequest_balanced _ _ _ _
    (.ite ((s.setConn_balanced _).trans (State.reply_balanced _ _ _ _)) (s.reply_balanced _ _ _))

theorem State.doClearLockout_balanced (s : State) (args : List Byte) : s.KeepsBalance (s.doClearLockout args) := by
  have untripped : s.KeepsBalance s.clearTrip := .ite (.of_read rfl) (.refl s)
  have unlocked : ∀ t : State, t.KeepsBalance t.clearConn := fun t => .ite (.of_blocks (.setConn t _ _)) (.refl t)
  exact State.judgeRequest_balanced _ _ _ _ ((untripped.trans (unlocked _)).trans (State.reply_balanced _ _ _ _))

theorem State.resetFire_balanced (s : State) : s.KeepsBalance s.resetFire := by
  unfold State.resetFire
  refine .after (t := (({ s with env := { s.env with latch := false, riseFlag := false, ring := [] } } : State).setRepeat
    none).setCountdown none) ?_ rfl
  exact ((State.setFireLines_balanced _ _ _ _).trans (State.setFire_balanced (.inl rfl))).trans
    ((State.enqueue_balanced _ _).trans (State.thermalReview_balanced _))

theorem State.doFireReset_balanced (s : State) (args : List Byte) : s.KeepsBalance (s.doFireReset args) := by
  have evaluated : ∀ (t : State) (result : ReplyResult), t.KeepsBalance (t.evaluateContainerFire.reply 9 result []) :=
    fun t _ => t.evaluateContainerFire_balanced.trans (State.reply_balanced _ _ _ _)
  exact State.judgeRequest_balanced _ _ _ _ (.ite (evaluated _ _) (.ite (s.resetFire_balanced.trans (evaluated _ _))
    (evaluated _ _)))

theorem State.doBreakerHold_balanced (s : State) (args : List Byte) : s.KeepsBalance (s.doBreakerHold args) :=
  State.judgeRequest_balanced _ _ _ _ (.after (State.reply_balanced _ _ _ _) rfl)

theorem State.doBreakerRelease_balanced (s : State) (args : List Byte) : s.KeepsBalance (s.doBreakerRelease args) :=
  State.judgeRequest_balanced _ _ _ _ (.after (State.reply_balanced _ _ _ _) rfl)

theorem State.doCensusRequest_balanced (s : State) (args : List Byte) : s.KeepsBalance (s.doCensusRequest args) :=
  State.judgeRequest_balanced _ _ _ _ (.ite (.ite (s.reply_balanced _ _ _) (.after (State.enqueue_balanced _ _) rfl))
    (s.reply_balanced _ _ _))

theorem State.doRestart_balanced (s : State) (args : List Byte) : s.KeepsBalance (s.doRestart args) :=
  State.judgeRequest_balanced _ _ _ _ (.ite (.ite (s.reply_balanced _ _ _) (.after (State.enqueue_balanced _ _) rfl))
    (s.reply_balanced _ _ _))

theorem State.doKind_balanced (s : State) (kind : Byte) (args : List Byte) : s.KeepsBalance (s.doKind kind args) := by
  unfold State.doKind
  split
  · exact s.doReadStatus_balanced args
  · exact s.doReadModule_balanced args
  · exact s.doSetSiteCap_balanced args
  · exact s.doHoldJoin_balanced args
  · exact s.doResumeJoin_balanced args
  · exact s.doTakeOut_balanced args
  · exact s.doReturn_balanced args
  · exact s.doClearLockout_balanced args
  · exact s.doFireReset_balanced args
  · exact s.doBreakerHold_balanced args
  · exact s.doBreakerRelease_balanced args
  · exact s.doCensusRequest_balanced args
  · exact s.doRestart_balanced args
  · exact .refl s
  · exact s.reply_balanced _ _ _

/-! ### Every command -/

/-- Every command but POWER_ON_RESET is an operation that keeps the balance set, and the judgements of its end. -/
theorem exec_balanced {i : Instr} (s : State) (h : ∀ straps, i ≠ .powerOnReset straps) :
    ∃ u, exec i s = u.finish ∧ s.KeepsBalance u := by
  cases i with
  | powerOnReset straps => exact absurd rfl (h straps)
  | configLoad image => exact ⟨_, rfl, s.loadConfig_balanced image⟩
  | scanIntervalExpiry => exact ⟨_, rfl, s.scanInterval_balanced⟩
  | chainReplyArrival reply => exact ⟨_, rfl, s.replyArrives_balanced reply⟩
  | chainReplyWaitExpiry => exact ⟨_, rfl, s.replyWaitExpires_balanced⟩
  | loopSample a b => exact ⟨_, rfl, s.sampleLoops_balanced a b⟩
  | runawaySample => exact ⟨_, rfl, s.sampleRunaway_balanced⟩
  | releaseCountdownExpiry => exact ⟨_, rfl, s.countdownExpires_balanced⟩
  | censusRepeatExpiry => exact ⟨_, rfl, s.repeatExpires_balanced⟩
  | abortInputChange b => exact ⟨_, rfl, s.abortChange_balanced b⟩
  | maintenanceKeyChange b => exact ⟨_, rfl, s.keyChange_balanced b⟩
  | chillerFaultInputChange b => exact ⟨_, rfl, s.chillerFaultChange_balanced b⟩
  | heatSoakExpiry => exact ⟨_, rfl, s.heatSoakExpire_balanced⟩
  | recoveryExpiry => exact ⟨_, rfl, s.recoveryExpire_balanced⟩
  | apExpiry => exact ⟨_, rfl, s.apExpires_balanced⟩
  | announceArrival n p => exact ⟨_, rfl, State.receiveKind_balanced p 24 fun t => t.takeAnnounce_balanced _ p⟩
  | fireNoticeArrival n p => exact ⟨_, rfl, State.receiveKind_balanced p 3 fun t => t.takeFireNotice_balanced _ p⟩
  | joinClaimArrival n p => exact ⟨_, rfl, State.receiveKind_balanced p 0 fun t => t.takeJoinClaim_balanced _⟩
  | joinDoneArrival n p => exact ⟨_, rfl, State.receiveKind_balanced p 1 fun t => t.takeJoinDone_balanced _⟩
  | heatClaimArrival n p => exact ⟨_, rfl, State.receiveKind_balanced p 0 fun t => t.takeHeatClaim_balanced _⟩
  | heatReleaseArrival n p => exact ⟨_, rfl, State.receiveKind_balanced p 0 fun t => t.takeHeatRelease_balanced _⟩
  | censusCallArrival n p => exact ⟨_, rfl, State.receiveKind_balanced p 2 fun t => t.takeCensusCall_balanced _ p⟩
  | censusWindowCompletion w => exact ⟨_, rfl, s.windowCompletes_balanced w⟩
  | linkIdleAttemptStart b => exact ⟨_, rfl, s.attemptStart_balanced b⟩
  | lostArbitration => exact ⟨_, rfl, s.arbitrationLost_balanced⟩
  | attemptBitError n => exact ⟨_, rfl, s.bitError_balanced n⟩
  | ownFrameCompletion => exact ⟨_, rfl, s.frameCompletes_balanced⟩
  | headTimerExpiry => exact ⟨_, rfl, s.headExpires_balanced⟩
  | holdTimerExpiry => exact ⟨_, rfl, s.holdExpires_balanced⟩
  | auxInputChange p n => exact ⟨_, rfl, s.auxChange_balanced p n⟩
  | auxWindowExpiry => exact ⟨_, rfl, s.auxWindowExpires_balanced⟩
  | prechargeTimerExpiry => exact ⟨_, rfl, s.prechargeExpires_balanced⟩
  | leaveTimerExpiry => exact ⟨_, rfl, s.leaveExpires_balanced⟩
  | failureHoldExpiry => exact ⟨s.failureHoldExpires, rfl, .of_read rfl⟩
  | gridHealthyChange b => exact ⟨_, rfl, s.gridChange_balanced b⟩
  | reconnectExpiry => exact ⟨_, rfl, s.reconnectExpires_balanced⟩
  | readStatus n p => exact ⟨_, rfl, State.takeRequest_balanced n p fun x t => t.doReadStatus_balanced x⟩
  | readModule n p => exact ⟨_, rfl, State.takeRequest_balanced n p fun x t => t.doReadModule_balanced x⟩
  | setSiteCap n p => exact ⟨_, rfl, State.takeRequest_balanced n p fun x t => t.doSetSiteCap_balanced x⟩
  | holdJoin n p => exact ⟨_, rfl, State.takeRequest_balanced n p fun x t => t.doHoldJoin_balanced x⟩
  | resumeJoin n p => exact ⟨_, rfl, State.takeRequest_balanced n p fun x t => t.doResumeJoin_balanced x⟩
  | takeOut n p => exact ⟨_, rfl, State.takeRequest_balanced n p fun x t => t.doTakeOut_balanced x⟩
  | returnRack n p => exact ⟨_, rfl, State.takeRequest_balanced n p fun x t => t.doReturn_balanced x⟩
  | clearLockout n p => exact ⟨_, rfl, State.takeRequest_balanced n p fun x t => t.doClearLockout_balanced x⟩
  | fireReset n p => exact ⟨_, rfl, State.takeRequest_balanced n p fun x t => t.doFireReset_balanced x⟩
  | breakerHold n p => exact ⟨_, rfl, State.takeRequest_balanced n p fun x t => t.doBreakerHold_balanced x⟩
  | breakerRelease n p => exact ⟨_, rfl, State.takeRequest_balanced n p fun x t => t.doBreakerRelease_balanced x⟩
  | censusRequest n p => exact ⟨_, rfl, State.takeRequest_balanced n p fun x t => t.doCensusRequest_balanced x⟩
  | restart n p => exact ⟨_, rfl, State.takeRequest_balanced n p fun x t => t.doRestart_balanced x⟩
  | unknownRequest n k p => exact ⟨_, rfl, State.takeRequest_balanced n p fun x t => t.doKind_balanced k x⟩
  | receivedFrameDiscard r => exact ⟨_, rfl, s.discardFrame_balanced r⟩

/-- Every command keeps the balance set sound; POWER_ON_RESET leaves it empty. -/
theorem exec_balanceSound {i : Instr} {s t : State} (hs : s.BalanceSound) (h : exec i s = .next t) : t.BalanceSound := by
  by_cases hreset : ∃ straps, i = .powerOnReset straps
  · obtain ⟨straps, rfl⟩ := hreset
    exact finish_balanceSound (s := s.powerOn straps) (resetWith_balanceSound _ _) h
  · obtain ⟨u, hu, hk⟩ := exec_balanced s (not_exists.mp hreset)
    exact finish_balanceSound (hk.sound hs) (hu ▸ h)

/-- Settles O12: the command in front keeps the set's shape and its eligibility, and an idle step changes nothing. -/
theorem balanceSoundKept : Obligations.BalanceSoundKept := by
  intro s t hs h
  unfold step at h
  split at h
  · cases h
    exact hs
  · next c rest _ =>
    have taken : s.KeepsBalance { s with pending := rest } := .of_read rfl
    exact exec_balanceSound (taken.sound hs) h

end Sys2Proof.Machine

namespace Sys2Proof.Machine

open Sys2Proof

/-! ### The transmit queue as a list (R54, R163, R166) -/

/-- What the invariant asks of the queue alone: the conditions of R54, R163 and R166, without the header error count. -/
structure QueueFit (q : List Entry) : Prop where
  size : q.length ≤ 8
  order : (q.map (fun e => e.cls.rank)).Pairwise (· ≤ ·)
  onLine : (q.filter (·.onLine)).length ≤ 1
  announces : (q.filter waitingAnnounce).length ≤ 1
  errors : ∀ e ∈ q, e.errors ≤ 3

theorem queueSound_iff {s : State} : s.QueueSound ↔ QueueFit s.link.queue ∧ s.link.headerErrors ≤ 2 :=
  ⟨fun h => ⟨⟨h.size, h.order, h.onLine, h.announces, h.errors⟩, h.headerErrors⟩,
    fun ⟨h, hh⟩ => ⟨h.size, h.order, h.onLine, h.announces, h.errors, hh⟩⟩

/-- A frame that joins the queue stands among the frames that were there. -/
theorem insertByClass_perm (e : Entry) (q : List Entry) : (insertByClass e q).Perm (e :: q) := by
  unfold insertByClass
  refine List.perm_middle.trans (.of_eq ?_)
  rw [List.takeWhile_append_dropWhile]

/-- Of a queue in class order, what stands behind the higher-ranking and equal classes ranks lower (R163). -/
theorem lt_rank_of_mem_dropWhile {q : List Entry} {k : Nat} (h : (q.map (fun e => e.cls.rank)).Pairwise (· ≤ ·)) {x : Entry}
    (hx : x ∈ q.dropWhile (fun x => x.cls.rank ≤ k)) : k < x.cls.rank := by
  induction q with
  | nil => exact absurd hx List.not_mem_nil
  | cons e q ih =>
    rw [List.map_cons, List.pairwise_cons] at h
    obtain ⟨hfirst, hrest⟩ := h
    by_cases he : e.cls.rank ≤ k
    · exact ih hrest (by simpa [he] using hx)
    · rw [List.dropWhile_cons_of_neg (by simpa using he)] at hx
      rcases List.mem_cons.mp hx with rfl | hx
      · omega
      · have := hfirst _ (List.mem_map_of_mem hx)
        omega

/-- A frame joins a queue in class order in its place (R163). -/
theorem insertByClass_order {e : Entry} {q : List Entry} (h : (q.map (fun x => x.cls.rank)).Pairwise (· ≤ ·)) :
    ((insertByClass e q).map (fun x => x.cls.rank)).Pairwise (· ≤ ·) := by
  have parts := h
  rw [← List.takeWhile_append_dropWhile (p := fun x => x.cls.rank ≤ e.cls.rank) (l := q), List.map_append,
    List.pairwise_append] at parts
  obtain ⟨ahead, behind, across⟩ := parts
  have upper : ∀ x ∈ q.takeWhile (fun x => x.cls.rank ≤ e.cls.rank), x.cls.rank ≤ e.cls.rank := fun x hx => by
    simpa using List.mem_takeWhile_imp hx
  have lower : ∀ x ∈ q.dropWhile (fun x => x.cls.rank ≤ e.cls.rank), e.cls.rank ≤ x.cls.rank := fun x hx =>
    (lt_rank_of_mem_dropWhile h hx).le
  unfold insertByClass
  rw [List.map_append, List.map_cons, List.pairwise_append, List.pairwise_cons]
  refine ⟨ahead, ⟨by simpa using lower, behind⟩, fun a ha b hb => ?_⟩
  rcases List.mem_cons.mp hb with rfl | hb
  · obtain ⟨x, hx, rfl⟩ := List.mem_map.mp ha
    exact upper x hx
  · exact across a ha b hb

/-- A displaced entry is one that waited, and the rest of the queue stays (R164). -/
theorem eraseLastWaiting_sublist (q : List Entry) : (eraseLastWaiting q).Sublist q := by
  induction q with
  | nil => exact .slnil
  | cons e q ih =>
    unfold eraseLastWaiting
    split
    · exact ih.cons_cons e
    · split
      · exact .refl _
      · exact List.sublist_cons_self e q

theorem eraseLastWaiting_length {q : List Entry} (h : ∃ e ∈ q, e.onLine = false) :
    (eraseLastWaiting q).length + 1 = q.length := by
  induction q with
  | nil => simp at h
  | cons e q ih =>
    unfold eraseLastWaiting
    by_cases hq : ∃ x ∈ q, x.onLine = false
    · rw [if_pos (by simpa using hq), List.length_cons, List.length_cons, ih hq]
    · have he : e.onLine = false := by
        obtain ⟨x, hx, hxo⟩ := h
        rcases List.mem_cons.mp hx with rfl | hx
        · exact hxo
        · exact absurd ⟨x, hx, hxo⟩ hq
      rw [if_neg (by simpa using hq), if_neg (by simp [he]), List.length_cons]

theorem lastWaiting_waits {q : List Entry} {v : Entry} (h : lastWaiting q = some v) : v ∈ q ∧ v.onLine = false := by
  have := List.mem_of_getLast? h
  simpa using this

/-- Where one ANNOUNCE waits at most, its replacement is a change of that entry in its place (R163). -/
theorem replaceAnnounce_eq_map {new : Entry} {q : List Entry} (h : (q.filter waitingAnnounce).length ≤ 1) :
    replaceAnnounce new q = q.map (fun e => if waitingAnnounce e then new else e) := by
  have stays : ∀ l : List Entry, l.any waitingAnnounce = false →
      l.map (fun e => if waitingAnnounce e then new else e) = l := fun l hl =>
    (List.map_congr_left fun e he => if_neg (by simpa using (List.any_eq_false.mp hl) e he)).trans (List.map_id l)
  induction q with
  | nil => rfl
  | cons e q ih =>
    have hq : (q.filter waitingAnnounce).length ≤ 1 := ((List.sublist_cons_self e q).filter _).length_le.trans h
    unfold replaceAnnounce
    rw [List.map_cons]
    by_cases hw : q.any waitingAnnounce = true
    · have he : waitingAnnounce e = false := by
        obtain ⟨x, hx, hxw⟩ := List.any_eq_true.mp hw
        have : 0 < (q.filter waitingAnnounce).length := List.length_pos_of_mem (List.mem_filter.mpr ⟨hx, hxw⟩)
        by_contra hn
        rw [List.filter_cons_of_pos (by simpa using hn), List.length_cons] at h
        omega
      rw [if_pos hw, if_neg (by simp [he]), ih hq]
    · rw [if_neg hw, stays q (by simpa using hw)]
      split <;> rfl

/-- The queue that keeps one ANNOUNCE keeps it whole where one waits at most (R54). -/
theorem oneAnnounce_of_one {q : List Entry} (h : (q.filter waitingAnnounce).length ≤ 1) : oneAnnounce q = q := by
  induction q with
  | nil => rfl
  | cons e q ih =>
    unfold oneAnnounce
    split
    · next he =>
      rw [List.filter_cons_of_pos he, List.length_cons] at h
      have hnone : q.filter waitingAnnounce = [] := List.length_eq_zero_iff.mp (by omega)
      rw [List.filter_eq_nil_iff] at hnone
      rw [List.filter_eq_self.mpr fun x hx => by simpa using hnone x hx]
    · rw [ih (((List.sublist_cons_self e q).filter _).length_le.trans h)]

/-- The first ANNOUNCE that waits stays, and the others go (R54, log 14). -/
theorem oneAnnounce_append {pre post : List Entry} {e : Entry} (hpre : ∀ x ∈ pre, waitingAnnounce x = false)
    (he : waitingAnnounce e = true) :
    oneAnnounce (pre ++ e :: post) = pre ++ e :: post.filter (fun x => !waitingAnnounce x) := by
  induction pre with
  | nil => exact if_pos he
  | cons x pre ih =>
    have hx : ¬waitingAnnounce x = true := by simp [hpre x List.mem_cons_self]
    rw [List.cons_append, oneAnnounce, if_neg hx, ih fun y hy => hpre y (List.mem_cons_of_mem x hy), List.cons_append]

theorem oneAnnounce_announces (q : List Entry) : ((oneAnnounce q).filter waitingAnnounce).length ≤ 1 := by
  induction q with
  | nil => exact Nat.zero_le 1
  | cons e q ih =>
    unfold oneAnnounce
    split
    · next he => simp [he, List.filter_filter]
    · next he => rwa [List.filter_cons_of_neg he]

namespace QueueFit

theorem sublist {q q' : List Entry} (h : QueueFit q) (hs : q'.Sublist q) : QueueFit q' where
  size := hs.length_le.trans h.size
  order := h.order.sublist (hs.map _)
  onLine := (hs.filter _).length_le.trans h.onLine
  announces := (hs.filter _).length_le.trans h.announces
  errors := fun e he => h.errors e (hs.subset he)

/-- A change of entries in their places that leaves each one's class and whether it is on the line. -/
theorem map {q : List Entry} {f : Entry → Entry} (h : QueueFit q)
    (hf : ∀ e ∈ q, (f e).cls = e.cls ∧ (f e).onLine = e.onLine ∧ (f e).errors ≤ e.errors) : QueueFit (q.map f) where
  size := by rw [List.length_map]; exact h.size
  order := by
    have ranks : q.map ((fun e => e.cls.rank) ∘ f) = q.map (fun e => e.cls.rank) :=
      List.map_congr_left fun e he => congrArg FrameClass.rank (hf e he).1
    rw [List.map_map, ranks]
    exact h.order
  onLine := by
    have lines : q.filter ((·.onLine) ∘ f) = q.filter (·.onLine) := List.filter_congr fun e he => (hf e he).2.1
    rw [List.filter_map, List.length_map, lines]
    exact h.onLine
  announces := by
    have waits : q.filter (waitingAnnounce ∘ f) = q.filter waitingAnnounce := List.filter_congr fun e he => by
      rw [Function.comp_apply, waitingAnnounce, (hf e he).1, (hf e he).2.1, waitingAnnounce]
    rw [List.filter_map, List.length_map, waits]
    exact h.announces
  errors := fun x hx => by
    obtain ⟨e, he, rfl⟩ := List.mem_map.mp hx
    exact (hf e he).2.2.trans (h.errors e he)

/-- A frame that waits joins a queue with room for it; an ANNOUNCE is handed over where none waits. -/
theorem insert {q : List Entry} {e : Entry} (h : QueueFit q) (hq : q.length < 8) (ho : e.onLine = false) (he : e.errors ≤ 3)
    (ha : waitingAnnounce e = true → q.any waitingAnnounce = false) : QueueFit (insertByClass e q) where
  size := by rw [insertByClass_length]; exact hq
  order := insertByClass_order h.order
  onLine := by
    rw [((insertByClass_perm e q).filter _).length_eq, List.filter_cons_of_neg (by simp [ho])]
    exact h.onLine
  announces := by
    rw [((insertByClass_perm e q).filter _).length_eq]
    by_cases hw : waitingAnnounce e = true
    · have hnone : q.filter waitingAnnounce = [] :=
        List.filter_eq_nil_iff.mpr fun x hx => by simpa using (List.any_eq_false.mp (ha hw)) x hx
      rw [List.filter_cons_of_pos hw, hnone]
      exact le_rfl
    · rw [List.filter_cons_of_neg hw]
      exact h.announces
  errors := fun x hx => by
    rcases mem_insertByClass.mp hx with rfl | hx
    · exact he
    · exact h.errors x hx

/-- Only one entry is on the line. -/
theorem eq_of_onLine {q : List Entry} (h : QueueFit q) {x y : Entry} (hx : x ∈ q) (hxo : x.onLine = true) (hy : y ∈ q)
    (hyo : y.onLine = true) : x = y := by
  have hx' : x ∈ q.filter (·.onLine) := List.mem_filter.mpr ⟨hx, hxo⟩
  have hy' : y ∈ q.filter (·.onLine) := List.mem_filter.mpr ⟨hy, hyo⟩
  obtain ⟨a, ha⟩ := List.length_eq_one_iff.mp (le_antisymm h.onLine (List.length_pos_of_mem hx'))
  rw [ha, List.mem_singleton] at hx' hy'
  rw [hx', hy']

/-- The entry on the line waits again, and of two waiting ANNOUNCE entries one goes (R54, R165, R166, log 14). -/
theorem offLine {q : List Entry} {f : Entry → Entry} (h : QueueFit q) (hcls : ∀ e, (f e).cls = e.cls)
    (hf : ∀ e, (f e).onLine = false) (he : ∀ e ∈ q, e.onLine = true → (f e).errors ≤ 3) :
    QueueFit (oneAnnounce (mapOnLine f q)) := by
  have hsub := oneAnnounce_sublist (mapOnLine f q)
  have classes : (mapOnLine f q).map (fun e => e.cls.rank) = q.map (fun e => e.cls.rank) := by
    unfold mapOnLine
    rw [List.map_map]
    refine List.map_congr_left fun e _ => ?_
    dsimp only [Function.comp_apply]
    split
    · rw [hcls]
    · rfl
  have silent : ∀ x ∈ mapOnLine f q, x.onLine = false := fun x hx => by
    obtain ⟨e, _, rfl⟩ := List.mem_map.mp hx
    split
    · exact hf e
    · next h => simpa using h
  refine ⟨?_, (classes ▸ h.order).sublist (hsub.map _), ?_, oneAnnounce_announces _, fun x hx => ?_⟩
  · exact hsub.length_le.trans ((List.length_map _).trans_le h.size)
  · rw [List.filter_eq_nil_iff.mpr fun x hx => by simp [silent x (hsub.subset hx)]]
    exact Nat.zero_le 1
  · obtain ⟨e, hmem, rfl⟩ := List.mem_map.mp (hsub.subset hx)
    split
    · next ho => exact he e hmem ho
    · exact h.errors e hmem

/-- An attempt puts the head of the queue on the line, where nothing else is (R165). -/
theorem startHead {q : List Entry} {e e' : Entry} (h : QueueFit (e :: q)) (hsilent : ∀ x ∈ e :: q, x.onLine = false)
    (hcls : e'.cls = e.cls) (ho : e'.onLine = true) (herr : e'.errors = e.errors) : QueueFit (e' :: q) where
  size := h.size
  order := by
    have := h.order
    rwa [List.map_cons, ← hcls] at this
  onLine := by
    rw [List.filter_cons_of_pos ho, List.filter_eq_nil_iff.mpr fun x hx => by simp [hsilent x (List.mem_cons_of_mem e hx)]]
    exact le_rfl
  announces := by
    rw [List.filter_cons_of_neg (by simp [waitingAnnounce, ho])]
    exact ((List.sublist_cons_self e q).filter _).length_le.trans h.announces
  errors := fun x hx => by
    rcases List.mem_cons.mp hx with rfl | hx
    · exact herr ▸ h.errors e List.mem_cons_self
    · exact h.errors x (List.mem_cons_of_mem e hx)

end QueueFit

end Sys2Proof.Machine

namespace Sys2Proof.Machine

open Sys2Proof

/-! ### The transmit queue in every block (R54, R163, R166) -/

/-- What the invariant of the queue reads of a state. -/
def State.queueRead (s : State) : List Entry × Nat := (s.link.queue, s.link.headerErrors)

/-- The operations of every block keep the queue sound. -/
def State.KeepsQueue (s t : State) : Prop := s.QueueSound → t.QueueSound

namespace State.KeepsQueue

theorem refl (s : State) : s.KeepsQueue s := id

theorem trans {s t u : State} (h : s.KeepsQueue t) (k : t.KeepsQueue u) : s.KeepsQueue u := k ∘ h

theorem ite {s t u : State} {P : Prop} [Decidable P] (h : s.KeepsQueue t) (k : s.KeepsQueue u) :
    s.KeepsQueue (if P then t else u) := by
  split
  · exact h
  · exact k

/-- A change of the queue that leaves it fit, and of the header error count that leaves it at two or fewer. -/
theorem of_fit {s t : State} (hq : QueueFit s.link.queue → QueueFit t.link.queue)
    (hh : s.link.headerErrors ≤ 2 → t.link.headerErrors ≤ 2) : s.KeepsQueue t := fun h => by
  obtain ⟨hfit, herrors⟩ := queueSound_iff.mp h
  exact queueSound_iff.mpr ⟨hq hfit, hh herrors⟩

/-- An operation that leaves the queue and the header error count. -/
theorem of_read {s t : State} (h : t.queueRead = s.queueRead) : s.KeepsQueue t := by
  obtain ⟨hq, hh⟩ := Prod.mk.inj h
  exact of_fit (fun k => hq ▸ k) (fun k => hh ▸ k)

/-- An operation behind a change of what the invariant does not read. -/
theorem after {s t u : State} (k : t.KeepsQueue u) (h : t.queueRead = s.queueRead) : s.KeepsQueue u := (of_read h).trans k

end State.KeepsQueue

/-! ### Handing over, dropping and tying frames -/

/-- The loss of a frame is told to the block that queued it, and the queue is not asked (R164). -/
theorem State.reportLoss_link (s : State) (e : Entry) : (s.reportLoss e).link = s.link := by
  have due : s.dueRestart.link = s.link := by
    unfold State.dueRestart
    split <;> rfl
  unfold State.reportLoss
  split
  · split <;> rfl
  · split
    · rfl
    · split <;> rfl
    all_goals rfl
  · split
    · exact due
    all_goals rfl
  all_goals rfl

theorem State.reportLoss_queueSound (s : State) (e : Entry) : s.KeepsQueue (s.reportLoss e) :=
  .of_read (by rw [State.queueRead, s.reportLoss_link]; rfl)

/-- A frame that waits is handed over: in its place, in place of a lower-ranking one, or not at all (R163, R164). -/
theorem State.KeepsQueue.enqueue {s : State} {e : Entry} (ho : e.onLine = false) (he : e.errors ≤ 3)
    (ha : waitingAnnounce e = true → s.link.queue.any waitingAnnounce = false) : s.KeepsQueue (s.enqueue e) := by
  have dropped : s.KeepsQueue (s.congest.reportLoss e) := .after (State.reportLoss_queueSound _ e) rfl
  unfold State.enqueue
  split
  · next hroom => exact .of_fit (fun h => h.insert hroom ho he ha) id
  · split
    · exact dropped
    · next v hv =>
      refine .ite (.trans (t := s.setQueue (insertByClass e (eraseLastWaiting s.link.queue))) (.of_fit (fun h => ?_) id)
        (.after (State.reportLoss_queueSound _ v) rfl)) dropped
      have hsub := eraseLastWaiting_sublist s.link.queue
      have hlength := eraseLastWaiting_length ⟨v, lastWaiting_waits hv⟩
      have := h.size
      refine (h.sublist hsub).insert (by omega) ho he fun hw => List.any_eq_false.mpr fun x hx => ?_
      exact List.any_eq_false.mp (ha hw) x (hsub.subset hx)

/-- A frame other than an ANNOUNCE, as a block forms it. -/
theorem State.KeepsQueue.enqueueNew (s : State) {cls : FrameClass} (kind : Byte) (payload : List Byte) (purpose : Purpose)
    (h : cls ≠ .announce) : s.KeepsQueue (s.enqueue (newEntry cls kind payload purpose)) :=
  .enqueue rfl (Nat.zero_le 3) fun hw => by simp [waitingAnnounce, newEntry, h] at hw

/-- A change of the claim unit and a claim frame handed over for it. -/
theorem State.KeepsQueue.queueClaim (s : State) (c : ClaimUnit) (kind : Byte) (payload : List Byte) :
    s.KeepsQueue (({ s with claims := c } : State).enqueue (newEntry .claim kind payload .plain)) :=
  .after (.enqueueNew _ _ _ _ nofun) rfl

theorem State.enqueueJoinDone_queueSound (s : State) (r : JoinResult) : s.KeepsQueue (s.enqueue (joinDoneFrame r)) := by
  cases r <;> exact .enqueueNew s _ _ _ nofun

theorem State.queueJoinDone_queueSound (s : State) (r : JoinResult) : s.KeepsQueue (s.queueJoinDone r) :=
  .after (State.enqueueJoinDone_queueSound _ r) rfl

theorem State.enqueueNotice_queueSound (s t : State) : s.KeepsQueue (s.enqueue t.fireNotice) := .enqueueNew s _ _ _ nofun

theorem State.reply_queueSound (s : State) (kind : Byte) (result : ReplyResult) (data : List Byte) :
    s.KeepsQueue (s.reply kind result data) := .enqueueNew s _ _ _ nofun

theorem State.enqueueAnnounce_queueSound (s : State) : s.KeepsQueue s.enqueueAnnounce := by
  unfold State.enqueueAnnounce
  split
  · refine .of_fit (fun h => ?_) id
    rw [State.setQueue_link_queue, replaceAnnounce_eq_map h.announces]
    refine h.map fun e _ => ?_
    split
    · next he =>
      simp only [waitingAnnounce, Bool.and_eq_true, beq_iff_eq, Bool.not_eq_true'] at he
      exact ⟨he.1.symm, he.2.symm, Nat.zero_le _⟩
    · exact ⟨rfl, rfl, le_rfl⟩
  · next hnone => exact .enqueue rfl (Nat.zero_le 3) fun _ => by simpa using hnone

/-- A purpose given another name leaves the queue as the invariant sees it. -/
theorem QueueFit.retag {q : List Entry} (h : QueueFit q) (old new : Purpose) : QueueFit (retag old new q) :=
  h.map fun e _ => by split <;> exact ⟨rfl, rfl, le_rfl⟩

theorem State.cancelRestart_queueSound (s : State) : s.KeepsQueue s.cancelRestart :=
  .ite (.of_fit (fun h => h.retag _ _) id) (.refl s)

theorem State.setConn_queueSound (s : State) (st : ConnState) : s.KeepsQueue (s.setConn st) :=
  .after (State.cancelRestart_queueSound _) rfl

theorem State.setFire_queueSound (s : State) (st : FireState) : s.KeepsQueue (s.setFire st) :=
  .after (State.cancelRestart_queueSound _) rfl

theorem State.setMembers_queueSound (s : State) (m : List (Nat × Nat)) : s.KeepsQueue (s.setMembers m) :=
  .ite (.refl s) (.of_read rfl)

theorem State.emptyBalance_queueSound (s : State) : s.KeepsQueue s.emptyBalance := s.setMembers_queueSound []

/-! ### The own join claim and the sequencer -/

theorem State.joinClaim_queueSound (s : State) : s.KeepsQueue s.joinClaim := by
  refine .ite ?_ (.refl s)
  split
  case h_1 => exact .queueClaim s _ _ _
  all_goals exact .of_read rfl

theorem State.joinRelease_queueSound (s : State) (r : JoinResult) : s.KeepsQueue (s.joinRelease r) := by
  unfold State.joinRelease
  split
  case h_3 => exact s.queueJoinDone_queueSound r
  all_goals exact .of_read rfl

theorem State.seqRelease_queueSound (s : State) (r : JoinResult) : s.KeepsQueue (s.seqRelease r) :=
  (s.joinRelease_queueSound r).trans (.of_read rfl)

theorem State.abandonCheck_queueSound (s : State) : s.KeepsQueue s.abandonCheck := .of_fit (fun h => h.retag _ _) id

theorem State.leaveWaitToken_queueSound (s : State) (st : ConnState) : s.KeepsQueue (s.leaveWaitToken st) :=
  s.abandonCheck_queueSound.trans (State.setConn_queueSound _ st)

/-- A change of the sequencer with its state. -/
theorem State.KeepsQueue.sequence (s : State) (x : Connection) (st : ConnState) :
    s.KeepsQueue (({ s with conn := x } : State).setConn st) := .after (State.setConn_queueSound _ st) rfl

theorem State.enterWelded_queueSound (s : State) : s.KeepsQueue s.enterWelded := .sequence s _ _

theorem State.finishOpening_queueSound (s : State) : s.KeepsQueue s.finishOpening := .sequence s _ _

theorem State.enterOpening_queueSound (s : State) (d : ConnState) : s.KeepsQueue (s.enterOpening d) :=
  .ite ((State.KeepsQueue.sequence s _ _).trans (State.finishOpening_queueSound _)) (.sequence s _ _)

theorem State.forcedLeave_queueSound (s : State) : s.KeepsQueue s.forcedLeave := by
  have opened : ∀ d, s.KeepsQueue ((s.enterOpening d).seqRelease .failed) := fun d =>
    (s.enterOpening_queueSound d).trans (State.seqRelease_queueSound _ _)
  have left : s.KeepsQueue ((s.leaveWaitToken .openRack).seqRelease .failed) :=
    (s.leaveWaitToken_queueSound _).trans (State.seqRelease_queueSound _ _)
  unfold State.forcedLeave
  split
  case h_1 | h_2 | h_3 | h_4 => exact opened _
  case h_5 => exact left
  all_goals exact .refl s

theorem State.reviewForced_queueSound (s : State) : s.KeepsQueue s.reviewForced := .ite s.forcedLeave_queueSound (.refl s)

theorem State.prechargeFailure_queueSound (s : State) : s.KeepsQueue s.prechargeFailure :=
  .after (t := { s with conn := { s.conn with prechFail := true, failCount := s.conn.failCount + 1, failHold := some 60000 } })
    ((State.enterOpening_queueSound _ _).trans (State.seqRelease_queueSound _ _)) rfl

theorem State.enterJoined_queueSound (s : State) : s.KeepsQueue s.enterJoined :=
  (State.KeepsQueue.sequence s _ _).trans (State.seqRelease_queueSound _ _)

theorem State.enterClosing_queueSound (s : State) : s.KeepsQueue s.enterClosing :=
  .ite ((State.KeepsQueue.sequence s _ _).trans (State.enterJoined_queueSound _)) (.sequence s _ _)

theorem State.enterPrecharge_queueSound (s : State) : s.KeepsQueue s.enterPrecharge :=
  .ite ((State.KeepsQueue.sequence s _ _).trans (.of_read rfl)) (.sequence s _ _)

theorem State.finishLeave_queueSound (s : State) : s.KeepsQueue s.finishLeave := .sequence s _ _

theorem State.leaveStep3_queueSound (s : State) : s.KeepsQueue s.leaveStep3 :=
  .ite (.after (State.finishLeave_queueSound _) rfl) (.of_read rfl)

theorem State.leaveStep2_queueSound (s : State) : s.KeepsQueue s.leaveStep2 :=
  .ite (.after (State.leaveStep3_queueSound _) rfl) (.of_read rfl)

theorem State.enterLeaving_queueSound (s : State) (c : ConfigSet) : s.KeepsQueue (s.enterLeaving c) :=
  .ite ((State.KeepsQueue.sequence s _ _).trans (State.leaveStep2_queueSound _)) (.sequence s _ _)

theorem State.windowSuccess_queueSound (s : State) (w : WindowUse) : s.KeepsQueue (s.windowSuccess w) := by
  cases w with
  | proving => exact .of_read rfl
  | negClose => exact .of_read rfl
  | posClose => exact s.enterJoined_queueSound
  | opening => exact s.finishOpening_queueSound
  | leavePos => exact s.leaveStep3_queueSound
  | leaveNeg => exact s.finishLeave_queueSound

theorem State.windowFailure_queueSound (s : State) (w : WindowUse) : s.KeepsQueue (s.windowFailure w) := by
  cases w with
  | proving => exact .sequence s _ _
  | negClose => exact s.prechargeFailure_queueSound
  | posClose => exact s.prechargeFailure_queueSound
  | opening => exact .sequence s _ _
  | leavePos => exact s.enterWelded_queueSound
  | leaveNeg => exact s.enterWelded_queueSound

theorem State.testWindow_queueSound (s : State) : s.KeepsQueue s.testWindow := by
  unfold State.testWindow
  split
  · exact .refl s
  · exact .ite (s.windowSuccess_queueSound _) (.refl s)

theorem State.judgeClaim_queueSound (s : State) (c : ConfigSet) : s.KeepsQueue (s.judgeClaim c) := by
  unfold State.judgeClaim
  exact .ite (.ite ((State.KeepsQueue.sequence s _ _).trans (State.joinClaim_queueSound _)) (.of_read rfl)) (.refl s)

theorem State.sequencerCompletion_queueSound (s : State) (c : ConfigSet) (good0 : Bool) :
    s.KeepsQueue (s.sequencerCompletion c good0) := by
  unfold State.sequencerCompletion
  split
  · exact s.judgeClaim_queueSound c
  · exact .ite s.enterClosing_queueSound (.refl s)
  · exact .ite s.leaveStep2_queueSound (.refl s)
  all_goals exact .refl s

/-! ### The token -/

theorem State.tokenLost_queueSound (s : State) (g : Bool) : s.KeepsQueue (s.tokenLost g) :=
  .after (t := s.syncToken) (.ite
    (.ite (State.prechargeFailure_queueSound _) (State.forcedLeave_queueSound _))
    (.ite (State.abandonCheck_queueSound _) (.refl _))) rfl

theorem State.joinReleaseByOther_queueSound (s : State) (g : Bool) : s.KeepsQueue (s.joinReleaseByOther g) :=
  (s.joinRelease_queueSound .failed).trans (.ite
    (.ite (.refl _) ((State.leaveWaitToken_queueSound _ _).trans (.of_read rfl)))
    (.ite (State.tokenLost_queueSound _ _) (.refl _)))

theorem State.startCheck_queueSound (s : State) : s.KeepsQueue s.startCheck := .after (.enqueueNew _ _ _ _ nofun) rfl

theorem State.signalToken_queueSound (s : State) : s.KeepsQueue s.signalToken :=
  .ite (.refl s) (.ite (.ite (.after (State.startCheck_queueSound _) rfl) (.of_read rfl)) (s.tokenLost_queueSound _))

theorem State.changeJoin_queueSound (s : State) (f : List Nat → List Nat) : s.KeepsQueue (s.changeJoin f) :=
  .after (State.signalToken_queueSound _) rfl

/-! ### The heater -/

theorem State.slotSignal_queueSound (s : State) : s.KeepsQueue s.slotSignal :=
  .ite (.refl s) (.ite (.ite (.of_read rfl) (.of_read rfl)) (.ite (.of_read rfl) (.of_read rfl)))

theorem State.evalSlot_queueSound (s : State) : s.KeepsQueue s.evalSlot :=
  .ite ((s.slotSignal_queueSound.trans (.queueClaim _ _ _ _)).trans (State.slotSignal_queueSound _)) s.slotSignal_queueSound

theorem State.changeHeat_queueSound (s : State) (f : List Nat → List Nat) : s.KeepsQueue (s.changeHeat f) :=
  .after (State.evalSlot_queueSound _) rfl

theorem State.setLimit_queueSound (s : State) (l : Nat) : s.KeepsQueue (s.setLimit l) :=
  .after (State.evalSlot_queueSound _) rfl

theorem State.heatClaim_queueSound (s : State) : s.KeepsQueue s.heatClaim := by
  refine .ite ?_ (.refl s)
  split
  case h_1 => exact .queueClaim s _ _ _
  all_goals exact .of_read rfl

theorem State.heatRelease_queueSound (s : State) : s.KeepsQueue s.heatRelease := by
  unfold State.heatRelease
  split
  case h_3 => exact .trans (.queueClaim s _ _ _) (State.evalSlot_queueSound _)
  all_goals exact .of_read rfl

theorem State.judgeSoak_queueSound (s : State) : s.KeepsQueue s.judgeSoak := by
  unfold State.judgeSoak
  split <;> exact .of_read rfl

theorem State.judgeRecovery_queueSound (s : State) : s.KeepsQueue s.judgeRecovery := by
  unfold State.judgeRecovery
  split <;> exact .of_read rfl

theorem State.setThermal_queueSound (s : State) (st : ThermalState) : s.KeepsQueue (s.setThermal st) := .of_read rfl

theorem State.setLevel_queueSound (s : State) (k : Nat) : s.KeepsQueue (s.setLevel k) :=
  have levelled : s.KeepsQueue { s with thermal := { s.thermal with level := k } } := .of_read rfl
  .ite (.refl s) ((levelled.trans (.ite (State.emptyBalance_queueSound _) (.refl _))).trans (State.judgeSoak_queueSound _))

theorem State.beginDemand_queueSound (s : State) : s.KeepsQueue s.beginDemand := .after (State.heatClaim_queueSound _) rfl

theorem State.endDemand_queueSound (s : State) : s.KeepsQueue s.endDemand :=
  .ite (.after (State.heatRelease_queueSound _) rfl) (.refl s)

theorem State.enterInhibited_queueSound (s : State) : s.KeepsQueue s.enterInhibited :=
  (s.endDemand_queueSound.trans (State.setThermal_queueSound _ _)).trans (State.setLevel_queueSound _ _)

theorem State.leaveInhibited_queueSound (s : State) : s.KeepsQueue s.leaveInhibited := by
  unfold State.leaveInhibited
  split
  · exact .refl s
  · exact ((s.setLevel_queueSound _).trans (State.setThermal_queueSound _ _)).trans
      (.ite (State.beginDemand_queueSound _) (.refl _))

theorem State.thermalReview_queueSound (s : State) : s.KeepsQueue s.thermalReview :=
  .ite (.refl s) (.ite
    (.ite (s.setLevel_queueSound _) s.enterInhibited_queueSound)
    (.ite s.leaveInhibited_queueSound (.refl s)))

theorem State.completionHeating_queueSound (s : State) (c : ConfigSet) : s.KeepsQueue (s.completionHeating c) :=
  (s.setLevel_queueSound 0).trans (.ite
    (.ite ((State.endDemand_queueSound _).trans (State.setThermal_queueSound _ _)) (State.heatClaim_queueSound _))
    (.ite (State.beginDemand_queueSound _) (State.setThermal_queueSound _ _)))

theorem State.completionCooling_queueSound (s : State) (k : Nat) : s.KeepsQueue (s.completionCooling k) :=
  (s.endDemand_queueSound.trans (State.setThermal_queueSound _ _)).trans (State.setLevel_queueSound _ _)

theorem State.thermalCompletion_queueSound (s : State) (c : ConfigSet) : s.KeepsQueue (s.thermalCompletion c) := by
  have level : ∀ t : State, t.KeepsQueue (t.completionLevel c) := fun t =>
    .ite (.refl t) (.ite (t.completionHeating_queueSound c) (t.completionCooling_queueSound _))
  exact .trans (.trans (.after (level s.takeInlet) rfl) (State.judgeSoak_queueSound _)) (State.judgeRecovery_queueSound _)

end Sys2Proof.Machine
namespace Sys2Proof.Machine

open Sys2Proof

end Sys2Proof.Machine

namespace Sys2Proof.Machine

open Sys2Proof

/-! ### The fire state -/

theorem State.setCountdown_queueSound (s : State) (x : Timer) : s.KeepsQueue (s.setCountdown x) := .of_read rfl

theorem State.setRepeat_queueSound (s : State) (x : Timer) : s.KeepsQueue (s.setRepeat x) := .of_read rfl

theorem State.setFireLines_queueSound (s : State) (r f t : Bool) : s.KeepsQueue (s.setFireLines r f t) := .of_read rfl

theorem State.enterReleased_queueSound (s : State) : s.KeepsQueue s.enterReleased :=
  (((s.setFire_queueSound .released).trans (State.setCountdown_queueSound _ _)).trans
    (State.setFireLines_queueSound _ _ _ _)).trans (State.enqueueNotice_queueSound _ _)

theorem State.enterReleaseDelay_queueSound (s : State) : s.KeepsQueue s.enterReleaseDelay :=
  .ite ((s.setFire_queueSound _).trans (State.setCountdown_queueSound _ _)) (.ite s.enterReleased_queueSound
    ((s.setFire_queueSound _).trans (State.setCountdown_queueSound _ _)))

theorem State.reviewInhibit_queueSound (s : State) : s.KeepsQueue s.reviewInhibit := by
  have back : s.KeepsQueue (if s.inhibited then (s.setFire .alarm).setCountdown none else s) :=
    .ite ((s.setFire_queueSound _).trans (State.setCountdown_queueSound _ _)) (.refl s)
  unfold State.reviewInhibit
  split
  · exact .ite (.refl s) s.enterReleaseDelay_queueSound
  · exact back
  · exact back
  all_goals exact .refl s

/-- The drops under container fire and in SAFE (R46, R83, R84). -/
theorem State.released_queueSound (s : State) :
    s.KeepsQueue ((s.emptyBalance.joinReleaseByOther false).heatRelease).thermalReview :=
  s.emptyBalance_queueSound.trans
    (((State.joinReleaseByOther_queueSound _ _).trans (State.heatRelease_queueSound _)).trans (State.thermalReview_queueSound _))

theorem State.setContainerFire_queueSound (s : State) : s.KeepsQueue s.setContainerFire :=
  .ite (.refl s) (.after (State.released_queueSound _) rfl)

theorem State.evaluateContainerFire_queueSound (s : State) : s.KeepsQueue s.evaluateContainerFire :=
  .ite (.after (State.thermalReview_queueSound _) rfl) (.refl s)

theorem State.queueCall_queueSound (s : State) : s.KeepsQueue s.queueCall := by
  unfold State.queueCall
  split
  · exact .refl s
  · exact .after (.enqueueNew _ _ _ _ nofun) rfl

theorem State.enterAlarm_queueSound (s : State) : s.KeepsQueue s.enterAlarm := by
  have entered : s.KeepsQueue ((s.setRepeat none).setFire .alarm) := .after (State.setFire_queueSound _ _) rfl
  have noticed : ∀ t : State, t.KeepsQueue ((t.enqueue t.fireNotice).setFireLines false true true).setContainerFire := fun t =>
    ((t.enqueueNotice_queueSound t).trans (State.setFireLines_queueSound _ _ _ _)).trans (State.setContainerFire_queueSound _)
  have dropped : ∀ t : State, t.KeepsQueue (t.zeroPair.emptyBalance.thermalReview).reviewInhibit := fun t =>
    .after (t := t.zeroPair) (((State.emptyBalance_queueSound _).trans (State.thermalReview_queueSound _)).trans
      (State.reviewInhibit_queueSound _)) rfl
  exact (entered.trans (noticed _)).trans (dropped _)

theorem State.enterPreAlarm_queueSound (s : State) : s.KeepsQueue s.enterPreAlarm :=
  ((s.setFire_queueSound .preAlarm).trans (State.emptyBalance_queueSound _)).trans
    (((State.enqueueNotice_queueSound _ _).trans (State.setRepeat_queueSound _ _)).trans (State.queueCall_queueSound _))

theorem State.returnToNormal_queueSound (s : State) : s.KeepsQueue s.returnToNormal :=
  ((s.setRepeat_queueSound none).trans (State.setFire_queueSound _ _)).trans (State.enqueueNotice_queueSound _ _)

theorem State.judgeSources_queueSound (s : State) (x : Sources) : s.KeepsQueue (s.judgeSources x) := by
  unfold State.judgeSources
  split
  · exact .ite (.ite s.enterAlarm_queueSound s.enterPreAlarm_queueSound) (.refl s)
  · exact .ite s.enterAlarm_queueSound (.ite s.returnToNormal_queueSound (.refl s))
  all_goals exact .refl s

theorem State.reviewZoneKey_queueSound (s : State) : s.KeepsQueue s.reviewZoneKey :=
  .ite (.refl s) (.after (State.reviewInhibit_queueSound _) rfl)

/-! ### SAFE and the end of a command -/

theorem State.enterSafe_queueSound (s : State) : s.KeepsQueue s.enterSafe := .after (State.released_queueSound _) rfl

theorem State.setDuplicateId_queueSound (s : State) : s.KeepsQueue s.setDuplicateId :=
  .after (t := { s with svc := { s.svc with duplicateId := true } }) (.ite (State.enterSafe_queueSound _) (.refl _)) rfl

theorem State.settle_queueSound (s : State) : s.KeepsQueue s.settle :=
  s.reviewForced_queueSound.trans (.of_read rfl)

/-- A reset leaves an empty queue (R182). -/
theorem resetWith_queueSound (lines : Lines) (pending : List Instr) : (State.resetWith lines pending).QueueSound :=
  queueSound_iff.mpr ⟨⟨Nat.zero_le 8, .nil, Nat.zero_le 1, Nat.zero_le 1, nofun⟩, Nat.zero_le 2⟩

/-- The end of a command keeps the queue sound, be it the judgements or a reset. -/
theorem finish_queueSound {s t : State} (hs : s.QueueSound) (ht : s.finish = .next t) : t.QueueSound := by
  obtain rfl := Host.Outcome.next.inj ht
  split
  · exact resetWith_queueSound _ _
  · exact s.settle_queueSound hs

/-! ### The receiver -/

theorem State.receive_queueSound {s : State} {act : State → State} (h : ∀ t, State.KeepsQueue t (act t)) :
    s.KeepsQueue (s.receive act) := .ite (.ite (.of_read rfl) (.after (h _) rfl)) (.refl s)

theorem State.receiveKind_queueSound {s : State} {act : State → State} (payload : List Byte) (n : Nat)
    (h : ∀ t, State.KeepsQueue t (act t)) : s.KeepsQueue (s.receiveKind payload n act) :=
  State.receive_queueSound fun t => .ite (h t) (.refl t)

theorem State.takeRequest_queueSound {s : State} {act : List Byte → State → State} (sender : BitVec 5) (payload : List Byte)
    (h : ∀ args t, State.KeepsQueue t (act args t)) : s.KeepsQueue (s.takeRequest sender payload act) :=
  State.receive_queueSound fun t => by
    split
    · exact .refl t
    · exact .ite (h _ t) (.refl t)

theorem State.judgeRequest_queueSound {s : State} {act : State → State} (kind : Byte) (args : List Byte) (n : Nat)
    (modeOk : Mode → Bool) (h : s.KeepsQueue (act s)) : s.KeepsQueue (s.judgeRequest kind args n modeOk act) :=
  .ite (s.reply_queueSound _ _ _) (.ite h (s.reply_queueSound _ _ _))

/-! ### The module chain -/

theorem State.storeReply_queueSound (s : State) (p : Nat) (body : ReplyBody) : s.KeepsQueue (s.storeReply p body) := by
  cases body <;> exact .of_read rfl

theorem State.startScan_queueSound (s : State) : s.KeepsQueue s.startScan := .of_read rfl

/-- A completion queues what the thermal controller and the sequencer ask for (R94, R129, R136). -/
theorem State.completeScan_queueSound (s : State) (c : ConfigSet) (stop : Option Nat) (goods bad : List Nat) :
    s.KeepsQueue (s.completeScan c stop goods bad) := by
  have rebuilt : s.KeepsQueue ((s.paired c stop goods bad).rebuildBalance c) :=
    .after (t := (s.paired c stop goods bad).taken) (rebuildBalance_eq _ c ▸ State.setMembers_queueSound _ _) rfl
  have evaluated : s.KeepsQueue (s.evaluated c stop goods bad) := rebuilt.trans (State.thermalCompletion_queueSound _ c)
  rw [completeScan_eq]
  exact (evaluated.trans ((State.reviewForced_queueSound _).trans (State.sequencerCompletion_queueSound _ c _))).trans
    (.ite (.of_read rfl) (.refl _))

theorem State.continueScan_queueSound (s : State) (c : ConfigSet) (p : Nat) (goods bad : List Nat) :
    s.KeepsQueue (s.continueScan c p goods bad) := .ite (.of_read rfl) (s.completeScan_queueSound c _ _ _)

theorem State.endTransaction_queueSound (s : State) (c : ConfigSet) (r : ScanRun) (body : ReplyBody)
    (o : TransactionOutcome) : s.KeepsQueue (s.endTransaction c r body o) := by
  cases o with
  | good => exact (s.storeReply_queueSound _ _).trans (State.continueScan_queueSound _ c _ _ _)
  | checkFail => exact s.continueScan_queueSound c _ _ _
  | noReply => exact s.completeScan_queueSound c _ _ _
  | wrongPosition => exact s.completeScan_queueSound c _ _ _

theorem State.tryResult_queueSound (s : State) (c : ConfigSet) (r : ScanRun) (body : ReplyBody) (x : TryResult) :
    s.KeepsQueue (s.tryResult c r body x) := by
  have ended : ∀ replied, s.KeepsQueue (s.endTry c r replied) := fun replied =>
    .ite (.of_read rfl) (s.endTransaction_queueSound c _ _ _)
  cases x with
  | good => exact s.endTransaction_queueSound c r body .good
  | wrongPosition => exact s.endTransaction_queueSound c r body .wrongPosition
  | badCheck => exact ended _
  | noReply => exact ended _

theorem State.replyArrives_queueSound (s : State) (reply : ChainReply) : s.KeepsQueue (s.replyArrives reply) := by
  unfold State.replyArrives
  split
  · exact s.tryResult_queueSound _ _ _ _
  · exact .refl s

theorem State.replyWaitExpires_queueSound (s : State) : s.KeepsQueue s.replyWaitExpires := by
  unfold State.replyWaitExpires
  split
  · exact s.tryResult_queueSound _ _ _ _
  · exact .refl s

theorem State.scanInterval_queueSound (s : State) : s.KeepsQueue s.scanInterval :=
  .ite (.ite (.of_read rfl) s.startScan_queueSound) (.refl s)

/-! ### Start-up -/

theorem State.leaveLoading_queueSound (s : State) (period : Nat) : s.KeepsQueue (s.leaveLoading period) :=
  .after ((State.thermalReview_queueSound _).trans (State.enqueueAnnounce_queueSound _)) rfl

theorem State.gridAsserted_queueSound (s : State) (c : ConfigSet) : s.KeepsQueue (s.gridAsserted c) := by
  unfold State.gridAsserted
  split <;> exact .of_read rfl

theorem State.setDegraded_queueSound (s : State) (b : Bool) : s.KeepsQueue (s.setDegraded b) := .of_read rfl

theorem State.enterListening_queueSound (s : State) (c : ConfigSet) : s.KeepsQueue (s.enterListening c) := by
  have listening : s.KeepsQueue { s with
      svc := { s.svc with mode := .listening, config := some c, siteCap := c.irackMax, apCount := 0 }
      claims := { s.claims with limit := c.heatLimitIsland }
      chain := { s.chain with scanTimer := some 100 }
      env := { s.env with runawayTimer := some 1000 } } := .of_read rfl
  have degraded : ∀ t : State, t.KeepsQueue (if t.lines.chillerFault then t.setDegraded true else t) := fun t =>
    .ite (t.setDegraded_queueSound true) (.refl t)
  have healthy : ∀ t : State, t.KeepsQueue (if t.lines.gridHealthy then t.gridAsserted c else t) := fun t =>
    .ite (t.gridAsserted_queueSound c) (.refl t)
  exact .trans (.trans (listening.trans ((State.evalSlot_queueSound _).trans
    ((State.leaveLoading_queueSound _ _).trans (State.startScan_queueSound _)))) (degraded _)) (healthy _)

theorem State.loadConfig_queueSound (s : State) (image : List Byte) : s.KeepsQueue (s.loadConfig image) := by
  refine .ite ?_ (.refl s)
  split
  · exact s.enterListening_queueSound _
  · exact .after (State.leaveLoading_queueSound _ _) rfl

/-! ### The fire unit, the heater and the grid -/

theorem State.sampleLoops_queueSound (s : State) (a b : Nat) : s.KeepsQueue (s.sampleLoops a b) :=
  .ite (.after (State.judgeSources_queueSound _ _) rfl) (.refl s)

theorem State.sampleRunaway_queueSound (s : State) : s.KeepsQueue s.sampleRunaway := by
  unfold State.sampleRunaway
  split
  · exact .refl s
  · exact .ite (.after (State.judgeSources_queueSound _ _) rfl) (.refl s)

theorem State.countdownExpires_queueSound (s : State) : s.KeepsQueue s.countdownExpires := by
  unfold State.countdownExpires
  split
  · exact s.enterReleased_queueSound
  · exact .refl s

theorem State.repeatExpires_queueSound (s : State) : s.KeepsQueue s.repeatExpires :=
  .ite (.after (State.queueCall_queueSound _) rfl) (.refl s)

theorem State.abortChange_queueSound (s : State) (b : Bool) : s.KeepsQueue (s.abortChange b) := by
  refine .trans (t := { s with lines := { s.lines with abort := b } }) (.of_read rfl) ?_
  unfold State.abortChange
  dsimp only
  split
  · exact .ite ((State.setFire_queueSound _ _).trans (.of_read rfl)) (.refl _)
  · exact .ite (.refl _) (State.enterReleaseDelay_queueSound _)
  all_goals exact .refl _

theorem State.keyChange_queueSound (s : State) (b : Bool) : s.KeepsQueue (s.keyChange b) :=
  .after (t := { s with lines := { s.lines with key := b } })
    (.ite (.refl _) (.after (State.reviewInhibit_queueSound _) rfl)) rfl

theorem State.chillerFaultChange_queueSound (s : State) (b : Bool) : s.KeepsQueue (s.chillerFaultChange b) :=
  .after (t := { s with lines := { s.lines with chillerFault := b } })
    (.ite (.trans (.ite (State.setDegraded_queueSound _ _) (.refl _)) (State.judgeRecovery_queueSound _)) (.refl _)) rfl

theorem State.heatSoakExpire_queueSound (s : State) : s.KeepsQueue s.heatSoakExpire :=
  .ite (s.setDegraded_queueSound true) (.refl s)

theorem State.recoveryExpire_queueSound (s : State) : s.KeepsQueue s.recoveryExpire :=
  .ite (s.setDegraded_queueSound false) (.refl s)

theorem State.gridReleased_queueSound (s : State) (c : ConfigSet) : s.KeepsQueue (s.gridReleased c) := by
  unfold State.gridReleased
  split
  · exact .refl s
  · exact .of_read rfl
  · exact .after (State.setLimit_queueSound _ _) rfl

theorem State.gridChange_queueSound (s : State) (b : Bool) : s.KeepsQueue (s.gridChange b) := by
  refine .trans (t := { s with lines := { s.lines with gridHealthy := b } }) (.of_read rfl) ?_
  unfold State.gridChange
  dsimp only
  split
  · exact .refl _
  · exact .ite (.ite (State.gridAsserted_queueSound _ _) (State.gridReleased_queueSound _ _)) (.refl _)

theorem State.reconnectExpires_queueSound (s : State) : s.KeepsQueue s.reconnectExpires := by
  unfold State.reconnectExpires
  split
  · exact .refl s
  · exact .ite (.after (State.setLimit_queueSound _ _) rfl) (.refl s)

end Sys2Proof.Machine

namespace Sys2Proof.Machine

open Sys2Proof

end Sys2Proof.Machine

namespace Sys2Proof.Machine

open Sys2Proof

/-! ### The queue at the peers' frames and the announcement period -/

theorem State.fireReported_queueSound (s : State) (f : FireState) : s.KeepsQueue (s.fireReported f) :=
  .ite s.setContainerFire_queueSound (.refl s)

/-- A change of the peer table. -/
theorem State.setTable_queueSound (s : State) (l : List PeerRecord) : s.KeepsQueue (s.setTable l) := .of_read rfl

theorem State.takeAnnounce_queueSound (s : State) (n : Nat) (p : List Byte) : s.KeepsQueue (s.takeAnnounce n p) := by
  have repaired : ∀ (t : State) (f g : List Nat → List Nat), t.KeepsQueue ((t.changeJoin f).changeHeat g) := fun t f g =>
    (t.changeJoin_queueSound f).trans (State.changeHeat_queueSound _ g)
  have confirmed : ∀ t : State, t.KeepsQueue t.confirmByPeer := fun t => .ite t.enterAlarm_queueSound (.refl t)
  exact .ite ((((s.setTable_queueSound _).trans (repaired _ _ _)).trans (State.reviewZoneKey_queueSound _)).trans
      ((State.fireReported_queueSound _ _).trans (confirmed _)))
    (.ite ((s.fireReported_queueSound _).trans (State.setDuplicateId_queueSound _)) (.refl s))

theorem State.noticeToFireUnit_queueSound (s : State) (zone : Nat) (f : FireState) :
    s.KeepsQueue (s.noticeToFireUnit zone f) := by
  have followed : s.KeepsQueue
      (if f = .released ∧ zone = s.ownZone ∧ s.fire.serviceKey = false then s.enterReleased else s) :=
    .ite s.enterReleased_queueSound (.refl s)
  unfold State.noticeToFireUnit
  split
  · exact .ite s.enterAlarm_queueSound (.ite s.queueCall_queueSound (.refl s))
  · exact followed
  · exact followed
  · exact followed
  all_goals exact .refl s

theorem State.takeFireNotice_queueSound (s : State) (n : Nat) (p : List Byte) : s.KeepsQueue (s.takeFireNotice n p) :=
  .ite (((s.setTable_queueSound _).trans (State.reviewZoneKey_queueSound _)).trans
      ((State.fireReported_queueSound _ _).trans (State.noticeToFireUnit_queueSound _ _ _)))
    (.ite (s.fireReported_queueSound _) (.refl s))

theorem State.requeueJoin_queueSound (s : State) : s.KeepsQueue s.requeueJoin := by
  refine .ite (.after (t := { s with claims := { s.claims with join := { s.claims.join with requeue := false } } })
    ?_ rfl) (.refl s)
  dsimp only
  split
  · exact .enqueueNew _ _ _ _ nofun
  · exact State.enqueueJoinDone_queueSound _ _
  all_goals exact .refl _

theorem State.requeueHeat_queueSound (s : State) : s.KeepsQueue s.requeueHeat := by
  refine .ite (.after (t := { s with claims := { s.claims with heat := { s.claims.heat with requeue := false } } })
    ?_ rfl) (.refl s)
  dsimp only
  split
  case h_1 | h_2 => exact .enqueueNew _ _ _ _ nofun
  all_goals exact .refl _

theorem State.enterActive_queueSound (s : State) : s.KeepsQueue s.enterActive := by
  have proving : ∀ t : State, t.KeepsQueue t.startProving := fun _ => .after (State.testWindow_queueSound _) rfl
  exact .after (t := { s with svc := { s.svc with mode := .active, apCount := 0 } })
    ((proving _).trans (State.thermalReview_queueSound _)) rfl

theorem State.countAp_queueSound (s : State) : s.KeepsQueue s.countAp :=
  .ite (.ite s.enterActive_queueSound (.of_read rfl)) (.refl s)

theorem State.apExpires_queueSound (s : State) : s.KeepsQueue s.apExpires := by
  have swept : s.KeepsQueue s.ageAndSweep :=
    ((s.setTable_queueSound _).trans (State.reviewZoneKey_queueSound _)).trans
      ((State.changeJoin_queueSound _ _).trans (State.changeHeat_queueSound _ _))
  have checked : ∀ t : State, t.KeepsQueue t.requeueCheck := fun t => .ite t.startCheck_queueSound (.refl t)
  have judged : ∀ t : State, t.KeepsQueue t.judgeCongestion := fun t => .ite (.of_read rfl) (.refl t)
  exact .ite ((swept.trans ((State.requeueJoin_queueSound _).trans ((State.requeueHeat_queueSound _).trans (checked _)))).trans
    ((State.enqueueAnnounce_queueSound _).trans ((judged _).trans (State.countAp_queueSound _)))) (.refl s)

/-! ### Claim frames and timers -/

theorem State.takeJoinClaim_queueSound (s : State) (n : Nat) : s.KeepsQueue (s.takeJoinClaim n) :=
  .ite (s.changeJoin_queueSound _) (.refl s)

theorem State.takeJoinDone_queueSound (s : State) (n : Nat) : s.KeepsQueue (s.takeJoinDone n) :=
  .ite (s.changeJoin_queueSound _) (.refl s)

theorem State.takeHeatClaim_queueSound (s : State) (n : Nat) : s.KeepsQueue (s.takeHeatClaim n) :=
  .ite (s.changeHeat_queueSound _) (.refl s)

theorem State.takeHeatRelease_queueSound (s : State) (n : Nat) : s.KeepsQueue (s.takeHeatRelease n) :=
  .ite (s.changeHeat_queueSound _) (.refl s)

theorem State.headExpires_queueSound (s : State) : s.KeepsQueue s.headExpires := by
  unfold State.headExpires
  split
  · exact .after (t := { s with claims := { s.claims with headTimer := none } })
      (.ite (.ite (State.joinReleaseByOther_queueSound _ _) (.refl _)) (State.changeJoin_queueSound _ _)) rfl
  · exact .refl s

theorem State.holdExpires_queueSound (s : State) : s.KeepsQueue s.holdExpires := by
  unfold State.holdExpires
  split
  · exact .after (State.evalSlot_queueSound _) rfl
  all_goals exact .refl s

theorem State.ownJoinClaimDone_queueSound (s : State) : s.KeepsQueue s.ownJoinClaimDone := by
  refine .after (t := s.setJoinEntries (appendAbsent s.ownNumber s.claims.join.entries)) ?_ rfl
  unfold State.ownJoinClaimDone
  dsimp only
  split
  · exact .after (State.signalToken_queueSound _) rfl
  · exact .queueClaim _ _ _ _
  all_goals exact State.signalToken_queueSound _

theorem State.ownJoinDoneDone_queueSound (s : State) : s.KeepsQueue s.ownJoinDoneDone := by
  refine .after (t := s.setJoinEntries (removeNumber s.ownNumber s.claims.join.entries)) ?_ rfl
  unfold State.ownJoinDoneDone
  dsimp only
  split
  · exact .after (State.signalToken_queueSound _) rfl
  · exact .trans (.queueClaim _ _ _ _) (State.signalToken_queueSound _)
  all_goals exact State.signalToken_queueSound _

theorem State.ownHeatClaimDone_queueSound (s : State) : s.KeepsQueue s.ownHeatClaimDone := by
  refine .after (t := s.setHeatEntries (appendAbsent s.ownNumber s.claims.heat.entries)) ?_ rfl
  unfold State.ownHeatClaimDone
  dsimp only
  split
  · exact .after (State.evalSlot_queueSound _) rfl
  · exact .trans (.queueClaim _ _ _ _) (State.evalSlot_queueSound _)
  all_goals exact State.evalSlot_queueSound _

theorem State.ownHeatReleaseDone_queueSound (s : State) : s.KeepsQueue s.ownHeatReleaseDone := by
  refine .after (t := s.setHeatEntries (removeNumber s.ownNumber s.claims.heat.entries)) ?_ rfl
  unfold State.ownHeatReleaseDone
  dsimp only
  split
  · exact .after (State.evalSlot_queueSound _) rfl
  · exact .trans (.queueClaim _ _ _ _) (State.evalSlot_queueSound _)
  all_goals exact State.evalSlot_queueSound _

/-! ### The link -/

theorem State.takeCensusCall_queueSound (s : State) (n : Nat) (p : List Byte) : s.KeepsQueue (s.takeCensusCall n p) :=
  .ite (.of_read rfl) (.refl s)

theorem State.joinedResult_queueSound (s : State) (w : WindowRead) : s.KeepsQueue (s.joinedResult w) := by
  have abandoned : ∀ t : State, t.KeepsQueue t.abandonJoin := fun t =>
    (t.leaveWaitToken_queueSound _).trans (State.seqRelease_queueSound _ _)
  have mismatched : s.KeepsQueue ({ s with conn := { s.conn with mismatch := true } } : State).abandonJoin :=
    .after (abandoned _) rfl
  have precharged : s.KeepsQueue s.enterPrecharge := s.enterPrecharge_queueSound
  unfold State.joinedResult
  split
  · exact .ite (.ite (abandoned s) (.ite (.ite mismatched precharged) (.ite mismatched precharged))) (.refl s)
  · exact .refl s

theorem State.settleGateway_queueSound (s : State) (result : ReplyResult) (data : List Byte) :
    s.KeepsQueue (s.settleGateway result data) := .after (.enqueueNew _ _ _ _ nofun) rfl

theorem State.gatewayResult_queueSound (s : State) (q z : Byte) (w : WindowRead) : s.KeepsQueue (s.gatewayResult q z w) := by
  unfold State.gatewayResult
  split
  · exact .ite (s.settleGateway_queueSound _ _) (.refl s)
  · exact .refl s

theorem State.goodWindow_queueSound (s : State) (a : CensusAnswer) (w : WindowRead) : s.KeepsQueue (s.goodWindow a w) := by
  have own : s.KeepsQueue (s.ownCallGood a.own) := .ite (.of_read rfl) (.refl s)
  have zone : ∀ (t : State) (P : Prop) [Decidable P], t.KeepsQueue (if P then t.zoneResult w else t) := fun t P _ =>
    .ite (.ite t.enterAlarm_queueSound (.refl t)) (.refl t)
  have joined : ∀ (t : State) (P : Prop) [Decidable P], t.KeepsQueue (if P then t.joinedResult w else t) := fun t P _ =>
    .ite (t.joinedResult_queueSound w) (.refl t)
  have removed : ∀ t : State, t.KeepsQueue (t.removeIdentical a.question a.zone) := fun t => by
    have fewer : t.KeepsQueue (t.setQueue (t.link.queue.filter fun e => !identicalCall a.question a.zone e)) :=
      .of_fit (fun h => h.sublist List.filter_sublist) id
    exact .ite (fewer.trans (.of_read rfl)) fewer
  exact (own.trans (zone _ _)).trans ((joined _ _).trans ((removed _).trans (State.gatewayResult_queueSound _ _ _ _)))

theorem State.failedWindow_queueSound (s : State) (a : CensusAnswer) : s.KeepsQueue (s.failedWindow a) := by
  unfold State.failedWindow
  split
  · exact .ite (.enqueueNew s _ _ _ nofun) (.of_read rfl)
  · exact .ite (.refl s) s.startCheck_queueSound
  · exact s.settleGateway_queueSound _ _
  all_goals exact .refl s

theorem State.windowCompletes_queueSound (s : State) (w : WindowRead) : s.KeepsQueue (s.windowCompletes w) := by
  unfold State.windowCompletes
  split
  · exact .refl s
  · exact .after (t := { s with link := { s.link with census := none } })
      (.ite (State.goodWindow_queueSound _ _ _) (State.failedWindow_queueSound _ _)) rfl

/-- The station hears the link exactly while no entry is on the line (R168). -/
theorem hears_iff {s : State} : s.hears = true ↔ ∀ e ∈ s.link.queue, e.onLine = false := by
  simp [State.hears, State.onLine, List.find?_eq_none]

theorem State.attemptStart_queueSound (s : State) (b : Bool) : s.KeepsQueue (s.attemptStart b) := by
  refine .after (t := { s with lines := { s.lines with breakerClosed := b } }) ?_ rfl
  unfold State.attemptStart
  dsimp only
  split
  · next h =>
    have started : ∀ (t : State) (q : List Entry), QueueFit q → (∀ e ∈ q, e.onLine = false) → QueueFit (t.startEntry q) :=
      fun t q hfit silent => by
        cases q with
        | nil => exact hfit
        | cons e q => exact hfit.startHead silent rfl rfl rfl
    exact .of_fit (fun hfit => started _ _ hfit (hears_iff.mp h.1)) id
  · exact .refl _

theorem State.arbitrationLost_queueSound (s : State) : s.KeepsQueue s.arbitrationLost :=
  .ite (.refl s) (.of_fit (fun h => h.offLine (fun _ => rfl) (fun _ => rfl) fun e he _ => h.errors e he) id)

/-- The entry whose attempt ended in a bit error has three errors at most where it waits again (R166). -/
theorem State.bitErrorEntry_queueSound {s : State} {e : Entry} (he : s.onLine = some e) : s.KeepsQueue (s.bitErrorEntry e) := by
  have hmem := List.mem_of_find?_eq_some he
  have hon := List.find?_some he
  unfold State.bitErrorEntry
  split
  · next hlt =>
    refine .of_fit (fun h => h.offLine (fun _ => rfl) (fun _ => rfl) fun x hx hxo => ?_) id
    rw [h.eq_of_onLine hx hxo hmem hon]
    exact hlt
  · exact .trans (t := s.setQueue (dropOnLine s.link.queue)) (.of_fit (fun h => h.sublist List.filter_sublist) id)
      (State.reportLoss_queueSound _ e)

theorem State.headerError_queueSound (s : State) (n : Nat) : s.KeepsQueue (s.headerError n) := by
  have cleared : s.KeepsQueue { s with link := { s.link with headerErrors := 0 } } := .of_fit id fun _ => Nat.zero_le 2
  unfold State.headerError
  split
  · split
    · exact cleared.trans (State.setDuplicateId_queueSound _)
    · next hthird => exact .of_fit id fun (h : s.link.headerErrors ≤ 2) => show s.link.headerErrors + 1 ≤ 2 by omega
  · exact cleared

theorem State.setReception_queueSound (s : State) (r : Reception) : s.KeepsQueue (s.setReception r) := .of_read rfl

theorem State.bitError_queueSound (s : State) (n : Nat) : s.KeepsQueue (s.bitError n) := by
  unfold State.bitError
  split
  · exact .refl s
  · next e he =>
    exact ((State.bitErrorEntry_queueSound he).trans (State.setReception_queueSound _ _)).trans (State.headerError_queueSound _ n)

theorem State.selfReceive_queueSound (s : State) (x : Entry) : s.KeepsQueue (s.selfReceive x) := by
  have due : s.KeepsQueue s.dueRestart := .ite (.of_read rfl) (.refl s)
  unfold State.selfReceive
  split
  · split
    · exact s.ownJoinClaimDone_queueSound
    · exact s.ownJoinDoneDone_queueSound
    · exact s.ownHeatClaimDone_queueSound
    · exact s.ownHeatReleaseDone_queueSound
    · exact .refl s
  · exact .of_read rfl
  · exact .ite due (.refl s)
  all_goals exact .refl s

theorem State.frameCompletes_queueSound (s : State) : s.KeepsQueue s.frameCompletes := by
  unfold State.frameCompletes
  split
  · exact .refl s
  · exact .trans (.of_fit (fun h => h.sublist List.filter_sublist) fun _ => Nat.zero_le 2) (State.selfReceive_queueSound _ _)

theorem State.discardFrame_queueSound (s : State) (r : DiscardReason) : s.KeepsQueue (s.discardFrame r) :=
  .ite (.of_read rfl) (.refl s)

/-! ### The sequencer's inputs and timers -/

theorem State.auxChange_queueSound (s : State) (p n : Bool) : s.KeepsQueue (s.auxChange p n) :=
  .after (State.testWindow_queueSound _) rfl

theorem State.auxWindowExpires_queueSound (s : State) : s.KeepsQueue s.auxWindowExpires := by
  unfold State.auxWindowExpires
  split
  · exact .refl s
  · exact s.windowFailure_queueSound _

theorem State.prechargeExpires_queueSound (s : State) : s.KeepsQueue s.prechargeExpires :=
  .ite s.prechargeFailure_queueSound (.refl s)

theorem State.leaveExpires_queueSound (s : State) : s.KeepsQueue s.leaveExpires :=
  .ite s.leaveStep2_queueSound (.refl s)

/-! ### The gateway's requests -/

theorem State.doReadStatus_queueSound (s : State) (args : List Byte) : s.KeepsQueue (s.doReadStatus args) :=
  State.judgeRequest_queueSound _ _ _ _ (s.reply_queueSound _ _ _)

theorem State.doReadModule_queueSound (s : State) (args : List Byte) : s.KeepsQueue (s.doReadModule args) :=
  State.judgeRequest_queueSound _ _ _ _ (.ite (s.reply_queueSound _ _ _) (s.reply_queueSound _ _ _))

theorem State.setCap_queueSound (s : State) (value : Nat) : s.KeepsQueue (s.setCap value) := by
  unfold State.setCap
  split
  · exact .refl s
  · exact .of_read rfl

theorem State.doSetSiteCap_queueSound (s : State) (args : List Byte) : s.KeepsQueue (s.doSetSiteCap args) :=
  State.judgeRequest_queueSound _ _ _ _ ((s.setCap_queueSound _).trans (State.reply_queueSound _ _ _ _))

theorem State.doHoldJoin_queueSound (s : State) (args : List Byte) : s.KeepsQueue (s.doHoldJoin args) :=
  State.judgeRequest_queueSound _ _ _ _ (.after (State.reply_queueSound _ _ _ _) rfl)

theorem State.doResumeJoin_queueSound (s : State) (args : List Byte) : s.KeepsQueue (s.doResumeJoin args) :=
  State.judgeRequest_queueSound _ _ _ _ (.after (State.reply_queueSound _ _ _ _) rfl)

theorem State.takeOutEffect_queueSound (s : State) (c : ConfigSet) : s.KeepsQueue (s.takeOutEffect c) := by
  unfold State.takeOutEffect
  split
  · exact (s.setConn_queueSound _).trans (State.reply_queueSound _ _ _ _)
  · exact ((s.leaveWaitToken_queueSound _).trans (State.seqRelease_queueSound _ _)).trans (State.reply_queueSound _ _ _ _)
  · exact (s.enterLeaving_queueSound c).trans (State.reply_queueSound _ _ _ _)
  all_goals exact s.reply_queueSound _ _ _

theorem State.doTakeOut_queueSound (s : State) (args : List Byte) : s.KeepsQueue (s.doTakeOut args) :=
  State.judgeRequest_queueSound _ _ _ _ (by
    split
    · exact s.takeOutEffect_queueSound _
    · exact s.reply_queueSound _ _ _)

theorem State.doReturn_queueSound (s : State) (args : List Byte) : s.KeepsQueue (s.doReturn args) :=
  State.judgeRequest_queueSound _ _ _ _
    (.ite ((s.setConn_queueSound _).trans (State.reply_queueSound _ _ _ _)) (s.reply_queueSound _ _ _))

theorem State.doClearLockout_queueSound (s : State) (args : List Byte) : s.KeepsQueue (s.doClearLockout args) := by
  have untripped : s.KeepsQueue s.clearTrip := .ite (.of_read rfl) (.refl s)
  have unlocked : ∀ t : State, t.KeepsQueue t.clearConn := fun t => .ite (.sequence t _ _) (.refl t)
  exact State.judgeRequest_queueSound _ _ _ _ ((untripped.trans (unlocked _)).trans (State.reply_queueSound _ _ _ _))

theorem State.resetFire_queueSound (s : State) : s.KeepsQueue s.resetFire := by
  unfold State.resetFire
  refine .after (t := (({ s with env := { s.env with latch := false, riseFlag := false, ring := [] } } : State).setRepeat
    none).setCountdown none) ?_ rfl
  exact ((State.setFireLines_queueSound _ _ _ _).trans (State.setFire_queueSound _ _)).trans
    ((State.enqueueNotice_queueSound _ _).trans (State.thermalReview_queueSound _))

theorem State.doFireReset_queueSound (s : State) (args : List Byte) : s.KeepsQueue (s.doFireReset args) := by
  have evaluated : ∀ (t : State) (result : ReplyResult), t.KeepsQueue (t.evaluateContainerFire.reply 9 result []) :=
    fun t _ => t.evaluateContainerFire_queueSound.trans (State.reply_queueSound _ _ _ _)
  exact State.judgeRequest_queueSound _ _ _ _ (.ite (evaluated _ _) (.ite (s.resetFire_queueSound.trans (evaluated _ _))
    (evaluated _ _)))

theorem State.doBreakerHold_queueSound (s : State) (args : List Byte) : s.KeepsQueue (s.doBreakerHold args) :=
  State.judgeRequest_queueSound _ _ _ _ (.after (State.reply_queueSound _ _ _ _) rfl)

theorem State.doBreakerRelease_queueSound (s : State) (args : List Byte) : s.KeepsQueue (s.doBreakerRelease args) :=
  State.judgeRequest_queueSound _ _ _ _ (.after (State.reply_queueSound _ _ _ _) rfl)

theorem State.doCensusRequest_queueSound (s : State) (args : List Byte) : s.KeepsQueue (s.doCensusRequest args) :=
  State.judgeRequest_queueSound _ _ _ _ (.ite (.ite (s.reply_queueSound _ _ _) (.after (.enqueueNew _ _ _ _ nofun) rfl))
    (s.reply_queueSound _ _ _))

theorem State.doRestart_queueSound (s : State) (args : List Byte) : s.KeepsQueue (s.doRestart args) :=
  State.judgeRequest_queueSound _ _ _ _ (.ite (.ite (s.reply_queueSound _ _ _) (.after (.enqueueNew _ _ _ _ nofun) rfl))
    (s.reply_queueSound _ _ _))

theorem State.doKind_queueSound (s : State) (kind : Byte) (args : List Byte) : s.KeepsQueue (s.doKind kind args) := by
  unfold State.doKind
  split
  · exact s.doReadStatus_queueSound args
  · exact s.doReadModule_queueSound args
  · exact s.doSetSiteCap_queueSound args
  · exact s.doHoldJoin_queueSound args
  · exact s.doResumeJoin_queueSound args
  · exact s.doTakeOut_queueSound args
  · exact s.doReturn_queueSound args
  · exact s.doClearLockout_queueSound args
  · exact s.doFireReset_queueSound args
  · exact s.doBreakerHold_queueSound args
  · exact s.doBreakerRelease_queueSound args
  · exact s.doCensusRequest_queueSound args
  · exact s.doRestart_queueSound args
  · exact .refl s
  · exact s.reply_queueSound _ _ _

/-! ### Every command -/

/-- Every command but POWER_ON_RESET is an operation that keeps the queue, and the judgements of its end. -/
theorem exec_queueSound {i : Instr} (s : State) (h : ∀ straps, i ≠ .powerOnReset straps) :
    ∃ u, exec i s = u.finish ∧ s.KeepsQueue u := by
  cases i with
  | powerOnReset straps => exact absurd rfl (h straps)
  | configLoad image => exact ⟨_, rfl, s.loadConfig_queueSound image⟩
  | scanIntervalExpiry => exact ⟨_, rfl, s.scanInterval_queueSound⟩
  | chainReplyArrival reply => exact ⟨_, rfl, s.replyArrives_queueSound reply⟩
  | chainReplyWaitExpiry => exact ⟨_, rfl, s.replyWaitExpires_queueSound⟩
  | loopSample a b => exact ⟨_, rfl, s.sampleLoops_queueSound a b⟩
  | runawaySample => exact ⟨_, rfl, s.sampleRunaway_queueSound⟩
  | releaseCountdownExpiry => exact ⟨_, rfl, s.countdownExpires_queueSound⟩
  | censusRepeatExpiry => exact ⟨_, rfl, s.repeatExpires_queueSound⟩
  | abortInputChange b => exact ⟨_, rfl, s.abortChange_queueSound b⟩
  | maintenanceKeyChange b => exact ⟨_, rfl, s.keyChange_queueSound b⟩
  | chillerFaultInputChange b => exact ⟨_, rfl, s.chillerFaultChange_queueSound b⟩
  | heatSoakExpiry => exact ⟨_, rfl, s.heatSoakExpire_queueSound⟩
  | recoveryExpiry => exact ⟨_, rfl, s.recoveryExpire_queueSound⟩
  | apExpiry => exact ⟨_, rfl, s.apExpires_queueSound⟩
  | announceArrival n p => exact ⟨_, rfl, State.receiveKind_queueSound p 24 fun t => t.takeAnnounce_queueSound _ p⟩
  | fireNoticeArrival n p => exact ⟨_, rfl, State.receiveKind_queueSound p 3 fun t => t.takeFireNotice_queueSound _ p⟩
  | joinClaimArrival n p => exact ⟨_, rfl, State.receiveKind_queueSound p 0 fun t => t.takeJoinClaim_queueSound _⟩
  | joinDoneArrival n p => exact ⟨_, rfl, State.receiveKind_queueSound p 1 fun t => t.takeJoinDone_queueSound _⟩
  | heatClaimArrival n p => exact ⟨_, rfl, State.receiveKind_queueSound p 0 fun t => t.takeHeatClaim_queueSound _⟩
  | heatReleaseArrival n p => exact ⟨_, rfl, State.receiveKind_queueSound p 0 fun t => t.takeHeatRelease_queueSound _⟩
  | censusCallArrival n p => exact ⟨_, rfl, State.receiveKind_queueSound p 2 fun t => t.takeCensusCall_queueSound _ p⟩
  | censusWindowCompletion w => exact ⟨_, rfl, s.windowCompletes_queueSound w⟩
  | linkIdleAttemptStart b => exact ⟨_, rfl, s.attemptStart_queueSound b⟩
  | lostArbitration => exact ⟨_, rfl, s.arbitrationLost_queueSound⟩
  | attemptBitError n => exact ⟨_, rfl, s.bitError_queueSound n⟩
  | ownFrameCompletion => exact ⟨_, rfl, s.frameCompletes_queueSound⟩
  | headTimerExpiry => exact ⟨_, rfl, s.headExpires_queueSound⟩
  | holdTimerExpiry => exact ⟨_, rfl, s.holdExpires_queueSound⟩
  | auxInputChange p n => exact ⟨_, rfl, s.auxChange_queueSound p n⟩
  | auxWindowExpiry => exact ⟨_, rfl, s.auxWindowExpires_queueSound⟩
  | prechargeTimerExpiry => exact ⟨_, rfl, s.prechargeExpires_queueSound⟩
  | leaveTimerExpiry => exact ⟨_, rfl, s.leaveExpires_queueSound⟩
  | failureHoldExpiry => exact ⟨s.failureHoldExpires, rfl, .of_read rfl⟩
  | gridHealthyChange b => exact ⟨_, rfl, s.gridChange_queueSound b⟩
  | reconnectExpiry => exact ⟨_, rfl, s.reconnectExpires_queueSound⟩
  | readStatus n p => exact ⟨_, rfl, State.takeRequest_queueSound n p fun x t => t.doReadStatus_queueSound x⟩
  | readModule n p => exact ⟨_, rfl, State.takeRequest_queueSound n p fun x t => t.doReadModule_queueSound x⟩
  | setSiteCap n p => exact ⟨_, rfl, State.takeRequest_queueSound n p fun x t => t.doSetSiteCap_queueSound x⟩
  | holdJoin n p => exact ⟨_, rfl, State.takeRequest_queueSound n p fun x t => t.doHoldJoin_queueSound x⟩
  | resumeJoin n p => exact ⟨_, rfl, State.takeRequest_queueSound n p fun x t => t.doResumeJoin_queueSound x⟩
  | takeOut n p => exact ⟨_, rfl, State.takeRequest_queueSound n p fun x t => t.doTakeOut_queueSound x⟩
  | returnRack n p => exact ⟨_, rfl, State.takeRequest_queueSound n p fun x t => t.doReturn_queueSound x⟩
  | clearLockout n p => exact ⟨_, rfl, State.takeRequest_queueSound n p fun x t => t.doClearLockout_queueSound x⟩
  | fireReset n p => exact ⟨_, rfl, State.takeRequest_queueSound n p fun x t => t.doFireReset_queueSound x⟩
  | breakerHold n p => exact ⟨_, rfl, State.takeRequest_queueSound n p fun x t => t.doBreakerHold_queueSound x⟩
  | breakerRelease n p => exact ⟨_, rfl, State.takeRequest_queueSound n p fun x t => t.doBreakerRelease_queueSound x⟩
  | censusRequest n p => exact ⟨_, rfl, State.takeRequest_queueSound n p fun x t => t.doCensusRequest_queueSound x⟩
  | restart n p => exact ⟨_, rfl, State.takeRequest_queueSound n p fun x t => t.doRestart_queueSound x⟩
  | unknownRequest n k p => exact ⟨_, rfl, State.takeRequest_queueSound n p fun x t => t.doKind_queueSound k x⟩
  | receivedFrameDiscard r => exact ⟨_, rfl, s.discardFrame_queueSound r⟩

/-- Every command keeps the queue sound; POWER_ON_RESET leaves it empty. -/
theorem exec_keepsQueueSound {i : Instr} {s t : State} (hs : s.QueueSound) (h : exec i s = .next t) : t.QueueSound := by
  by_cases hreset : ∃ straps, i = .powerOnReset straps
  · obtain ⟨straps, rfl⟩ := hreset
    exact finish_queueSound (s := s.powerOn straps) (resetWith_queueSound _ _) h
  · obtain ⟨u, hu, hk⟩ := exec_queueSound s (not_exists.mp hreset)
    exact finish_queueSound (hk hs) (hu ▸ h)

/-- Settles O14: the command in front keeps the queue sound, and an idle step changes nothing. -/
theorem queueSoundKept : Obligations.QueueSoundKept := by
  intro s t hs h
  unfold step at h
  split at h
  · cases h
    exact hs
  · next c rest _ =>
    have taken : s.KeepsQueue { s with pending := rest } := .of_read rfl
    exact exec_keepsQueueSound (taken hs) h

end Sys2Proof.Machine

namespace Sys2Proof.Machine

open Sys2Proof

/-! ### The bytes of an ANNOUNCE (R163, R183) -/

theorem announceCodes : AnnounceCodes := by constructor <;> decide

/-- The two bytes of a 16-bit value, high byte first, are the value (R183). -/
theorem hiByte_append_loByte (w : Word16) : hiByte w ++ loByte w = w := by
  exact (BitVec.extractLsb'_append_extractLsb'_eq_extractLsb' (start₁ := 0) (len₁ := 8) rfl).trans
    BitVec.extractLsb'_eq_self

/-- The two bytes of an unsigned value read back as the value modulo 65536 (R183). -/
theorem natOfBytes2_of_nat (n : Nat) :
    natOfBytes2 (hiByte (BitVec.ofNat 16 n)) (loByte (BitVec.ofNat 16 n)) = n % 65536 := by
  unfold natOfBytes2 hiByte loByte
  rw [BitVec.extractLsb'_toNat, BitVec.extractLsb'_toNat, BitVec.toNat_ofNat, Nat.shiftRight_eq_div_pow, Nat.shiftRight_zero]
  omega

/-- The byte of an unsigned value that fits in one (R183). -/
theorem toNat_byteOfNat {n : Nat} (h : n < 256) : (byteOfNat n).toNat = n := by
  unfold byteOfNat
  rw [BitVec.toNat_ofNat]
  exact Nat.mod_eq_of_lt h

theorem modeCode_le (m : Mode) : modeCode m ≤ 4 := by cases m <;> decide

theorem connCode_le (st : ConnState) : connCode st ≤ 9 := by cases st <;> decide

theorem fireCode_le (st : FireState) : fireCode st ≤ 5 := by cases st <;> decide

theorem thermalCode_le (st : ThermalState) : thermalCode st ≤ 4 := by cases st <;> decide

theorem OwnClaim.flag_eq (o : OwnClaim) : o.flag = decide (o = .listed) := by cases o <;> rfl

theorem ownZone_lt (s : State) : s.ownZone < 256 := by
  have := s.svc.straps.zone.isLt
  unfold State.ownZone
  omega

/-- The five bits of a byte of flags, and nothing above them (R183, log 42). -/
theorem byte_of_five_flags (a b c d e : Bool) :
    let x := byteOfNat (natOfFlags [a, b, c, d, e])
    x.getLsbD 0 = a ∧ x.getLsbD 1 = b ∧ x.getLsbD 2 = c ∧ x.getLsbD 3 = d ∧ x.getLsbD 4 = e ∧ x.toNat < 32 := by
  revert a b c d e
  decide

/-- The payload byte by byte (R183). -/
theorem announcePayload_eq (s : State) : s.announcePayload =
    [byteOfNat (modeCode s.svc.mode), byteOfNat (connCode s.conn.state), byteOfNat (fireCode s.fire.state),
      byteOfNat (thermalCode s.thermal.state + 16 * s.thermal.level), byteOfNat s.ownZone, s.announceFlags,
      hiByte s.conditionWord, loByte s.conditionWord,
      hiByte (BitVec.ofNat 16 s.env.ec), loByte (BitVec.ofNat 16 s.env.ec),
      hiByte (BitVec.ofNat 16 s.env.ed), loByte (BitVec.ofNat 16 s.env.ed),
      hiByte (BitVec.ofNat 16 s.chain.sense.stringV), loByte (BitVec.ofNat 16 s.chain.sense.stringV),
      hiByte (BitVec.ofNat 16 s.chain.sense.busV), loByte (BitVec.ofNat 16 s.chain.sense.busV),
      hiByte (BitVec.ofInt 16 s.chain.sense.current), loByte (BitVec.ofInt 16 s.chain.sense.current),
      hiByte (BitVec.ofNat 16 s.chain.vmin), loByte (BitVec.ofNat 16 s.chain.vmin),
      hiByte (BitVec.ofNat 16 s.chain.vmax), loByte (BitVec.ofNat 16 s.chain.vmax),
      byteOfInt s.chain.tmin, byteOfInt s.chain.tmax] := rfl

/-! ### The attempt (R165) -/

/-- The link's own values and the breaker input enter no judgement of a command's end. -/
theorem State.Steady.setLink {s : State} (h : s.Steady) (b : Bool) (l : Link) :
    State.Steady { s with lines := { s.lines with breakerClosed := b }, link := l } :=
  ⟨h.permit, h.containerLevel, h.pump1, h.pump2, h.chillerRun, h.forced, h.noDue⟩

theorem hears_of_none {s : State} (h : s.onLine = none) : s.hears = true := by rw [State.hears, h]; rfl

theorem hears_of_some {s : State} (h : s.onLine ≠ none) : s.hears = false := by
  cases ho : s.onLine with
  | none => exact absurd ho h
  | some e => rw [State.hears, ho]; rfl

/-- An attempt starts where nothing of the station's own is on the line and no census window is open (R165, R171). -/
theorem exec_linkIdleAttemptStart {s : State} (h : s.Steady) (b : Bool) (hl : s.onLine = none) (hc : s.link.census = none) :
    let u : State := { s with lines := { s.lines with breakerClosed := b } }
    exec (.linkIdleAttemptStart b) s =
      .next { u with link := { u.link with queue := u.startEntry s.link.queue, reception := .none } } := by
  intro u
  have started : s.attemptStart b = { u with link := { u.link with queue := u.startEntry s.link.queue, reception := .none } } :=
    if_pos ⟨hears_of_none hl, hc⟩
  have hu := h.setLink b { s.link with queue := u.startEntry s.link.queue, reception := .none }
  exact (congrArg State.finish started).trans (finish_of_steady hu)

theorem exec_linkIdleAttemptStart_of_busy {s : State} (h : s.Steady) (b : Bool) (hb : s.onLine ≠ none ∨ s.link.census ≠ none) :
    exec (.linkIdleAttemptStart b) s = .next { s with lines := { s.lines with breakerClosed := b } } := by
  have waits : s.attemptStart b = { s with lines := { s.lines with breakerClosed := b } } :=
    if_neg fun ⟨hh, hc⟩ => hb.elim (fun ho => Bool.false_ne_true ((hears_of_some ho).symm.trans hh)) fun hn => hn hc
  exact (congrArg State.finish waits).trans (finish_of_steady (h.setLink b s.link))

/-- Arbitration is lost with an own frame on the line (R165, log 38). -/
theorem exec_lostArbitration {s : State} (h : s.Steady) (hl : s.onLine ≠ none) :
    exec .lostArbitration s = .next { s with link := { s.link with
      queue := oneAnnounce (mapOnLine Entry.offLine s.link.queue), reception := .frame } } := by
  have lost : s.arbitrationLost = { s with link := { s.link with
      queue := oneAnnounce (mapOnLine Entry.offLine s.link.queue), reception := .frame } } :=
    if_neg (by simp [hears_of_some hl])
  exact (congrArg State.finish lost).trans (finish_of_steady (h.setLink s.lines.breakerClosed _))

/-- Settles O53: what waits in the queue, then the three outcomes of an idle link and of a lost arbitration, then the payload byte by
byte. -/
theorem attemptAndArbitration : Obligations.AttemptAndArbitration := by
  refine ⟨announceCodes, fun q => oneAnnounce_of_one, fun pre post e hpre he ho => ?_, fun s b h => ⟨?_, ?_, ?_, ?_, ?_, ?_, ?_⟩⟩
  · refine oneAnnounce_append (fun x hx => ?_) (by simp [waitingAnnounce, he, ho])
    rcases hpre x hx with hx | hx <;> simp [waitingAnnounce, hx]
  · intro e q hq he
    have hon : s.onLine = some e := by simp [State.onLine, hq, he]
    rw [State.sendingLevels, State.sending, hon]
    rfl
  · intro hl hc e q hq
    rw [exec_linkIdleAttemptStart h b hl hc, hq]
    rfl
  · intro hl hc hq
    rw [exec_linkIdleAttemptStart h b hl hc, hq, State.startEntry, ← hq]
  · exact exec_linkIdleAttemptStart_of_busy h b
  · intro hl
    have heard : s.arbitrationLost = s := if_pos (hears_of_none hl)
    exact (congrArg State.finish heard).trans (finish_of_steady h)
  · exact exec_lostArbitration h
  · obtain ⟨join, heat, key, breaker, permit, high⟩ := byte_of_five_flags s.claims.join.own.flag s.claims.heat.own.flag
      s.fire.serviceKey b s.grid.permit
    rw [announcePayload_eq]
    refine ⟨rfl, toNat_byteOfNat ((modeCode_le _).trans_lt (by omega)), toNat_byteOfNat ((connCode_le _).trans_lt (by omega)),
      toNat_byteOfNat ((fireCode_le _).trans_lt (by omega)), fun hk => toNat_byteOfNat ?_, toNat_byteOfNat (ownZone_lt s),
      join.trans (OwnClaim.flag_eq _), heat.trans (OwnClaim.flag_eq _), key, breaker, permit, high,
      hiByte_append_loByte s.conditionWord, natOfBytes2_of_nat s.env.ec, natOfBytes2_of_nat s.env.ed,
      natOfBytes2_of_nat s.chain.sense.stringV, natOfBytes2_of_nat s.chain.sense.busV,
      hiByte_append_loByte (BitVec.ofInt 16 s.chain.sense.current), natOfBytes2_of_nat s.chain.vmin,
      natOfBytes2_of_nat s.chain.vmax, rfl, rfl⟩
    have := thermalCode_le s.thermal.state
    change thermalCode s.thermal.state + 16 * s.thermal.level < 256
    omega

end Sys2Proof.Machine

namespace Sys2Proof.Machine

open Sys2Proof

/-! ### The claim lists, the counts and the modes, as the signals between the blocks leave them -/

/-- What no signal between the blocks changes: the entries of both claim lists, the header error count, proving, and the mode with
its count of APs and DUPLICATE_ID. -/
def State.listsRead (s : State) : (List Nat × List Nat) × (Nat × Proving) × Mode × Nat × Bool :=
  ((s.claims.join.entries, s.claims.heat.entries), (s.link.headerErrors, s.conn.proving), s.svc.mode, s.svc.apCount,
    s.svc.duplicateId)

/-- An operation that leaves all that. -/
structure State.KeepsLists (s t : State) : Prop where
  read : t.listsRead = s.listsRead

namespace State.KeepsLists

theorem refl (s : State) : s.KeepsLists s := ⟨rfl⟩

theorem trans {s t u : State} (h : s.KeepsLists t) (k : t.KeepsLists u) : s.KeepsLists u := ⟨k.read.trans h.read⟩

theorem ite {s t u : State} {P : Prop} [Decidable P] (h : s.KeepsLists t) (k : s.KeepsLists u) :
    s.KeepsLists (if P then t else u) := by
  split
  · exact h
  · exact k

/-- An operation behind a change of something else. -/
theorem after {s t u : State} (k : t.KeepsLists u) (h : t.listsRead = s.listsRead) : s.KeepsLists u := trans ⟨h⟩ k

theorem join {s t : State} (h : s.KeepsLists t) : t.claims.join.entries = s.claims.join.entries :=
  congrArg (fun x => x.1.1) h.read

theorem heat {s t : State} (h : s.KeepsLists t) : t.claims.heat.entries = s.claims.heat.entries :=
  congrArg (fun x => x.1.2) h.read

theorem headerErrors {s t : State} (h : s.KeepsLists t) : t.link.headerErrors = s.link.headerErrors :=
  congrArg (fun x => x.2.1.1) h.read

theorem proving {s t : State} (h : s.KeepsLists t) : t.conn.proving = s.conn.proving := congrArg (fun x => x.2.1.2) h.read

theorem mode {s t : State} (h : s.KeepsLists t) : t.svc.mode = s.svc.mode := congrArg (fun x => x.2.2.1) h.read

theorem apCount {s t : State} (h : s.KeepsLists t) : t.svc.apCount = s.svc.apCount := congrArg (fun x => x.2.2.2.1) h.read

theorem duplicateId {s t : State} (h : s.KeepsLists t) : t.svc.duplicateId = s.svc.duplicateId :=
  congrArg (fun x => x.2.2.2.2) h.read

/-- The frame of the queueing operations is one of these, where the link's counts are not touched. -/
theorem of_queueing {s t : State} (h : s.KeepsAllButQueueing t) (hl : t.link.headerErrors = s.link.headerErrors) :
    s.KeepsLists t := by
  obtain ⟨x, hconn⟩ := h.conn
  obtain ⟨y, z, hsvc⟩ := h.svc
  constructor
  rw [listsRead, h.joinEntries, h.heatEntries, hl, hconn, hsvc]
  rfl

end State.KeepsLists

theorem State.enqueue_lists (s : State) (e : Entry) : s.KeepsLists (s.enqueue e) := by
  refine .of_queueing (s.enqueue_keeps e) ?_
  unfold State.enqueue
  split
  · rfl
  · split
    · rw [State.reportLoss_link]; rfl
    · split <;> rw [State.reportLoss_link] <;> rfl

theorem State.enqueueAnnounce_lists (s : State) : s.KeepsLists s.enqueueAnnounce := .ite ⟨rfl⟩ (s.enqueue_lists _)

/-- A change of something else, and a frame handed over behind it. -/
theorem State.KeepsLists.queued {s t : State} (e : Entry) (h : t.listsRead = s.listsRead) : s.KeepsLists (t.enqueue e) :=
  .after (t.enqueue_lists e) h

theorem State.cancelRestart_lists (s : State) : s.KeepsLists s.cancelRestart :=
  .ite ⟨rfl⟩ (.refl s)

theorem State.setConn_lists (s : State) (st : ConnState) : s.KeepsLists (s.setConn st) :=
  .after (State.cancelRestart_lists _) rfl

theorem State.setFire_lists (s : State) (st : FireState) : s.KeepsLists (s.setFire st) :=
  .after (State.cancelRestart_lists _) rfl

theorem State.setMembers_lists (s : State) (m : List (Nat × Nat)) : s.KeepsLists (s.setMembers m) :=
  .ite (.refl s) ⟨rfl⟩

theorem State.emptyBalance_lists (s : State) : s.KeepsLists s.emptyBalance := s.setMembers_lists []

/-! ### The own join claim and the sequencer -/

theorem State.joinRelease_lists (s : State) (r : JoinResult) : s.KeepsLists (s.joinRelease r) := by
  unfold State.joinRelease
  split
  case h_3 => exact .queued _ rfl
  all_goals exact ⟨rfl⟩

theorem State.seqRelease_lists (s : State) (r : JoinResult) : s.KeepsLists (s.seqRelease r) :=
  (s.joinRelease_lists r).trans ⟨rfl⟩

theorem State.abandonCheck_lists (s : State) : s.KeepsLists s.abandonCheck := ⟨rfl⟩

theorem State.leaveWaitToken_lists (s : State) (st : ConnState) : s.KeepsLists (s.leaveWaitToken st) :=
  s.abandonCheck_lists.trans (State.setConn_lists _ st)

/-- A change of the sequencer with its state. -/
theorem State.KeepsLists.sequence (s : State) (x : Connection) (st : ConnState) (h : x.proving = s.conn.proving := by rfl) :
    s.KeepsLists (({ s with conn := x } : State).setConn st) :=
  .after (State.setConn_lists _ st) (congrArg (fun p => ((s.claims.join.entries, s.claims.heat.entries),
    (s.link.headerErrors, p), s.svc.mode, s.svc.apCount, s.svc.duplicateId)) h)

theorem State.finishOpening_lists (s : State) : s.KeepsLists s.finishOpening := .sequence s _ _

theorem State.enterOpening_lists (s : State) (d : ConnState) : s.KeepsLists (s.enterOpening d) :=
  .ite ((State.KeepsLists.sequence s _ _).trans (State.finishOpening_lists _)) (.sequence s _ _)

theorem State.forcedLeave_lists (s : State) : s.KeepsLists s.forcedLeave := by
  have opened : ∀ d, s.KeepsLists ((s.enterOpening d).seqRelease .failed) := fun d =>
    (s.enterOpening_lists d).trans (State.seqRelease_lists _ _)
  have left : s.KeepsLists ((s.leaveWaitToken .openRack).seqRelease .failed) :=
    (s.leaveWaitToken_lists _).trans (State.seqRelease_lists _ _)
  unfold State.forcedLeave
  split
  case h_1 | h_2 | h_3 | h_4 => exact opened _
  case h_5 => exact left
  all_goals exact .refl s

theorem State.reviewForced_lists (s : State) : s.KeepsLists s.reviewForced := .ite s.forcedLeave_lists (.refl s)

theorem State.prechargeFailure_lists (s : State) : s.KeepsLists s.prechargeFailure :=
  .after (t := { s with conn := { s.conn with prechFail := true, failCount := s.conn.failCount + 1, failHold := some 60000 } })
    ((State.enterOpening_lists _ _).trans (State.seqRelease_lists _ _)) rfl

/-! ### The token -/

theorem State.tokenLost_lists (s : State) (g : Bool) : s.KeepsLists (s.tokenLost g) :=
  .after (t := s.syncToken) (.ite
    (.ite (State.prechargeFailure_lists _) (State.forcedLeave_lists _))
    (.ite (State.abandonCheck_lists _) (.refl _))) rfl

theorem State.joinReleaseByOther_lists (s : State) (g : Bool) : s.KeepsLists (s.joinReleaseByOther g) :=
  (s.joinRelease_lists .failed).trans (.ite
    (.ite (.refl _) ((State.leaveWaitToken_lists _ _).trans ⟨rfl⟩))
    (.ite (State.tokenLost_lists _ _) (.refl _)))

theorem State.startCheck_lists (s : State) : s.KeepsLists s.startCheck := .queued _ rfl

theorem State.signalToken_lists (s : State) : s.KeepsLists s.signalToken :=
  .ite (.refl s) (.ite (.ite (.after (State.startCheck_lists _) rfl) ⟨rfl⟩) (s.tokenLost_lists _))

/-- Behind a change of the join list, the signals leave its entries. -/
theorem State.changeJoin_lists (s : State) (f : List Nat → List Nat) :
    (s.setJoinEntries (f s.claims.join.entries)).KeepsLists (s.changeJoin f) := State.signalToken_lists _

/-! ### The heater -/

theorem State.slotSignal_lists (s : State) : s.KeepsLists s.slotSignal :=
  .ite (.refl s) (.ite (.ite ⟨rfl⟩ ⟨rfl⟩) (.ite ⟨rfl⟩ ⟨rfl⟩))

theorem State.rotate_lists (s : State) : s.KeepsLists s.rotate :=
  .queued (t := s.setHeatOwn (.releaseQueued s.thermal.demand)) _ rfl

theorem State.evalSlot_lists (s : State) : s.KeepsLists s.evalSlot :=
  .ite ((s.slotSignal_lists.trans (State.rotate_lists _)).trans (State.slotSignal_lists _)) s.slotSignal_lists

/-- Behind a change of the heater list, the slots leave its entries. -/
theorem State.changeHeat_lists (s : State) (f : List Nat → List Nat) :
    (s.setHeatEntries (f s.claims.heat.entries)).KeepsLists (s.changeHeat f) := State.evalSlot_lists _

theorem State.heatClaim_lists (s : State) : s.KeepsLists s.heatClaim := by
  refine .ite ?_ (.refl s)
  split
  case h_1 => exact .queued _ rfl
  all_goals exact ⟨rfl⟩

theorem State.heatRelease_lists (s : State) : s.KeepsLists s.heatRelease := by
  unfold State.heatRelease
  split
  case h_3 => exact .trans (.queued (t := s.setHeatOwn (.releaseQueued false)) _ rfl) (State.evalSlot_lists _)
  all_goals exact ⟨rfl⟩

theorem State.judgeSoak_lists (s : State) : s.KeepsLists s.judgeSoak := by
  unfold State.judgeSoak
  split <;> exact ⟨rfl⟩

theorem State.setThermal_lists (s : State) (st : ThermalState) : s.KeepsLists (s.setThermal st) := ⟨rfl⟩

theorem State.setLevel_lists (s : State) (k : Nat) : s.KeepsLists (s.setLevel k) :=
  have levelled : s.KeepsLists { s with thermal := { s.thermal with level := k } } := ⟨rfl⟩
  .ite (.refl s) ((levelled.trans (.ite (State.emptyBalance_lists _) (.refl _))).trans (State.judgeSoak_lists _))

theorem State.beginDemand_lists (s : State) : s.KeepsLists s.beginDemand := .after (State.heatClaim_lists _) rfl

theorem State.endDemand_lists (s : State) : s.KeepsLists s.endDemand :=
  .ite (.after (State.heatRelease_lists _) rfl) (.refl s)

theorem State.enterInhibited_lists (s : State) : s.KeepsLists s.enterInhibited :=
  (s.endDemand_lists.trans (State.setThermal_lists _ _)).trans (State.setLevel_lists _ _)

theorem State.leaveInhibited_lists (s : State) : s.KeepsLists s.leaveInhibited := by
  unfold State.leaveInhibited
  split
  · exact .refl s
  · exact ((s.setLevel_lists _).trans (State.setThermal_lists _ _)).trans
      (.ite (State.beginDemand_lists _) (.refl _))

theorem State.thermalReview_lists (s : State) : s.KeepsLists s.thermalReview :=
  .ite (.refl s) (.ite
    (.ite (s.setLevel_lists _) s.enterInhibited_lists)
    (.ite s.leaveInhibited_lists (.refl s)))

/-! ### The fire state -/

theorem State.setCountdown_lists (s : State) (x : Timer) : s.KeepsLists (s.setCountdown x) := ⟨rfl⟩

theorem State.setFireLines_lists (s : State) (r f t : Bool) : s.KeepsLists (s.setFireLines r f t) := ⟨rfl⟩

theorem State.enterReleased_lists (s : State) : s.KeepsLists s.enterReleased :=
  (((s.setFire_lists .released).trans (State.setCountdown_lists _ _)).trans
    (State.setFireLines_lists _ _ _ _)).trans (State.enqueue_lists _ _)

theorem State.enterReleaseDelay_lists (s : State) : s.KeepsLists s.enterReleaseDelay :=
  .ite ((s.setFire_lists _).trans (State.setCountdown_lists _ _)) (.ite s.enterReleased_lists
    ((s.setFire_lists _).trans (State.setCountdown_lists _ _)))

theorem State.reviewInhibit_lists (s : State) : s.KeepsLists s.reviewInhibit := by
  have back : s.KeepsLists (if s.inhibited then (s.setFire .alarm).setCountdown none else s) :=
    .ite ((s.setFire_lists _).trans (State.setCountdown_lists _ _)) (.refl s)
  unfold State.reviewInhibit
  split
  · exact .ite (.refl s) s.enterReleaseDelay_lists
  · exact back
  · exact back
  all_goals exact .refl s

/-- The drops under container fire and in SAFE (R46, R83, R84). -/
theorem State.released_lists (s : State) :
    s.KeepsLists ((s.emptyBalance.joinReleaseByOther false).heatRelease).thermalReview :=
  s.emptyBalance_lists.trans
    (((State.joinReleaseByOther_lists _ _).trans (State.heatRelease_lists _)).trans (State.thermalReview_lists _))

theorem State.setContainerFire_lists (s : State) : s.KeepsLists s.setContainerFire :=
  .ite (.refl s) (.after (State.released_lists _) rfl)

theorem State.queueCall_lists (s : State) : s.KeepsLists s.queueCall := by
  unfold State.queueCall
  split
  · exact .refl s
  · exact .queued _ rfl

theorem State.enterAlarm_lists (s : State) : s.KeepsLists s.enterAlarm := by
  have entered : s.KeepsLists ((s.setRepeat none).setFire .alarm) := .after (State.setFire_lists _ _) rfl
  have noticed : ∀ t : State, t.KeepsLists ((t.enqueue t.fireNotice).setFireLines false true true).setContainerFire := fun t =>
    ((t.enqueue_lists _).trans (State.setFireLines_lists _ _ _ _)).trans (State.setContainerFire_lists _)
  have dropped : ∀ t : State, t.KeepsLists (t.zeroPair.emptyBalance.thermalReview).reviewInhibit := fun t =>
    .after (t := t.zeroPair) (((State.emptyBalance_lists _).trans (State.thermalReview_lists _)).trans
      (State.reviewInhibit_lists _)) rfl
  exact (entered.trans (noticed _)).trans (dropped _)

theorem State.reviewZoneKey_lists (s : State) : s.KeepsLists s.reviewZoneKey :=
  .ite (.refl s) (.after (State.reviewInhibit_lists _) rfl)

theorem State.settle_lists (s : State) : s.KeepsLists s.settle :=
  s.reviewForced_lists.trans ⟨rfl⟩

theorem State.fireReported_lists (s : State) (f : FireState) : s.KeepsLists (s.fireReported f) :=
  .ite s.setContainerFire_lists (.refl s)

theorem State.noticeToFireUnit_lists (s : State) (zone : Nat) (f : FireState) :
    s.KeepsLists (s.noticeToFireUnit zone f) := by
  have followed : s.KeepsLists
      (if f = .released ∧ zone = s.ownZone ∧ s.fire.serviceKey = false then s.enterReleased else s) :=
    .ite s.enterReleased_lists (.refl s)
  unfold State.noticeToFireUnit
  split
  · exact .ite s.enterAlarm_lists (.ite s.queueCall_lists (.refl s))
  · exact followed
  · exact followed
  · exact followed
  all_goals exact .refl s

theorem State.requeueJoin_lists (s : State) : s.KeepsLists s.requeueJoin := by
  refine .ite (.after (t := { s with claims := { s.claims with join := { s.claims.join with requeue := false } } })
    ?_ rfl) (.refl s)
  dsimp only
  split
  · exact .queued _ rfl
  · exact .queued _ rfl
  all_goals exact .refl _

theorem State.requeueHeat_lists (s : State) : s.KeepsLists s.requeueHeat := by
  refine .ite (.after (t := { s with claims := { s.claims with heat := { s.claims.heat with requeue := false } } })
    ?_ rfl) (.refl s)
  dsimp only
  split
  case h_1 | h_2 => exact .queued _ rfl
  all_goals exact .refl _

end Sys2Proof.Machine
namespace Sys2Proof.Machine

open Sys2Proof

/-! ### What the end of a command leaves -/

theorem State.settle_env (s : State) : s.settle.env = s.env := s.reviewForced_blocks.env

theorem State.settle_balance (s : State) : s.settle.balance = s.balance := s.reviewForced_blocks.balance

theorem State.settle_containerFire (s : State) : s.settle.peers.containerFire = s.peers.containerFire :=
  (congrArg PeerView.containerFire s.reviewForced_blocks.peers :)

theorem State.settle_zoneKey (s : State) : s.settle.peers.zoneKey = s.peers.zoneKey :=
  (congrArg PeerView.zoneKey s.reviewForced_blocks.peers :)

theorem State.settle_thermal (s : State) :
    s.settle.thermal.state = s.thermal.state ∧ s.settle.thermal.level = s.thermal.level :=
  ⟨(congrArg Thermal.state s.reviewForced_blocks.thermal :), (congrArg Thermal.level s.reviewForced_blocks.thermal :)⟩

theorem State.settle_fire (s : State) : s.settle.fire = { s.fire with census := s.settle.fire.census } :=
  s.reviewForced_blocks.fire

/-- Under a forced-leave cause a command ends in a connection state that takes no forced leave (R140). -/
theorem State.settle_leaves {s : State} (h : s.forcedCause = true) : takesForcedLeave s.settle.conn.state = false := by
  have forced : s.reviewForced = s.forcedLeave := if_pos h
  change takesForcedLeave s.reviewForced.conn.state = false
  rw [forced]
  exact forcedLeave_not_taken s

/-! ### DUPLICATE_ID and SAFE (R58, R167, R177) -/

/-- The station as the entry to SAFE begins. -/
def State.madeSafe (s : State) : State := { s with svc := { s.svc with mode := .safe, apCount := 0, duplicateId := true } }

theorem setDuplicateId_of_mode {s : State} (h : s.svc.mode = .listening ∨ s.svc.mode = .active) : s.setDuplicateId =
    (((s.madeSafe.zeroPair.emptyBalance).joinReleaseByOther false).heatRelease).thermalReview :=
  if_pos (c := s.svc.mode = .listening ∨ s.svc.mode = .active) h

theorem setDuplicateId_of_other {s : State} (hl : s.svc.mode ≠ .listening) (ha : s.svc.mode ≠ .active) :
    s.setDuplicateId = { s with svc := { s.svc with duplicateId := true } } :=
  if_neg (c := s.svc.mode = .listening ∨ s.svc.mode = .active) fun h => h.elim hl ha

theorem setDuplicateId_lists_of_mode {s : State} (h : s.svc.mode = .listening ∨ s.svc.mode = .active) :
    s.madeSafe.KeepsLists s.setDuplicateId := by
  rw [setDuplicateId_of_mode h]
  exact .after (State.released_lists _) rfl

/-- The header error count and the claim lists are not touched by DUPLICATE_ID. -/
theorem setDuplicateId_counts (s : State) : s.setDuplicateId.svc.duplicateId = true
    ∧ s.setDuplicateId.link.headerErrors = s.link.headerErrors
    ∧ s.setDuplicateId.claims.join.entries = s.claims.join.entries
    ∧ s.setDuplicateId.claims.heat.entries = s.claims.heat.entries := by
  by_cases h : s.svc.mode = .listening ∨ s.svc.mode = .active
  · have k := setDuplicateId_lists_of_mode h
    exact ⟨k.duplicateId, k.headerErrors, k.join, k.heat⟩
  · obtain ⟨hl, ha⟩ := not_or.mp h
    rw [setDuplicateId_of_other hl ha]
    exact ⟨rfl, rfl, rfl, rfl⟩

/-- SAFE is reached with the pair at 0 (R41, R177). -/
theorem setDuplicateId_safe {s : State} (h : s.svc.mode = .listening ∨ s.svc.mode = .active) :
    s.setDuplicateId.svc.mode = .safe ∧ s.setDuplicateId.env.ec = 0 ∧ s.setDuplicateId.env.ed = 0 := by
  have henv : s.setDuplicateId.env = s.madeSafe.zeroPair.env := by
    rw [setDuplicateId_of_mode h]
    exact (State.released_safe s.madeSafe.zeroPair).env
  rw [henv]
  exact ⟨(setDuplicateId_lists_of_mode h).mode, rfl, rfl⟩

theorem forcedCause_of_safe {s : State} (h : s.svc.mode = .safe) : s.forcedCause = true := by simp [State.forcedCause, h]

/-! ### The bit error (R166, R167) -/

/-- A count of header errors other than the third: it is kept (R167). -/
theorem headerError_of_ne {s : State} {k : Nat} (h : (if k ≤ 2 then s.link.headerErrors + 1 else 0) ≠ 3) :
    s.headerError k = { s with link := { s.link with headerErrors := if k ≤ 2 then s.link.headerErrors + 1 else 0 } } := by
  unfold State.headerError
  by_cases hk : k ≤ 2
  · rw [if_pos hk] at h
    rw [if_pos hk, if_neg h, if_pos hk]
  · rw [if_neg hk, if_neg hk]

/-- The third header error in a row sets DUPLICATE_ID (R167). -/
theorem headerError_of_third {s : State} {k : Nat} (h : (if k ≤ 2 then s.link.headerErrors + 1 else 0) = 3) :
    s.headerError k = ({ s with link := { s.link with headerErrors := 0 } } : State).setDuplicateId := by
  have hk : k ≤ 2 := by
    by_contra hn
    simp [hn] at h
  rw [if_pos hk] at h
  rw [State.headerError, if_pos hk, if_pos h]

theorem bitErrorEntry_keeps (s : State) (e : Entry) : s.KeepsAllButQueueing (s.bitErrorEntry e) := by
  unfold State.bitErrorEntry
  split
  · exact s.setQueue_keeps _
  · exact (s.setQueue_keeps _).trans (State.reportLoss_keeps _ e)

theorem bitErrorEntry_headerErrors (s : State) (e : Entry) : (s.bitErrorEntry e).link.headerErrors = s.link.headerErrors := by
  unfold State.bitErrorEntry
  split
  · rfl
  · rw [State.reportLoss_link]
    rfl

theorem bitErrorEntry_restart {s : State} (e : Entry) (h : s.svc.restart = .none) : (s.bitErrorEntry e).svc.restart = .none := by
  unfold State.bitErrorEntry
  split
  · exact h
  · exact State.reportLoss_restart e h

/-- The queue without the frame that is given up, and the header error count as it then stands (R166, R167). -/
def State.droppedAt (s : State) (count : Nat) : State :=
  { s with link := { s.link with queue := dropOnLine s.link.queue, reception := .untilIdle, headerErrors := count } }

/-- The report of a loss reads nothing of the link (R164). -/
theorem reportLoss_setLink (s : State) (e : Entry) (l : Link) :
    ({ s with link := l } : State).reportLoss e = { s.reportLoss e with link := l } := by
  simp only [State.reportLoss]
  cases e.cls with
  | claim => dsimp only; split <;> rfl
  | census =>
    cases e.purpose with
    | joinCheckCall =>
      change (match s.conn.check with | .callPending _ => _ | .none => _) = _
      cases s.conn.check <;> rfl
    | _ => rfl
  | service =>
    cases e.purpose with
    | restartReply =>
      dsimp only [State.dueRestart]
      split <;> rfl
    | _ => rfl
  | _ => rfl

theorem bitError_of_some {s : State} {e : Entry} (k : Nat) (he : s.onLine = some e) :
    s.bitError k = ((s.bitErrorEntry e).setReception .untilIdle).headerError k := by
  unfold State.bitError
  rw [he]

theorem bitError_waits {s : State} {e : Entry} {k : Nat} (he : s.onLine = some e) (hlt : e.errors < 3)
    (hc : (if k ≤ 2 then s.link.headerErrors + 1 else 0) ≠ 3) : s.bitError k = { s with link := { s.link with
      queue := oneAnnounce (mapOnLine (fun x => { x.offLine with errors := x.errors + 1 }) s.link.queue)
      reception := .untilIdle, headerErrors := if k ≤ 2 then s.link.headerErrors + 1 else 0 } } := by
  rw [bitError_of_some k he, State.bitErrorEntry, if_pos hlt]
  exact headerError_of_ne hc

theorem bitError_drops {s : State} {e : Entry} {k : Nat} (he : s.onLine = some e) (hle : 3 ≤ e.errors)
    (hc : (if k ≤ 2 then s.link.headerErrors + 1 else 0) ≠ 3) :
    s.bitError k = (s.droppedAt (if k ≤ 2 then s.link.headerErrors + 1 else 0)).reportLoss e := by
  have entry : s.bitErrorEntry e = { s.reportLoss e with link := { s.link with queue := dropOnLine s.link.queue } } :=
    (if_neg (by omega)).trans (reportLoss_setLink s e _)
  rw [bitError_of_some k he, entry]
  exact (headerError_of_ne (s := { s.reportLoss e with
    link := { s.link with queue := dropOnLine s.link.queue, reception := .untilIdle } }) hc).trans
    (reportLoss_setLink s e _).symm

/-- The marks of the blocks that queue frames enter no judgement of a command's end. -/
theorem State.Steady.setMarks {s : State} (h : s.Steady) (census : CensusState) (call : Option (Byte × Byte))
    (join heat : OwnClaim) (joinAgain heatAgain : Bool) (l : Link) :
    State.Steady { s with
      fire := { s.fire with census := census }
      svc := { s.svc with gatewayCensus := call }
      claims := { s.claims with
        join := { s.claims.join with own := join, requeue := joinAgain }
        heat := { s.claims.heat with own := heat, requeue := heatAgain } }
      link := l } :=
  ⟨h.permit, h.containerLevel, h.pump1, h.pump2, h.chillerRun, h.forced, h.noDue⟩

/-- A loss that changes no mark of a block: a FIRE_NOTICE, an ANNOUNCE, and a SERVICE_REPLY with no restart pending (R164). -/
theorem reportLoss_of_unmarked {s : State} {e : Entry} (hr : s.svc.restart = .none)
    (he : e.cls = .fire ∨ e.cls = .announce ∨ e.cls = .service) : s.reportLoss e = s := by
  have due : s.dueRestart = s := if_neg (by simp [hr])
  unfold State.reportLoss
  rcases he with he | he | he <;> rw [he]
  dsimp only
  split
  · exact due
  all_goals rfl

/-- The loss of a census call is told to the fire unit or to the service unit (R111, R180). -/
theorem reportLoss_of_fireCall {s : State} {e : Entry} (hcls : e.cls = .census) (hp : e.purpose = .fireCall) :
    s.reportLoss e = { s with fire := { s.fire with census := .idle } } := by
  simp only [State.reportLoss, hcls, hp]

theorem reportLoss_of_gatewayCall {s : State} {e : Entry} (hcls : e.cls = .census) (hp : e.purpose = .gatewayCall) :
    s.reportLoss e = { s with svc := { s.svc with gatewayCensus := none } } := by
  simp only [State.reportLoss, hcls, hp]

/-- A claim that is lost is owed again, and one under the cancel mark is given up (R73). -/
theorem ClaimList.lost_of_claim {l : ClaimList} (h : l.own = .claimQueued false) : l.lost = { l with requeue := true } := by
  obtain ⟨entries, own, requeue⟩ := l
  obtain rfl := h
  rfl

theorem ClaimList.lost_of_cancelled {l : ClaimList} (h : l.own = .claimQueued true) : l.lost = { l with own := .notClaimed } := by
  obtain ⟨entries, own, requeue⟩ := l
  obtain rfl := h
  rfl

/-- The loss of a claim frame is told to its list (R73). -/
theorem reportLoss_of_joinFrame {s : State} {e : Entry} (hcls : e.cls = .claim) (hk : e.kind.toNat ≤ 2) :
    s.reportLoss e = { s with claims := { s.claims with join := s.claims.join.lost } } := by
  simp only [State.reportLoss, hcls, if_pos hk]

theorem reportLoss_of_heatFrame {s : State} {e : Entry} (hcls : e.cls = .claim) (hk : ¬e.kind.toNat ≤ 2) :
    s.reportLoss e = { s with claims := { s.claims with heat := s.claims.heat.lost } } := by
  simp only [State.reportLoss, hcls, if_neg hk]

/-- The third header error: the frame is off the line, and DUPLICATE_ID makes SAFE (R166, R167, R177). -/
theorem bitError_third {s : State} {e : Entry} {k : Nat} (he : s.onLine = some e) (hr : s.svc.restart = .none)
    (hc : (if k ≤ 2 then s.link.headerErrors + 1 else 0) = 3) :
    ∃ u : State, s.bitError k = u.setDuplicateId ∧ u.svc.mode = s.svc.mode ∧ u.svc.restart = .none ∧ u.link.headerErrors = 0 := by
  have hk := bitErrorEntry_keeps s e
  obtain ⟨x, y, hsvc⟩ := hk.svc
  refine ⟨_, (bitError_of_some k he).trans (headerError_of_third ?_), ?_, ?_, rfl⟩
  · rwa [State.setReception_link_headerErrors, bitErrorEntry_headerErrors]
  · change (s.bitErrorEntry e).svc.mode = s.svc.mode
    rw [hsvc]
  · exact bitErrorEntry_restart e hr

/-- Settles O54: the entry that waits again, the loss by the class of the entry that is dropped, and the third header error. -/
theorem bitErrorsDropTheFrame : Obligations.BitErrorsDropTheFrame := by
  intro s k h hr
  refine ⟨fun hn => ?_, fun e he => ⟨fun hc hlt => ?_, fun hc hle => ?_, fun hc => ?_⟩⟩
  · have idle : s.bitError k = s := by rw [State.bitError, hn]
    exact (congrArg State.finish idle).trans (finish_of_steady h)
  · exact (congrArg State.finish (bitError_waits he hlt hc)).trans (finish_of_steady (h.setLink s.lines.breakerClosed _))
  · set d := s.droppedAt (if k ≤ 2 then s.link.headerErrors + 1 else 0) with hd
    have answered : ∀ t : State, d.reportLoss e = t → t.Steady → exec (.attemptBitError k) s = .next t := fun t ht hs =>
      (congrArg State.finish ((bitError_drops he hle hc).trans ht)).trans (finish_of_steady hs)
    have unmarked : e.cls = .fire ∨ e.cls = .announce ∨ e.cls = .service → exec (.attemptBitError k) s = .next d := fun hcls =>
      answered d (reportLoss_of_unmarked hr hcls) (h.setLink s.lines.breakerClosed _)
    refine ⟨fun hcls => unmarked (hcls.imp_right .inl), fun hcls => unmarked (.inr (.inr hcls)), fun hcls hp => ?_,
      fun hcls hp => ?_, fun hcls hkind hown => ?_, fun hcls hkind hown => ?_⟩
    · exact answered _ (reportLoss_of_fireCall hcls hp) (h.setMarks .idle s.svc.gatewayCensus _ _ _ _ d.link)
    · exact answered _ (reportLoss_of_gatewayCall hcls hp) (h.setMarks s.fire.census none _ _ _ _ d.link)
    · have lost : d.claims.join.lost = _ := ClaimList.lost_of_claim hown
      exact answered _ ((reportLoss_of_joinFrame hcls (by rw [hkind]; decide)).trans
        (congrArg (fun l => { d with claims := { d.claims with join := l } }) lost))
        (h.setMarks s.fire.census s.svc.gatewayCensus _ _ true _ d.link)
    · have lost : d.claims.heat.lost = _ := ClaimList.lost_of_cancelled hown
      exact answered _ ((reportLoss_of_heatFrame hcls (by rw [hkind]; decide)).trans
        (congrArg (fun l => { d with claims := { d.claims with heat := l } }) lost))
        (h.setMarks s.fire.census s.svc.gatewayCensus _ .notClaimed _ _ d.link)
  · obtain ⟨u, hu, hmode, hrestart, herrors⟩ := bitError_third he hr hc
    obtain ⟨hdup, hcount, -, -⟩ := setDuplicateId_counts u
    have hnone := u.setDuplicateId_latches (e := []) .restart List.not_mem_nil hrestart
    have hlists := u.setDuplicateId.settle_lists
    refine ⟨_, (congrArg State.finish hu).trans (finish_of_none hnone), hlists.duplicateId.trans hdup,
      hlists.headerErrors.trans (hcount.trans herrors), fun hm => ?_, fun hl ha => ?_⟩
    · obtain ⟨hsafe, hec, hed⟩ := setDuplicateId_safe (hmode ▸ hm)
      rw [State.settle_env]
      exact ⟨hlists.mode.trans hsafe, hec, hed, State.settle_leaves (forcedCause_of_safe hsafe)⟩
    · rw [hlists.mode, setDuplicateId_of_other (hmode ▸ hl) (hmode ▸ ha)]
      exact hmode

end Sys2Proof.Machine

namespace Sys2Proof.Machine

open Sys2Proof

/-! ### Own claims given up (R72, R83, R84) -/

/-- The own claim state that a release request leaves (the table of R72). -/
def OwnClaim.released : OwnClaim → OwnClaim
  | .notClaimed => .notClaimed
  | .claimQueued _ => .claimQueued true
  | .listed => .releaseQueued false
  | .releaseQueued _ => .releaseQueued false

/-- A claim that has been given up supports no WAIT_TOKEN (R131). -/
theorem OwnClaim.waits_of_released {o : OwnClaim} (h : o.released = o) : o.waits = false := by
  cases o with
  | claimQueued mark => cases mark <;> simp_all [OwnClaim.released, OwnClaim.waits]
  | listed => exact nomatch h
  | _ => rfl

theorem OwnClaim.ne_listed_of_released {o : OwnClaim} (h : o.released = o) : o ≠ .listed := by
  rintro rfl
  exact nomatch h

/-- One frame where a claim stands in the list: the release that it may still have to queue (R72). -/
def OwnClaim.owed : OwnClaim → Nat
  | .listed => 1
  | .notClaimed => 0
  | .claimQueued _ => 0
  | .releaseQueued _ => 0

theorem OwnClaim.owed_le (o : OwnClaim) : o.owed ≤ 1 := by cases o <;> simp [OwnClaim.owed]

theorem OwnClaim.owed_of_ne {o : OwnClaim} (h : o ≠ .listed) : o.owed = 0 := by
  cases o with
  | listed => exact absurd rfl h
  | _ => rfl

/-- The frames that stand in the queue, and those that the own claims may still have to queue. -/
def State.frames (s : State) : Nat := s.link.queue.length + s.claims.join.own.owed + s.claims.heat.own.owed

theorem frames_le (s : State) : s.frames ≤ s.link.queue.length + 2 := by
  have := s.claims.join.own.owed_le
  have := s.claims.heat.own.owed_le
  unfold State.frames
  omega

/-- An operation that may give own claims up and queues at most `n` frames besides their releases: a claim that it gives up is
given up as R72 says, its release frame queued, and no frame that waits for no answer is lost. -/
structure State.Yields (n : Nat) (s t : State) : Prop where
  frames : t.frames ≤ s.frames + n
  kept : ∀ e ∈ s.link.queue, e.purpose = .plain → e ∈ t.link.queue
  join : t.claims.join.own.released = s.claims.join.own.released
  heat : t.claims.heat.own.released = s.claims.heat.own.released
  joinFree : s.claims.join.own ≠ .listed → t.claims.join.own ≠ .listed ∧ t.claims.doneResult = s.claims.doneResult
  joinFrame : s.claims.join.own = .listed → t.claims.join.own ≠ .listed →
    t.claims.doneResult = .failed ∧ joinDoneFrame .failed ∈ t.link.queue
  heatFree : s.claims.heat.own ≠ .listed → t.claims.heat.own ≠ .listed
  heatFrame : s.claims.heat.own = .listed → t.claims.heat.own ≠ .listed → heatReleaseFrame ∈ t.link.queue
  slot : s.claims.heat.own = .listed ∨ s.claims.slotHeld = false → t.claims.heat.own ≠ .listed → t.claims.slotHeld = false
  joinSettled : s.claims.join.own.released = s.claims.join.own → t.claims.join.own.released = t.claims.join.own
  heatSettled : s.claims.heat.own.released = s.claims.heat.own → t.claims.heat.own.released = t.claims.heat.own

namespace State.Yields

theorem trans {s t u : State} {m n : Nat} (h : s.Yields m t) (k : t.Yields n u) : s.Yields (m + n) u where
  frames := by have := h.frames; have := k.frames; omega
  kept := fun e he hp => k.kept e (h.kept e he hp) hp
  join := k.join.trans h.join
  heat := k.heat.trans h.heat
  joinFree := fun hs => by
    obtain ⟨ht, hdone⟩ := h.joinFree hs
    obtain ⟨hu, hdone'⟩ := k.joinFree ht
    exact ⟨hu, hdone'.trans hdone⟩
  joinFrame := fun hs hu => by
    by_cases ht : t.claims.join.own = .listed
    · exact k.joinFrame ht hu
    · obtain ⟨hdone, hframe⟩ := h.joinFrame hs ht
      exact ⟨(k.joinFree ht).2.trans hdone, k.kept _ hframe rfl⟩
  heatFree := fun hs => k.heatFree (h.heatFree hs)
  heatFrame := fun hs hu => by
    by_cases ht : t.claims.heat.own = .listed
    · exact k.heatFrame ht hu
    · exact k.kept _ (h.heatFrame hs ht) rfl
  slot := fun hs hu => by
    by_cases ht : t.claims.heat.own = .listed
    · exact k.slot (.inl ht) hu
    · exact k.slot (.inr (h.slot hs ht)) hu
  joinSettled := k.joinSettled ∘ h.joinSettled
  heatSettled := k.heatSettled ∘ h.heatSettled

theorem mono {s t : State} {m n : Nat} (h : s.Yields m t) (hn : m ≤ n) : s.Yields n t :=
  { h with frames := h.frames.trans (by omega) }

/-- An operation that leaves the own claims. -/
theorem of_claims {s t : State} {n : Nat} (hj : t.claims.join.own = s.claims.join.own)
    (hh : t.claims.heat.own = s.claims.heat.own) (hd : t.claims.doneResult = s.claims.doneResult)
    (hs : t.claims.heat.own ≠ .listed → s.claims.slotHeld = false → t.claims.slotHeld = false)
    (hq : ∀ e ∈ s.link.queue, e.purpose = .plain → e ∈ t.link.queue)
    (hl : t.link.queue.length ≤ s.link.queue.length + n) : s.Yields n t where
  frames := by unfold State.frames; rw [hj, hh]; omega
  kept := hq
  join := by rw [hj]
  heat := by rw [hh]
  joinFree := fun h => ⟨hj ▸ h, hd⟩
  joinFrame := fun h h' => absurd (hj.trans h) h'
  heatFree := fun h => hh ▸ h
  heatFrame := fun h h' => absurd (hh.trans h) h'
  slot := fun h h' => h.elim (fun hl => absurd (hh.trans hl) h') (hs h')
  joinSettled := fun h => by rw [hj]; exact h
  heatSettled := fun h => by rw [hh]; exact h

/-- What the relation reads of a state. -/
def read (s : State) : ClaimUnit × List Entry := (s.claims, s.link.queue)

/-- An operation that leaves the claim unit and the queue. -/
theorem of_read {s t : State} {n : Nat} (hc : t.claims = s.claims) (hq : t.link.queue = s.link.queue) : s.Yields n t :=
  .of_claims (by rw [hc]) (by rw [hc]) (by rw [hc]) (fun _ h => by rw [hc]; exact h) (fun _ h _ => hq ▸ h) (by rw [hq]; omega)

theorem refl (s : State) {n : Nat} : s.Yields n s := .of_read rfl rfl

/-- An operation behind a change of anything else. -/
theorem after {s t u : State} {n : Nat} (k : t.Yields n u) (h : read t = read s) : s.Yields n u := by
  obtain ⟨hc, hq⟩ := Prod.mk.inj h
  simpa using (of_read (n := 0) hc hq).trans k

/-- An operation behind one that queues nothing else. -/
theorem behind {s t u : State} {n : Nat} (h : s.Yields 0 t) (k : t.Yields n u) : s.Yields n u := by simpa using h.trans k

/-- The bound on the frames holds on behind an operation that queues nothing else. -/
theorem bound {s t : State} {m n : Nat} (h : s.Yields n t) (hs : s.frames + n ≤ m) : t.frames ≤ m := h.frames.trans hs

theorem ite {s t u : State} {n : Nat} {P : Prop} [Decidable P] (h : P → s.Yields n t) (k : ¬P → s.Yields n u) :
    s.Yields n (if P then t else u) := by
  split
  · next hp => exact h hp
  · next hp => exact k hp

end State.Yields

theorem enqueue_yields {s : State} {e : Entry} (h : s.link.queue.length < 8) : s.Yields 1 (s.enqueue e) := by
  rw [enqueue_of_room h]
  exact .of_claims rfl rfl rfl (fun _ hs => hs) (fun _ he _ => mem_insertByClass.mpr (.inr he)) (insertByClass_length e _).le

theorem cancelRestart_yields (s : State) : s.Yields 0 s.cancelRestart :=
  .ite (fun _ => .of_claims rfl rfl rfl (fun _ hs => hs) (fun _ he hp => mem_retag_of_plain he hp nofun) (List.length_map _).le)
    fun _ => .refl s

theorem setConn_yields (s : State) (st : ConnState) : s.Yields 0 (s.setConn st) :=
  .after (cancelRestart_yields _) rfl

theorem setFire_yields (s : State) (st : FireState) : s.Yields 0 (s.setFire st) :=
  .after (cancelRestart_yields _) rfl

theorem abandonCheck_yields (s : State) : s.Yields 0 s.abandonCheck :=
  .of_claims rfl rfl rfl (fun _ hs => hs) (fun _ he hp => mem_retag_of_plain he hp nofun) (List.length_map _).le

theorem leaveWaitToken_yields (s : State) (st : ConnState) : s.Yields 0 (s.leaveWaitToken st) :=
  (abandonCheck_yields s).trans (setConn_yields _ st)

theorem enterOpening_yields (s : State) (d : ConnState) : s.Yields 0 (s.enterOpening d) := by
  have set : ∀ (t : State) (x : Connection) st, t.Yields 0 (({ t with conn := x } : State).setConn st) := fun t x st =>
    .after (setConn_yields _ st) rfl
  exact .ite (fun _ => .behind (set s _ _) (set _ _ _)) fun _ => set s _ _

/-- The room that the release of a listed claim finds. -/
theorem room_of_listed {s : State} (h : s.frames ≤ 8) (hl : s.claims.join.own = .listed ∨ s.claims.heat.own = .listed) :
    s.link.queue.length < 8 := by
  unfold State.frames at h
  rcases hl with hl | hl <;> rw [hl] at h <;> simp only [OwnClaim.owed] at h <;> omega

/-- A list's own claim state that is given up without a frame (R72). -/
theorem setJoinOwn_yields {s : State} {o : OwnClaim} (hs : s.claims.join.own ≠ .listed)
    (ho : o.released = s.claims.join.own.released) (hset : o.released = o) : s.Yields 0 (s.setJoinOwn o) where
  frames := by
    have hnone := OwnClaim.owed_of_ne (OwnClaim.ne_listed_of_released hset)
    change s.link.queue.length + o.owed + s.claims.heat.own.owed ≤ s.link.queue.length + _ + _
    omega
  kept := fun _ he _ => he
  join := ho
  heat := rfl
  joinFree := fun _ => ⟨OwnClaim.ne_listed_of_released hset, rfl⟩
  joinFrame := fun hl => absurd hl hs
  heatFree := id
  heatFrame := fun hl hn => absurd hl hn
  slot := fun hl hn => hl.elim (fun hl => absurd hl hn) id
  joinSettled := fun _ => hset
  heatSettled := id

theorem setHeatOwn_yields {s : State} {o : OwnClaim} (hs : s.claims.heat.own ≠ .listed)
    (ho : o.released = s.claims.heat.own.released) (hset : o.released = o) : s.Yields 0 (s.setHeatOwn o) where
  frames := by
    have hnone := OwnClaim.owed_of_ne (OwnClaim.ne_listed_of_released hset)
    change s.link.queue.length + s.claims.join.own.owed + o.owed ≤ s.link.queue.length + _ + _
    omega
  kept := fun _ he _ => he
  join := rfl
  heat := ho
  joinFree := fun h => ⟨h, rfl⟩
  joinFrame := fun hl hn => absurd hl hn
  heatFree := fun _ => OwnClaim.ne_listed_of_released hset
  heatFrame := fun hl => absurd hl hs
  slot := fun hl _ => hl.elim (fun hl => absurd hl hs) id
  joinSettled := id
  heatSettled := fun _ => hset

/-- A claim that stands in the join list is released with JOIN_DONE FAILED (R72). -/
theorem queueJoinDone_yields {s : State} (h : s.frames ≤ 8) (hs : s.claims.join.own = .listed) :
    s.Yields 0 (s.queueJoinDone .failed) := by
  rw [queueJoinDone_of_room .failed (room_of_listed h (.inl hs))]
  exact {
    frames := by
      change (insertByClass (joinDoneFrame .failed) s.link.queue).length + 0 + s.claims.heat.own.owed ≤ _
      rw [insertByClass_length, State.frames, hs, OwnClaim.owed]
      omega
    kept := fun _ he _ => mem_insertByClass.mpr (.inr he)
    join := by rw [hs]; rfl
    heat := rfl
    joinFree := fun hn => absurd hs hn
    joinFrame := fun _ _ => ⟨rfl, mem_insertByClass.mpr (.inl rfl)⟩
    heatFree := id
    heatFrame := fun hl hn => absurd hl hn
    slot := fun hl hn => hl.elim (fun hl => absurd hl hn) id
    joinSettled := fun hn => absurd hs (OwnClaim.ne_listed_of_released hn)
    heatSettled := id }

/-- What the slot signal leaves: the link, and of the claim unit all but the slot and its hold timer (R81, R82). -/
theorem slotSignal_rest (s : State) : s.slotSignal.link = s.link ∧ s.slotSignal.conn = s.conn
    ∧ s.slotSignal.claims = { s.claims with slotHeld := s.slotNow, hold := s.slotSignal.claims.hold } := by
  unfold State.slotSignal
  split
  · next h => exact ⟨rfl, rfl, by rw [h]⟩
  · split
    · next h =>
      rw [h]
      dsimp only
      split <;> exact ⟨rfl, rfl, rfl⟩
    · next h =>
      rw [Bool.not_eq_true] at h
      rw [h]
      dsimp only
      split <;> exact ⟨rfl, rfl, rfl⟩

theorem slotSignal_yields (s : State) : s.Yields 0 s.slotSignal := by
  obtain ⟨hlink, -, hclaims⟩ := slotSignal_rest s
  refine .of_claims (by rw [hclaims]) (by rw [hclaims]) (by rw [hclaims]) (fun hn _ => ?_) (fun _ he _ => hlink ▸ he)
    (by rw [hlink]; exact le_rfl)
  rw [hclaims] at hn ⊢
  simp [State.slotNow, show s.claims.heat.own ≠ .listed from hn]

/-- A claim that stands in the heater list is released with HEAT_RELEASE; with the claim the slot goes (R72, R81, R82). -/
theorem queueHeatRelease_yields {s : State} (h : s.frames ≤ 8) (hs : s.claims.heat.own = .listed) (mark : Bool) :
    s.Yields 0 (((s.setHeatOwn (.releaseQueued mark)).enqueue heatReleaseFrame).slotSignal) := by
  set u := (s.setHeatOwn (.releaseQueued mark)).queued heatReleaseFrame with hu
  have hqueued : (s.setHeatOwn (.releaseQueued mark)).enqueue heatReleaseFrame = u :=
    enqueue_of_room (s := s.setHeatOwn (.releaseQueued mark)) (room_of_listed (s := s) h (.inr hs))
  obtain ⟨hlink, -, hclaims⟩ := slotSignal_rest u
  have hslot : u.slotNow = false := by simp [State.slotNow, hu, State.queued, State.setHeatOwn]
  have hqueue : u.slotSignal.link.queue = insertByClass heatReleaseFrame s.link.queue := by rw [hlink]; rfl
  have hown : u.slotSignal.claims.heat.own = .releaseQueued mark := by rw [hclaims]; rfl
  have hjoin : u.slotSignal.claims.join = s.claims.join := by rw [hclaims]; rfl
  rw [hqueued]
  exact {
    frames := by
      rw [State.frames, hqueue, hown, hjoin, insertByClass_length, State.frames, hs, OwnClaim.owed, OwnClaim.owed]
      omega
    kept := fun _ he _ => hqueue ▸ mem_insertByClass.mpr (.inr he)
    join := by rw [hjoin]
    heat := by rw [hown, hs]; rfl
    joinFree := fun hn => ⟨hjoin ▸ hn, by rw [hclaims]; rfl⟩
    joinFrame := fun hl hn => absurd (hjoin ▸ hl) hn
    heatFree := fun hn => absurd hs hn
    heatFrame := fun _ _ => hqueue ▸ mem_insertByClass.mpr (.inl rfl)
    slot := fun _ _ => by rw [hclaims]; exact hslot
    joinSettled := fun hn => by rw [hjoin]; exact hn
    heatSettled := fun hn => absurd hs (OwnClaim.ne_listed_of_released hn) }

/-- The slots are evaluated, and a rotation that is due gives the claim up (R81, R82). -/
theorem evalSlot_yields {s : State} (h : s.frames ≤ 8) : s.Yields 0 s.evalSlot := by
  have signalled := slotSignal_yields s
  refine .ite (fun hr => ?_) fun _ => signalled
  by_cases hl : s.slotSignal.claims.heat.own = .listed
  · exact signalled.behind (queueHeatRelease_yields (signalled.bound h) hl _)
  · have hheld : s.slotSignal.claims.slotHeld = false := by
      obtain ⟨-, -, hclaims⟩ := slotSignal_rest s
      rw [hclaims] at hl ⊢
      simp [State.slotNow, show s.claims.heat.own ≠ .listed from hl]
    simp [State.rotationDue, hheld] at hr

/-- A release request for the heater list (R72). -/
theorem heatRelease_yields {s : State} (h : s.frames ≤ 8) : s.Yields 0 s.heatRelease := by
  unfold State.heatRelease
  split
  · exact .refl s
  · next ho => exact setHeatOwn_yields (by simp [ho]) (by rw [ho]; rfl) rfl
  · next ho =>
    have hroom := room_of_listed h (.inr ho)
    rw [evalSlot_of_unlisted (by rw [enqueue_of_room (s := s.setHeatOwn (.releaseQueued false)) hroom]; exact nofun)]
    exact queueHeatRelease_yields h ho false
  · next ho => exact setHeatOwn_yields (by simp [ho]) (by rw [ho]; rfl) rfl

/-- Behind it the own heater claim is given up. -/
theorem heatRelease_settled {s : State} (h : s.frames ≤ 8) :
    s.heatRelease.claims.heat.own.released = s.heatRelease.claims.heat.own := by
  unfold State.heatRelease
  split
  · next ho => rw [ho]; rfl
  · rfl
  · next ho =>
    have hroom := room_of_listed (s := s) h (.inr ho)
    rw [enqueue_of_room (s := s.setHeatOwn (.releaseQueued false)) hroom,
      evalSlot_of_unlisted (by simp [State.queued, State.setHeatOwn]), (slotSignal_rest _).2.2]
    rfl
  · rfl

/-- A release request for the join list takes each own claim state to that of R72, and queues JOIN_DONE FAILED for a listed one. -/
theorem joinRelease_yields {s : State} (h : s.frames ≤ 8) : s.Yields 0 (s.joinRelease .failed) := by
  unfold State.joinRelease
  split
  · exact .refl s
  · next ho => exact setJoinOwn_yields (by simp [ho]) (by rw [ho]; rfl) rfl
  · next ho => exact queueJoinDone_yields h ho
  · next ho => exact setJoinOwn_yields (by simp [ho]) (by rw [ho]; rfl) rfl

theorem syncToken_yields (s : State) : s.Yields 0 s.syncToken :=
  .of_claims rfl rfl rfl (fun _ h => h) (fun _ he _ => he) le_rfl

theorem seqRelease_yields {s : State} (h : s.frames ≤ 8) : s.Yields 0 (s.seqRelease .failed) :=
  (joinRelease_yields h).behind (syncToken_yields _)

theorem forcedLeave_yields {s : State} (h : s.frames ≤ 8) : s.Yields 0 s.forcedLeave := by
  have opened : ∀ d, s.Yields 0 ((s.enterOpening d).seqRelease .failed) := fun d =>
    (enterOpening_yields s d).behind (seqRelease_yields ((enterOpening_yields s d).bound h))
  have left : s.Yields 0 ((s.leaveWaitToken .openRack).seqRelease .failed) :=
    (leaveWaitToken_yields s _).behind (seqRelease_yields ((leaveWaitToken_yields s _).bound h))
  unfold State.forcedLeave
  split
  case h_1 | h_2 | h_3 | h_4 => exact opened _
  case h_5 => exact left
  all_goals exact .refl s

theorem tokenLost_yields {s : State} (h : s.frames ≤ 8) : s.Yields 0 (s.tokenLost false) := by
  have synced := syncToken_yields s
  exact synced.behind (.ite (fun _ => forcedLeave_yields (synced.bound h)) fun _ =>
    .ite (fun _ => abandonCheck_yields _) fun _ => .refl _)

/-- Behind the release request itself, the sequencer gives no claim up that stands. -/
theorem joinReleaseByOther_behind {s : State} (h : s.frames ≤ 8) :
    (s.joinRelease .failed).Yields 0 (s.joinReleaseByOther false) :=
  .ite (fun _ => .ite (fun _ => .refl _) fun _ => (leaveWaitToken_yields _ _).behind (syncToken_yields _)) fun _ =>
    .ite (fun _ => tokenLost_yields ((joinRelease_yields h).bound h)) fun _ => .refl _

theorem joinReleaseByOther_yields {s : State} (h : s.frames ≤ 8) : s.Yields 0 (s.joinReleaseByOther false) :=
  (joinRelease_yields h).behind (joinReleaseByOther_behind h)

/-- The start of the token may queue the JOINED call (R132). -/
theorem signalToken_yields {s : State} (h : s.frames < 8) : s.Yields 1 s.signalToken := by
  have hroom : s.link.queue.length < 8 := by unfold State.frames at h; omega
  have started : s.syncToken.Yields 1 s.syncToken.startCheck :=
    .after (enqueue_yields (s := { s.syncToken with conn := { s.conn with check := .callPending false } }) hroom) rfl
  refine .ite (fun _ => .refl s) fun _ => .ite (fun _ => .ite (fun _ => (syncToken_yields s).behind started) fun _ => ?_) fun _ => ?_
  · exact (syncToken_yields s).mono (Nat.zero_le 1)
  · exact (tokenLost_yields h.le).mono (Nat.zero_le 1)

theorem changeJoin_yields {s : State} (h : s.frames < 8) (f : List Nat → List Nat) : s.Yields 1 (s.changeJoin f) :=
  .behind (t := s.setJoinEntries (f s.claims.join.entries))
    (.of_claims rfl rfl rfl (fun _ h => h) (fun _ he _ => he) le_rfl) (signalToken_yields h)

theorem changeHeat_yields {s : State} (h : s.frames ≤ 8) (f : List Nat → List Nat) : s.Yields 0 (s.changeHeat f) :=
  .behind (t := s.setHeatEntries (f s.claims.heat.entries))
    (.of_claims rfl rfl rfl (fun _ h => h) (fun _ he _ => he) le_rfl) (evalSlot_yields h)

theorem emptyBalance_yields (s : State) : s.Yields 0 s.emptyBalance := .ite (fun _ => .refl s) fun _ => .of_read rfl rfl

theorem judgeSoak_yields (s : State) : s.Yields 0 s.judgeSoak := by
  unfold State.judgeSoak
  split <;> exact .of_read rfl rfl

theorem setLevel_yields (s : State) (k : Nat) : s.Yields 0 (s.setLevel k) := by
  have levelled : s.Yields 0 { s with thermal := { s.thermal with level := k } } := .of_read rfl rfl
  exact .ite (fun _ => .refl s) fun _ => (levelled.behind (.ite (fun _ => emptyBalance_yields _) fun _ => .refl _)).behind
    (judgeSoak_yields _)

theorem setThermal_yields (s : State) (st : ThermalState) : s.Yields 0 (s.setThermal st) := .of_read rfl rfl

/-- Under the inhibit the thermal controller gives its claim up at most (R88). -/
theorem thermalReview_yields {s : State} (h : s.frames ≤ 8) (hi : s.thermalInhibit = true) : s.Yields 0 s.thermalReview := by
  have ended : s.Yields 0 s.endDemand :=
    .ite (fun _ => .after (t := s.setDemand false) (heatRelease_yields h) rfl) fun _ => .refl s
  have entered : s.Yields 0 s.enterInhibited := (ended.behind (setThermal_yields _ _)).behind (setLevel_yields _ _)
  unfold State.thermalReview
  rw [if_pos hi]
  exact .ite (fun _ => .refl s) fun _ => .ite (fun _ => setLevel_yields s _) fun _ => entered

/-- The end of a command gives a claim up at most (R140). -/
theorem settle_yields {s : State} (h : s.frames ≤ 8) : s.Yields 0 s.settle :=
  .behind (t := s.reviewForced) (.ite (fun _ => forcedLeave_yields h) fun _ => .refl s) (.of_read rfl rfl)

/-! ### The fire unit's own operations -/

/-- What the fire unit's own operations leave: every part but the fire unit, the link and the marks of lost frames. -/
structure State.FireActs (s t : State) : Prop where
  lines : t.lines = s.lines
  chain : t.chain = s.chain
  env : t.env = s.env
  balance : t.balance = s.balance
  peers : t.peers = s.peers
  thermal : t.thermal = s.thermal
  grid : t.grid = s.grid
  conn : t.conn.state = s.conn.state
  mode : t.svc.mode = s.svc.mode
  config : t.svc.config = s.svc.config
  straps : t.svc.straps = s.svc.straps

namespace State.FireActs

theorem refl (s : State) : s.FireActs s := ⟨rfl, rfl, rfl, rfl, rfl, rfl, rfl, rfl, rfl, rfl, rfl⟩

theorem trans {s t u : State} (h : s.FireActs t) (k : t.FireActs u) : s.FireActs u :=
  ⟨k.lines.trans h.lines, k.chain.trans h.chain, k.env.trans h.env, k.balance.trans h.balance, k.peers.trans h.peers,
    k.thermal.trans h.thermal, k.grid.trans h.grid, k.conn.trans h.conn, k.mode.trans h.mode, k.config.trans h.config,
    k.straps.trans h.straps⟩

theorem ite {s t u : State} {P : Prop} [Decidable P] (h : s.FireActs t) (k : s.FireActs u) : s.FireActs (if P then t else u) := by
  split
  · exact h
  · exact k

end State.FireActs

theorem enqueue_fireActs (s : State) (e : Entry) : s.FireActs (s.enqueue e) := by
  have h := s.enqueue_keeps e
  obtain ⟨x, hconn⟩ := h.conn
  obtain ⟨y, z, hsvc⟩ := h.svc
  constructor <;> simp [h.lines, h.chain, h.env, h.balance, h.peers, h.thermal, h.grid, hconn, hsvc]

theorem setFire_fireActs (s : State) (st : FireState) : s.FireActs (s.setFire st) := by
  unfold State.setFire State.cancelRestart
  split <;> constructor <;> rfl

theorem setFireUnit_fireActs (s : State) (f : FireUnit) : s.FireActs { s with fire := f } := by constructor <;> rfl

theorem enterReleased_fireActs (s : State) : s.FireActs s.enterReleased :=
  (((setFire_fireActs s _).trans (setFireUnit_fireActs _ _)).trans (setFireUnit_fireActs _ _)).trans (enqueue_fireActs _ _)

theorem enterReleaseDelay_fireActs (s : State) : s.FireActs s.enterReleaseDelay :=
  .ite ((setFire_fireActs s _).trans (setFireUnit_fireActs _ _)) (.ite (enterReleased_fireActs s)
    ((setFire_fireActs s _).trans (setFireUnit_fireActs _ _)))

theorem reviewInhibit_fireActs (s : State) : s.FireActs s.reviewInhibit := by
  have back : s.FireActs (if s.inhibited then (s.setFire .alarm).setCountdown none else s) :=
    .ite ((setFire_fireActs s _).trans (setFireUnit_fireActs _ _)) (.refl s)
  unfold State.reviewInhibit
  split
  · exact .ite (.refl s) (enterReleaseDelay_fireActs s)
  · exact back
  · exact back
  all_goals exact .refl s

theorem enterReleased_yields {s : State} (h : s.frames < 8) : s.Yields 1 s.enterReleased := by
  have set : s.Yields 0 (((s.setFire .released).setCountdown none).setFireLines true true true) :=
    (setFire_yields s _).behind (.of_read rfl rfl)
  have hroom := set.bound (m := 7) (by omega)
  exact set.behind (enqueue_yields (by unfold State.frames at hroom; omega))

theorem reviewInhibit_yields {s : State} (h : s.frames < 8) : s.Yields 1 s.reviewInhibit := by
  have set : ∀ st x, s.Yields 1 ((s.setFire st).setCountdown x) := fun st x =>
    (setFire_yields s st).behind (.of_read rfl rfl)
  have back : s.Yields 1 (if s.inhibited then (s.setFire .alarm).setCountdown none else s) :=
    .ite (fun _ => set _ _) fun _ => .refl s
  unfold State.reviewInhibit
  split
  · exact .ite (fun _ => .refl s) fun _ => .ite (fun _ => set _ _) fun _ => .ite (fun _ => enterReleased_yields h) fun _ => set _ _
  · exact back
  · exact back
  all_goals exact .refl s

end Sys2Proof.Machine

namespace Sys2Proof.Machine

open Sys2Proof

/-! ### WAIT_TOKEN given up (R72, R131) -/

/-- A release that waits in the queue stays one at the loss of any frame (R73). -/
theorem reportLoss_joinOwn {s : State} {mark : Bool} (e : Entry) (h : s.claims.join.own = .releaseQueued mark) :
    (s.reportLoss e).claims.join.own = .releaseQueued mark := by
  have lost : s.claims.join.lost.own = .releaseQueued mark := by
    unfold ClaimList.lost
    rw [h]
  have due : s.dueRestart.claims = s.claims := by
    unfold State.dueRestart
    split <;> rfl
  unfold State.reportLoss
  split
  · split
    · exact lost
    · exact h
  · split
    case h_2 => split <;> exact h
    all_goals exact h
  · split
    · rw [due]; exact h
    all_goals exact h
  all_goals exact h

theorem enqueue_joinOwn {s : State} {mark : Bool} (e : Entry) (h : s.claims.join.own = .releaseQueued mark) :
    (s.enqueue e).claims.join.own = .releaseQueued mark := by
  unfold State.enqueue
  split
  · exact h
  · split
    · exact reportLoss_joinOwn e h
    · split <;> exact reportLoss_joinOwn _ h

/-- Behind a release request the own join claim is given up, room or not (R72), -/
theorem joinRelease_settled (s : State) (r : JoinResult) :
    (s.joinRelease r).claims.join.own.released = (s.joinRelease r).claims.join.own := by
  unfold State.joinRelease
  split
  · next h => rw [h]; rfl
  · rfl
  · rw [State.queueJoinDone, enqueue_joinOwn (mark := false) (joinDoneFrame r) rfl]
    rfl
  · rfl

/-- so that it supports no WAIT_TOKEN (R131). -/
theorem joinRelease_waits (s : State) (r : JoinResult) : (s.joinRelease r).claims.join.own.waits = false :=
  OwnClaim.waits_of_released (joinRelease_settled s r)

theorem tokenLost_blocks (s : State) (g : Bool) : s.KeepsBlocks (s.tokenLost g) := by
  have synced := s.syncToken_connState.toKeepsBlocks
  unfold State.tokenLost
  dsimp only
  split
  · split
    · exact synced.trans (State.prechargeFailure_blocks _)
    · exact synced.trans (State.forcedLeave_blocks _)
  · split
    · exact synced.trans (State.abandonCheck_connState _).toKeepsBlocks
    · exact synced

theorem joinReleaseByOther_blocks (s : State) (g : Bool) : s.KeepsBlocks (s.joinReleaseByOther g) := by
  have released := (s.joinRelease_connState .failed).toKeepsBlocks
  unfold State.joinReleaseByOther
  dsimp only
  split
  · split
    · exact released
    · exact (released.trans (State.leaveWaitToken_blocks _ _)).trans (State.syncToken_connState _).toKeepsBlocks
  · split
    · exact released.trans (tokenLost_blocks _ g)
    · exact released

/-- A release request takes WAIT_TOKEN to OPEN, and leaves OPEN (R131). -/
theorem joinReleaseByOther_waiting {s : State} (h : s.conn.state = .waitToken) :
    (s.joinReleaseByOther false).conn.state = .openRack := by
  have hstate : (s.joinRelease .failed).conn.state = .waitToken := (s.joinRelease_connState .failed).state.trans h
  unfold State.joinReleaseByOther
  dsimp only
  rw [if_pos hstate, if_neg (by rw [joinRelease_waits]; exact Bool.false_ne_true)]
  exact State.setConn_state _ .openRack

theorem joinReleaseByOther_open {s : State} (h : s.conn.state = .openRack) :
    (s.joinReleaseByOther false).conn.state = .openRack := by
  have hstate : (s.joinRelease .failed).conn.state = .openRack := (s.joinRelease_connState .failed).state.trans h
  have lost : ∀ t : State, t.conn.state = .openRack → (t.tokenLost false).conn.state = .openRack := fun t ht => by
    unfold State.tokenLost
    dsimp only
    rw [if_neg (by simp [State.syncToken, ht]), if_neg (by simp [State.syncToken, ht])]
    exact ht
  unfold State.joinReleaseByOther
  dsimp only
  rw [if_neg (by simp [hstate])]
  split
  · exact lost _ hstate
  · exact hstate

theorem signalToken_waiting {s : State} (h : s.conn.state = .waitToken) : s.signalToken.conn.state = .waitToken := by
  have lost : (s.tokenLost false).conn.state = .waitToken := by
    unfold State.tokenLost
    dsimp only
    rw [if_neg (by simp [State.syncToken, h]), if_pos (by simp [State.syncToken, h])]
    exact h
  have started : s.syncToken.startCheck.conn.state = .waitToken := (State.enqueue_connState _ _).state.trans h
  unfold State.signalToken
  split
  · exact h
  · split
    · exact started
    · exact lost

/-! ### The connection state under the heater's operations -/

theorem slotSignal_state (s : State) : s.slotSignal.conn.state = s.conn.state := by rw [(slotSignal_rest s).2.1]

theorem evalSlot_state (s : State) : s.evalSlot.conn.state = s.conn.state := by
  have rotated : ∀ t : State, t.rotate.conn.state = t.conn.state := fun t => (State.enqueue_connState _ _).state
  unfold State.evalSlot
  split
  · rw [slotSignal_state, rotated, slotSignal_state]
  · exact slotSignal_state s

theorem heatRelease_state (s : State) : s.heatRelease.conn.state = s.conn.state := by
  unfold State.heatRelease
  split
  · rfl
  · rfl
  · rw [evalSlot_state]
    exact (State.enqueue_connState _ _).state
  · rfl

theorem setLevel_stateAndLevel (s : State) (k : Nat) : (s.setLevel k).conn.state = s.conn.state
    ∧ (s.setLevel k).thermal.state = s.thermal.state ∧ (s.setLevel k).thermal.level = k := by
  have soaked : ∀ t : State, t.judgeSoak.conn.state = t.conn.state ∧ t.judgeSoak.thermal.state = t.thermal.state
      ∧ t.judgeSoak.thermal.level = t.thermal.level := fun t => by
    unfold State.judgeSoak
    split <;> exact ⟨rfl, rfl, rfl⟩
  have emptied : ∀ t : State, t.emptyBalance.conn = t.conn ∧ t.emptyBalance.thermal = t.thermal := fun t => by
    unfold State.emptyBalance State.setMembers
    split <;> exact ⟨rfl, rfl⟩
  unfold State.setLevel
  split
  · next h => exact ⟨rfl, rfl, h.symm⟩
  · obtain ⟨hc, hs, hl⟩ := soaked (if k = 3 then
      ({ s with thermal := { s.thermal with level := k } } : State).emptyBalance else
      { s with thermal := { s.thermal with level := k } })
    refine ⟨hc.trans ?_, hs.trans ?_, hl.trans ?_⟩ <;> split <;> simp [emptied]

/-! ### The station under container fire (the table of R60) -/

/-- What every block has taken once the container fire flag is set, but for the own claims and the sequencer. -/
structure State.UnderFire (s : State) : Prop where
  flag : s.peers.containerFire = true
  ec : s.env.ec = 0
  ed : s.env.ed = 0
  members : s.balance.members = []
  state : s.thermal.state = .inhibited
  level : s.thermal.level = 3
  awake : s.svc.mode ≠ .loading

theorem thermalInhibit_of_flag {s : State} (h : s.peers.containerFire = true) : s.thermalInhibit = true := by
  simp [State.thermalInhibit, h]

theorem forcedCause_of_flag {s : State} (h : s.peers.containerFire = true) : s.forcedCause = true := by
  simp [State.forcedCause, h]

/-- Under the inhibit the thermal controller moves no contactor and is INHIBITED at its level (R88, R89). -/
theorem thermalReview_inhibits {s : State} (hm : s.svc.mode ≠ .loading) (hi : s.thermalInhibit = true) :
    s.thermalReview.conn.state = s.conn.state ∧ s.thermalReview.thermal.state = .inhibited
      ∧ s.thermalReview.thermal.level = s.inhibitLevel := by
  have ended : s.endDemand.conn.state = s.conn.state := by
    unfold State.endDemand
    split
    · exact heatRelease_state _
    · rfl
  have hlevel : (s.endDemand.setThermal .inhibited).inhibitLevel = s.inhibitLevel := by
    have hs := s.endDemand_safe
    change (if fireAlarmed s.endDemand.fire.state || s.endDemand.peers.containerFire then 3 else 0) = _
    rw [hs.fire, hs.peers]
    rfl
  unfold State.thermalReview
  rw [if_neg hm, if_pos hi]
  split
  · next h =>
    obtain ⟨hc, hs, hl⟩ := setLevel_stateAndLevel s s.inhibitLevel
    exact ⟨hc, hs.trans h, hl⟩
  · obtain ⟨hc, hs, hl⟩ := setLevel_stateAndLevel (s.endDemand.setThermal .inhibited) (s.endDemand.setThermal .inhibited).inhibitLevel
    exact ⟨hc.trans ended, hs, hl.trans hlevel⟩

theorem heatRelease_members (s : State) : s.heatRelease.balance = s.balance := (heatRelease_ignores.keeps s).2.2

/-- Under the inhibit the thermal controller adds no member to the balance set. -/
theorem thermalReview_members {s : State} (hi : s.thermalInhibit = true) (h : s.balance.members = []) :
    s.thermalReview.balance.members = [] := by
  have level : ∀ (t : State) k, t.balance.members = [] → (t.setLevel k).balance.members = [] := fun t k ht => by
    rw [setLevel_members, ht, ite_self]
  unfold State.thermalReview
  rw [if_pos hi]
  split
  · exact h
  · split
    · exact level s _ h
    · exact level _ _ ((congrArg Balance.members (endDemand_ignores.keeps s).2.2).trans h)

namespace State.UnderFire

theorem of_fireActs {s t : State} (h : s.UnderFire) (k : s.FireActs t) : t.UnderFire :=
  ⟨k.peers ▸ h.flag, k.env ▸ h.ec, k.env ▸ h.ed, k.balance ▸ h.members, k.thermal ▸ h.state, k.thermal ▸ h.level,
    k.mode ▸ h.awake⟩

theorem of_blocks {s t : State} (h : s.UnderFire) (k : s.KeepsBlocks t) : t.UnderFire :=
  ⟨k.peers ▸ h.flag, k.env ▸ h.ec, k.env ▸ h.ed, k.balance ▸ h.members, k.thermal ▸ h.state, k.thermal ▸ h.level, by
    rw [k.svc]; exact h.awake⟩

/-- The drops and the inhibit have been taken already. -/
theorem zeroPair_eq {s : State} (h : s.UnderFire) : s.zeroPair = s :=
  congrArg₂ (fun a b => ({ s with env := { s.env with ec := a, ed := b } } : State)) h.ec.symm h.ed.symm

theorem emptyBalance_eq {s : State} (h : s.UnderFire) : s.emptyBalance = s := if_pos h.members.symm

theorem thermalReview_eq {s : State} (h : s.UnderFire) : s.thermalReview = s := by
  have hlevel : s.inhibitLevel = s.thermal.level := by rw [State.inhibitLevel, h.flag, Bool.or_true, if_pos rfl, h.level]
  unfold State.thermalReview
  rw [if_neg h.awake, if_pos (thermalInhibit_of_flag h.flag), if_pos h.state]
  exact if_pos hlevel

theorem setContainerFire_eq {s : State} (h : s.UnderFire) : s.setContainerFire = s := if_pos h.flag

/-- The review of the thermal controller completes what the drops began. -/
theorem of_review {s : State} (hflag : s.peers.containerFire = true) (hec : s.env.ec = 0) (hed : s.env.ed = 0)
    (hmembers : s.balance.members = []) (hawake : s.svc.mode ≠ .loading) : s.thermalReview.UnderFire := by
  have hi := thermalInhibit_of_flag hflag
  have hs := s.thermalReview_safe
  obtain ⟨-, hstate, hlevel⟩ := thermalReview_inhibits hawake hi
  have h3 : s.inhibitLevel = 3 := by simp [State.inhibitLevel, hflag]
  exact ⟨hs.peers ▸ hflag, hs.env ▸ hec, hs.env ▸ hed, thermalReview_members hi hmembers, hstate, hlevel.trans h3, by
    rw [hs.svc]; exact hawake⟩

end State.UnderFire

/-- The claims behind the drops under container fire and in SAFE (R72, R83, R84). -/
theorem released_yields {s : State} (h : s.frames ≤ 8) (hi : s.thermalInhibit = true) :
    let t := ((s.emptyBalance.joinReleaseByOther false).heatRelease).thermalReview
    s.Yields 0 t ∧ t.claims.join.own.released = t.claims.join.own ∧ t.claims.heat.own.released = t.claims.heat.own := by
  intro t
  have emptied := emptyBalance_yields s
  have joined := emptied.behind (joinReleaseByOther_yields (emptied.bound h))
  have heated := joined.behind (heatRelease_yields (joined.bound h))
  have inhibit : (s.emptyBalance.joinReleaseByOther false).heatRelease.thermalInhibit = true := by
    have hs := (s.emptyBalance_safe.trans (State.joinReleaseByOther_safe _ false)).trans (State.heatRelease_safe _)
    unfold State.thermalInhibit
    rw [hs.svc, hs.fire, hs.peers]
    exact hi
  have reviewed := thermalReview_yields (heated.bound h) inhibit
  refine ⟨heated.behind reviewed, reviewed.joinSettled ?_, reviewed.heatSettled (heatRelease_settled (joined.bound h))⟩
  exact (heatRelease_yields (joined.bound h)).joinSettled
    ((joinReleaseByOther_behind (emptied.bound h)).joinSettled (joinRelease_settled _ _))

/-- The connection state behind them (R131). -/
theorem released_state {s : State} (hm : s.svc.mode ≠ .loading) (hi : s.thermalInhibit = true) :
    let t := ((s.emptyBalance.joinReleaseByOther false).heatRelease).thermalReview
    s.conn.state = .waitToken ∨ s.conn.state = .openRack → t.conn.state = .openRack := by
  intro t hs
  have hsafe := (s.emptyBalance_safe.trans (State.joinReleaseByOther_safe _ false)).trans (State.heatRelease_safe _)
  have hmode : (s.emptyBalance.joinReleaseByOther false).heatRelease.svc.mode ≠ .loading := by rw [hsafe.svc]; exact hm
  have inhibit : (s.emptyBalance.joinReleaseByOther false).heatRelease.thermalInhibit = true := by
    unfold State.thermalInhibit
    rw [hsafe.svc, hsafe.fire, hsafe.peers]
    exact hi
  have emptied : s.emptyBalance.conn.state = s.conn.state := by
    unfold State.emptyBalance State.setMembers
    split <;> rfl
  rw [(thermalReview_inhibits hmode inhibit).1, heatRelease_state]
  rcases hs with hs | hs
  · exact joinReleaseByOther_waiting (emptied.trans hs)
  · exact joinReleaseByOther_open (emptied.trans hs)

/-- The container fire flag goes from clear to set (R60, R41, R46, R88). -/
theorem setContainerFire_of_clear {s : State} (h : s.peers.containerFire = false) : s.setContainerFire =
    (((({ s with peers := { s.peers with containerFire := true } } : State).zeroPair.emptyBalance).joinReleaseByOther
      false).heatRelease).thermalReview := if_neg (by simp [h])

theorem setContainerFire_underFire {s : State} (hm : s.svc.mode ≠ .loading) (h : s.peers.containerFire = false) :
    s.setContainerFire.UnderFire := by
  set v := ({ s with peers := { s.peers with containerFire := true } } : State).zeroPair with hv
  have hsafe := (v.emptyBalance_safe.trans (State.joinReleaseByOther_safe _ false)).trans (State.heatRelease_safe _)
  have hmembers : (v.emptyBalance.joinReleaseByOther false).heatRelease.balance.members = [] := by
    rw [heatRelease_members, (joinReleaseByOther_blocks _ _).balance]
    exact setMembers_members v []
  rw [setContainerFire_of_clear h]
  exact .of_review (by rw [hsafe.peers]; rfl) (by rw [hsafe.env]; rfl) (by rw [hsafe.env]; rfl) hmembers (by rw [hsafe.svc]; exact hm)

theorem setContainerFire_yields {s : State} (h : s.frames ≤ 8) (hf : s.peers.containerFire = false) :
    s.Yields 0 s.setContainerFire
      ∧ s.setContainerFire.claims.join.own.released = s.setContainerFire.claims.join.own
      ∧ s.setContainerFire.claims.heat.own.released = s.setContainerFire.claims.heat.own := by
  rw [setContainerFire_of_clear hf]
  obtain ⟨hy, hj, hh⟩ := released_yields (s := ({ s with peers := { s.peers with containerFire := true } } : State).zeroPair) h
    (thermalInhibit_of_flag rfl)
  exact ⟨hy.after rfl, hj, hh⟩

theorem setContainerFire_state {s : State} (hm : s.svc.mode ≠ .loading) (hf : s.peers.containerFire = false)
    (hs : s.conn.state = .waitToken ∨ s.conn.state = .openRack) : s.setContainerFire.conn.state = .openRack := by
  rw [setContainerFire_of_clear hf]
  exact released_state (s := ({ s with peers := { s.peers with containerFire := true } } : State).zeroPair) hm
    (thermalInhibit_of_flag rfl) hs

/-! ### The end of the command that brings container fire or SAFE -/

theorem settle_open {s : State} (h : s.conn.state = .openRack) : s.settle.conn.state = .openRack := by
  have : s.reviewForced = s := reviewForced_of_not_taken (by rw [h]; rfl)
  change s.reviewForced.conn.state = .openRack
  rw [this, h]

/-- The permit is withheld in another mode than ACTIVE and under container fire (R153). -/
theorem settle_permit {s : State} (h : s.svc.mode ≠ .active ∨ s.peers.containerFire = true) : s.settle.grid.permit = false := by
  have hb := s.reviewForced_blocks
  have hs : s.reviewForced.svc.mode ≠ .active ∨ s.reviewForced.peers.containerFire = true := by
    rw [hb.svc, hb.peers]
    exact h
  change s.reviewForced.permitNow = false
  rcases hs with hs | hs <;> simp [State.permitNow, hs]

/-- Claims that an operation has given up, each list's within the room that its release needs, stand as R72 says. -/
theorem State.ClaimsReleased.of_yields {s t : State} (hw : s.conn.state = .waitToken → t.conn.state = .openRack)
    (hy : s.link.queue.length ≤ 3 → ∃ n, s.Yields n t ∧ t.claims.join.own.released = t.claims.join.own
      ∧ t.claims.heat.own.released = t.claims.heat.own) : s.ClaimsReleased t where
  waiting := hw
  join := fun hq => by
    obtain ⟨n, hyield, hset, -⟩ := hy hq
    have hown := hset.symm.trans hyield.join
    refine ⟨fun hs => by rw [hown, hs]; rfl, fun hs => ?_, fun mark => ⟨fun hs => by rw [hown, hs]; rfl, fun hs => by
      rw [hown, hs]; rfl⟩⟩
    obtain ⟨hdone, hframe⟩ := hyield.joinFrame hs (OwnClaim.ne_listed_of_released hset)
    exact ⟨by rw [hown, hs]; rfl, hdone, hframe⟩
  heat := fun hq => by
    obtain ⟨n, hyield, -, hset⟩ := hy hq
    have hown := hset.symm.trans hyield.heat
    have hfree := OwnClaim.ne_listed_of_released hset
    refine ⟨fun hs => by rw [hown, hs]; rfl, fun hs => ?_, fun mark => ⟨fun hs => by rw [hown, hs]; rfl, fun hs => by
      rw [hown, hs]; rfl⟩⟩
    exact ⟨by rw [hown, hs]; rfl, hyield.slot (.inl hs) hfree, hyield.heatFrame hs hfree⟩

/-- What has been given up before the command's end is given up after it. -/
theorem claimsReleased_settle {s u : State} (hw : s.conn.state = .waitToken → u.conn.state = .openRack)
    (hy : s.link.queue.length ≤ 3 → u.frames ≤ 8 ∧ ∃ n, s.Yields n u ∧ u.claims.join.own.released = u.claims.join.own
      ∧ u.claims.heat.own.released = u.claims.heat.own) : s.ClaimsReleased u.settle :=
  .of_yields (fun hs => settle_open (hw hs)) fun hq => by
    obtain ⟨hroom, n, hyield, hj, hh⟩ := hy hq
    have settled := settle_yields hroom
    exact ⟨_, hyield.trans settled, settled.joinSettled hj, settled.heatSettled hh⟩

/-- The command that sets the container fire flag has every block take it by its end (the table of R60). -/
theorem fireHeard_settle {s u : State} (hu : u.UnderFire) (hw : s.conn.state = .waitToken → u.conn.state = .openRack)
    (hy : s.link.queue.length ≤ 3 → u.frames ≤ 8 ∧ ∃ n, s.Yields n u ∧ u.claims.join.own.released = u.claims.join.own
      ∧ u.claims.heat.own.released = u.claims.heat.own) : s.FireHeard u.settle where
  flag := u.settle_containerFire.trans hu.flag
  pair := by rw [u.settle_env]; exact ⟨hu.ec, hu.ed⟩
  members := by rw [u.settle_balance]; exact hu.members
  leaves := State.settle_leaves (forcedCause_of_flag hu.flag)
  claims := claimsReleased_settle hw hy
  inhibited := ⟨u.settle_thermal.1.trans hu.state, u.settle_thermal.2.trans hu.level⟩
  permit := settle_permit (.inr hu.flag)

end Sys2Proof.Machine

namespace Sys2Proof.Machine

open Sys2Proof

/-! ### A received frame of a broadcast kind -/

theorem exec_of_heard {s t : State} {p : List Byte} {length : Nat} {act : State → State} (h : s.Hears) (hl : p.length = length)
    (ht : act s.heard = t) (hr : t.svc.restart = .none) : (s.receiveKind p length act).finish = .next t.settle := by
  rw [State.receiveKind, receive_of_hears _ h, if_pos hl, ht]
  exact finish_of_none hr

/-- The fire states of a listed byte that are ALARM or later (R60, R183). -/
theorem fireAlarmed_fireOfByte {b : Byte} (h : b.toNat ≤ 5) : fireAlarmed (fireOfByte b) = true ↔ 2 ≤ b.toNat := by
  unfold fireOfByte
  interval_cases b.toNat <;> simp [fireAlarmed]

/-- What the judgements of an ANNOUNCE payload come to for its length, fire state and zone (R183). -/
theorem announcePayloadOk_listed {p : List Byte} (h : announcePayloadOk p = true) :
    p.length = 24 ∧ (p.getD 2 0).toNat ≤ 5 ∧ zoneOfByte (p.getD 4 0) = (p.getD 4 0).toNat := by
  simp only [announcePayloadOk, Bool.and_eq_true, beq_iff_eq, decide_eq_true_eq] at h
  obtain ⟨⟨⟨⟨⟨⟨⟨hlength, -⟩, -⟩, hfire⟩, -⟩, hzone⟩, -⟩, -⟩ := h
  exact ⟨hlength, hfire, if_pos hzone⟩

/-! ### A reported fire state (R60) -/

theorem fireReported_of_alarmed {s : State} {f : FireState} (h : fireAlarmed f = true) :
    s.fireReported f = s.setContainerFire := if_pos h

theorem fireReported_of_not_alarmed {s : State} {f : FireState} (h : ¬fireAlarmed f = true) : s.fireReported f = s := if_neg h

theorem setContainerFire_of_set {s : State} (h : s.peers.containerFire = true) : s.setContainerFire = s := if_pos h

theorem fireReported_readings (s : State) (f : FireState) : s.KeepsReadings (s.fireReported f) := by
  by_cases h : fireAlarmed f = true
  · rw [fireReported_of_alarmed h]
    exact s.setContainerFire_readings
  · rw [fireReported_of_not_alarmed h]
    exact .refl s

theorem setContainerFire_flag (s : State) : s.setContainerFire.peers.containerFire = true := by
  cases h : s.peers.containerFire with
  | true => rw [setContainerFire_of_set h, h]
  | false =>
    rw [setContainerFire_of_clear h, (State.released_safe _).peers]
    rfl

/-- A report makes a waiting station release its join claim, or leaves it waiting. -/
theorem fireReported_state {s : State} {f : FireState} (hm : s.svc.mode ≠ .loading) (h : s.conn.state = .waitToken) :
    (s.fireReported f).conn.state = .waitToken ∨ (s.fireReported f).conn.state = .openRack := by
  by_cases hf : fireAlarmed f = true ∧ s.peers.containerFire = false
  · rw [fireReported_of_alarmed hf.1]
    exact .inr (setContainerFire_state hm hf.2 (.inl h))
  · refine .inl ((congrArg (fun t : State => t.conn.state) ?_).trans h)
    by_cases ha : fireAlarmed f = true
    · rw [fireReported_of_alarmed ha, setContainerFire_of_set (by simpa [ha] using hf)]
    · exact fireReported_of_not_alarmed ha

theorem fireReported_yields {s : State} (h : s.frames ≤ 8) (f : FireState) : s.Yields 0 (s.fireReported f) :=
  .ite (fun _ => by
    cases hf : s.peers.containerFire with
    | true => rw [setContainerFire_of_set hf]; exact .refl s
    | false => exact (setContainerFire_yields h hf).1) fun _ => .refl s

/-! ### DUPLICATE_ID behind it (R58, R84, R177) -/

theorem thermalInhibit_of_madeSafe (s : State) : s.madeSafe.zeroPair.thermalInhibit = true := by
  simp [State.thermalInhibit, State.madeSafe, State.zeroPair]

/-- Under the inhibit the drops leave the set empty. -/
theorem released_members {s : State} (h : s.thermalInhibit = true) :
    (((s.emptyBalance.joinReleaseByOther false).heatRelease).thermalReview).balance.members = [] := by
  have hs := (s.emptyBalance_safe.trans (State.joinReleaseByOther_safe _ false)).trans (State.heatRelease_safe _)
  have inhibit : (s.emptyBalance.joinReleaseByOther false).heatRelease.thermalInhibit = true := by
    unfold State.thermalInhibit
    rw [hs.svc, hs.fire, hs.peers]
    exact h
  refine thermalReview_members inhibit ?_
  rw [heatRelease_members, (joinReleaseByOther_blocks _ _).balance]
  exact setMembers_members s []

theorem setDuplicateId_members {s : State} (h : s.svc.mode = .listening ∨ s.svc.mode = .active) :
    s.setDuplicateId.balance.members = [] := by
  rw [setDuplicateId_of_mode h]
  exact released_members (thermalInhibit_of_madeSafe s)

theorem setDuplicateId_containerFire (s : State) : s.setDuplicateId.peers.containerFire = s.peers.containerFire := by
  by_cases h : s.svc.mode = .listening ∨ s.svc.mode = .active
  · rw [setDuplicateId_of_mode h, (State.released_safe _).peers]
    rfl
  · obtain ⟨hl, ha⟩ := not_or.mp h
    rw [setDuplicateId_of_other hl ha]

/-- The entry to SAFE gives both own claims up (R84). -/
theorem setDuplicateId_yields {s : State} (hf : s.frames ≤ 8) (h : s.svc.mode = .listening ∨ s.svc.mode = .active) :
    s.Yields 0 s.setDuplicateId
      ∧ s.setDuplicateId.claims.join.own.released = s.setDuplicateId.claims.join.own
      ∧ s.setDuplicateId.claims.heat.own.released = s.setDuplicateId.claims.heat.own := by
  rw [setDuplicateId_of_mode h]
  obtain ⟨hy, hj, hh⟩ := released_yields (s := s.madeSafe.zeroPair) hf (thermalInhibit_of_madeSafe s)
  exact ⟨hy.after rfl, hj, hh⟩

theorem setDuplicateId_state {s : State} (h : s.svc.mode = .listening ∨ s.svc.mode = .active)
    (hs : s.conn.state = .waitToken ∨ s.conn.state = .openRack) : s.setDuplicateId.conn.state = .openRack := by
  rw [setDuplicateId_of_mode h]
  exact released_state (s := s.madeSafe.zeroPair) nofun (thermalInhibit_of_madeSafe s) hs

theorem setDuplicateId_open {s : State} (hs : s.conn.state = .openRack) : s.setDuplicateId.conn.state = .openRack := by
  by_cases h : s.svc.mode = .listening ∨ s.svc.mode = .active
  · exact setDuplicateId_state h (.inr hs)
  · obtain ⟨hl, ha⟩ := not_or.mp h
    rw [setDuplicateId_of_other hl ha]
    exact hs

/-- DUPLICATE_ID adds nothing to what container fire has had the blocks take. -/
theorem State.UnderFire.setDuplicateId {s : State} (hu : s.UnderFire) : s.setDuplicateId.UnderFire := by
  by_cases h : s.svc.mode = .listening ∨ s.svc.mode = .active
  · have safe : s.madeSafe.UnderFire := ⟨hu.flag, hu.ec, hu.ed, hu.members, hu.state, hu.level, nofun⟩
    have joined := safe.of_blocks (joinReleaseByOther_blocks _ false)
    have heated := State.heatRelease_safe (s.madeSafe.joinReleaseByOther false)
    rw [setDuplicateId_of_mode h, safe.zeroPair_eq, safe.emptyBalance_eq]
    exact .of_review (heated.peers ▸ joined.flag) (heated.env ▸ joined.ec) (heated.env ▸ joined.ed)
      (by rw [heatRelease_members]; exact joined.members) (by rw [heated.svc]; exact joined.awake)
  · obtain ⟨hl, ha⟩ := not_or.mp h
    rw [setDuplicateId_of_other hl ha]
    exact ⟨hu.flag, hu.ec, hu.ed, hu.members, hu.state, hu.level, hu.awake⟩

/-- The claims of a station that an own alarm has reached stay given up under DUPLICATE_ID. -/
theorem setDuplicateId_settled {s : State} (hf : s.frames ≤ 8)
    (h : s.claims.join.own.released = s.claims.join.own ∧ s.claims.heat.own.released = s.claims.heat.own) :
    s.Yields 0 s.setDuplicateId
      ∧ s.setDuplicateId.claims.join.own.released = s.setDuplicateId.claims.join.own
      ∧ s.setDuplicateId.claims.heat.own.released = s.setDuplicateId.claims.heat.own := by
  by_cases hm : s.svc.mode = .listening ∨ s.svc.mode = .active
  · exact setDuplicateId_yields hf hm
  · obtain ⟨hl, ha⟩ := not_or.mp hm
    rw [setDuplicateId_of_other hl ha]
    exact ⟨.of_read rfl rfl, h⟩

/-- What an ANNOUNCE under the own number leaves of the claims of a station in LISTENING or ACTIVE (R84). -/
theorem claimsReleased_setDuplicateId {s : State} {f : FireState} (hm : s.svc.mode = .listening ∨ s.svc.mode = .active) :
    s.ClaimsReleased (s.fireReported f).setDuplicateId.settle := by
  have hmode : (s.fireReported f).svc.mode = s.svc.mode := (s.fireReported_lists f).mode
  have hsafe : (s.fireReported f).svc.mode = .listening ∨ (s.fireReported f).svc.mode = .active := by rwa [hmode]
  refine claimsReleased_settle (fun hw => ?_) fun hq => ?_
  · exact setDuplicateId_state hsafe (fireReported_state (by rcases hm with h | h <;> simp [h]) hw)
  · have hroom : s.frames ≤ 8 := (frames_le s).trans (by omega)
    have reported := fireReported_yields hroom f
    obtain ⟨hy, hset⟩ := setDuplicateId_yields (reported.bound hroom) hsafe
    exact ⟨(reported.trans hy).bound hroom, 0, reported.behind hy, hset⟩

/-- What it leaves of the blocks where it sets the container fire flag (R58, R60). -/
theorem fireHeard_setDuplicateId {s : State} (hm : s.svc.mode ≠ .loading) (hf : s.peers.containerFire = false) :
    s.FireHeard s.setContainerFire.setDuplicateId.settle := by
  refine fireHeard_settle (setContainerFire_underFire hm hf).setDuplicateId (fun hw => ?_) fun hq => ?_
  · exact setDuplicateId_open (setContainerFire_state hm hf (.inl hw))
  · have hroom : s.frames ≤ 8 := (frames_le s).trans (by omega)
    obtain ⟨flagged, hset⟩ := setContainerFire_yields hroom hf
    obtain ⟨hy, hset'⟩ := setDuplicateId_settled (flagged.bound hroom) hset
    exact ⟨(flagged.trans hy).bound hroom, 0, flagged.behind hy, hset'⟩

theorem State.FireHeard.of_heard {s t : State} (h : s.heard.FireHeard t) : s.FireHeard t :=
  { h with claims := { h.claims with } }

theorem State.ClaimsReleased.of_heard {s t : State} (h : s.heard.ClaimsReleased t) : s.ClaimsReleased t := { h with }

/-- Settles O43: the container fire flag and DUPLICATE_ID taken one behind the other, and the judgements at the command's end. -/
theorem ownNumberAnnounceMakesSafe : Obligations.OwnNumberAnnounceMakesSafe := by
  intro s sender p h hr hok hn
  obtain ⟨hlength, hlisted, -⟩ := announcePayloadOk_listed hok
  set f := fireOfByte (p.getD 2 0) with hf
  set a := s.heard.fireReported f with ha
  have alarmed : fireAlarmed f = true ↔ 2 ≤ (p.getD 2 0).toNat := fireAlarmed_fireOfByte hlisted
  have taken : s.heard.takeAnnounce sender.toNat p = a.setDuplicateId := by
    have hpeer : s.heard.isPeer sender.toNat = false := by
      change (isStation sender.toNat && sender.toNat != s.ownNumber) = false
      simp [hn]
    unfold State.takeAnnounce
    rw [if_neg (by simp [hpeer])]
    exact if_pos hn
  have hnone : a.setDuplicateId.svc.restart = .none :=
    (a.setDuplicateId_latches (e := [])) .restart List.not_mem_nil
      ((s.heard.fireReported_latches f (e := [])) .restart List.not_mem_nil hr)
  have reported := s.heard.fireReported_lists f
  have ended := a.setDuplicateId.settle_lists
  obtain ⟨hdup, -, hjoin, hheat⟩ := setDuplicateId_counts a
  refine ⟨_, exec_of_heard h hlength taken hnone, ended.duplicateId.trans hdup, fun hm => ?_, fun hl hac => ?_, fun h2 => ?_,
    fun h2 => ?_, ?_, (ended.join.trans hjoin).trans reported.join, (ended.heat.trans hheat).trans reported.heat⟩
  · have hmode : a.svc.mode = .listening ∨ a.svc.mode = .active := by rw [reported.mode]; exact hm
    obtain ⟨hsafe, hec, hed⟩ := setDuplicateId_safe hmode
    rw [State.settle_env, State.settle_balance]
    exact ⟨ended.mode.trans hsafe, hec, hed, setDuplicateId_members hmode, settle_permit (.inl (by rw [hsafe]; nofun)),
      State.settle_leaves (forcedCause_of_safe hsafe), (claimsReleased_setDuplicateId (s := s.heard) hm).of_heard⟩
  · have hmode : a.svc.mode = s.svc.mode := reported.mode
    rw [ended.mode, setDuplicateId_of_other (hmode ▸ hl) (hmode ▸ hac)]
    exact hmode
  · have flagged : a = s.heard.setContainerFire := fireReported_of_alarmed (alarmed.mpr h2)
    rw [flagged, State.settle_containerFire, setDuplicateId_containerFire]
    exact ⟨setContainerFire_flag _, fun hclear => (fireHeard_setDuplicateId (s := s.heard) h.awake hclear).of_heard⟩
  · have unflagged : a = s.heard := fireReported_of_not_alarmed fun h => absurd (alarmed.mp h) (by omega)
    rw [State.settle_containerFire, setDuplicateId_containerFire, unflagged]
    rfl
  · exact (((fireReported_readings _ f).trans (a.setDuplicateId_readings)).trans (State.settle_readings _)).table

end Sys2Proof.Machine

namespace Sys2Proof.Machine

open Sys2Proof

/-! ### The peer table (R55 to R57) -/

/-- The record that is put in its place is the one of its number, -/
theorem find_putRecord_same (r : PeerRecord) (l : List PeerRecord) :
    (putRecord r l).find? (fun x => x.number == r.number) = some r := by
  induction l with
  | nil => simp [putRecord]
  | cons x xs ih =>
    unfold putRecord
    split
    · simp
    · next hne =>
      split
      · simp
      · simpa [List.find?_cons, hne] using ih

/-- and every other number has the record that it had. -/
theorem find_putRecord_other {r : PeerRecord} {n : Nat} (hn : n ≠ r.number) (l : List PeerRecord) :
    (putRecord r l).find? (fun x => x.number == n) = l.find? (fun x => x.number == n) := by
  have hr : ¬r.number = n := fun h => hn h.symm
  induction l with
  | nil => simp [putRecord, hr]
  | cons x xs ih =>
    unfold putRecord
    split
    · next hx => simp [hx, hr]
    · split
      · simp [List.find?_cons, hr]
      · rw [List.find?_cons, List.find?_cons, ih]

theorem mem_putRecord_self (r : PeerRecord) (l : List PeerRecord) : r ∈ putRecord r l :=
  List.mem_of_find?_eq_some (find_putRecord_same r l)

/-- In a table in ascending order of the numbers, the record replaces every one of its number. -/
theorem mem_putRecord {r x : PeerRecord} {l : List PeerRecord} (h : (l.map (·.number)).Pairwise (· < ·))
    (hx : x ∈ putRecord r l) : x = r ∨ x ∈ l ∧ x.number ≠ r.number := by
  induction l with
  | nil => exact .inl (List.mem_singleton.mp hx)
  | cons y ys ih =>
    obtain ⟨hfirst, hrest⟩ := List.pairwise_cons.mp h
    have above : ∀ z ∈ ys, y.number < z.number := fun z hz => hfirst _ (List.mem_map_of_mem hz)
    unfold putRecord at hx
    split at hx
    · next hy =>
      refine (List.mem_cons.mp hx).imp_right fun hz => ⟨List.mem_cons_of_mem _ hz, ?_⟩
      have := above x hz
      omega
    · next hy =>
      split at hx
      · next hlt =>
        refine (List.mem_cons.mp hx).imp_right fun hz => ⟨hz, ?_⟩
        rcases List.mem_cons.mp hz with rfl | hz
        · omega
        · have := above x hz
          omega
      · rcases List.mem_cons.mp hx with rfl | hz
        · exact .inr ⟨List.mem_cons_self, hy⟩
        · exact (ih hrest hz).imp_right fun ⟨hmem, hne⟩ => ⟨List.mem_cons_of_mem _ hmem, hne⟩

theorem noticedRecord_number {s : State} (n : Nat) (p : List Byte) : (noticedRecord (s.peers.record n) n p).number = n := by
  unfold noticedRecord
  cases h : s.peers.record n with
  | none => rfl
  | some r => simpa using List.find?_some h

/-- The list after the repair by a claim flag (R75). -/
theorem repairBy_eq (flag : Bool) (n : Nat) (l : List Nat) :
    repairBy flag n l = if flag then (if n ∈ l then l else l ++ [n]) else l.filter (fun x => x != n) := by
  simp [repairBy, appendAbsent, removeNumber]

/-! ### The zone key check (R65, R109, R116) -/

theorem zoneKeyNow_iff {s : State} : s.zoneKeyNow = true ↔
    ∃ r ∈ s.peers.table, r.presence = .present ∧ r.zone = s.svc.straps.zone.toNat + 1 ∧ r.key = true := by
  simp [State.zoneKeyNow, State.ownZone, and_assoc]

theorem reviewZoneKey_of_same {s : State} (h : s.zoneKeyNow = s.peers.zoneKey) : s.reviewZoneKey = s := if_pos h

/-- The zone key check brought up to date. -/
def State.keyUpdated (s : State) : State := { s with peers := { s.peers with zoneKey := s.zoneKeyNow } }

theorem reviewZoneKey_of_change {s : State} (h : s.zoneKeyNow ≠ s.peers.zoneKey) :
    s.reviewZoneKey = s.keyUpdated.reviewInhibit := if_neg h

theorem keyUpdated_of_same {s : State} (h : s.zoneKeyNow = s.peers.zoneKey) : s.keyUpdated = s :=
  congrArg (fun k => ({ s with peers := { s.peers with zoneKey := k } } : State)) h

/-- Either way the check is brought up to date, and else the fire unit acts at most. -/
theorem reviewZoneKey_fireActs (s : State) : s.keyUpdated.FireActs s.reviewZoneKey := by
  by_cases h : s.zoneKeyNow = s.peers.zoneKey
  · rw [reviewZoneKey_of_same h, keyUpdated_of_same h]
    exact .refl s
  · rw [reviewZoneKey_of_change h]
    exact reviewInhibit_fireActs _

theorem reviewInhibit_of_early {s : State} (h : s.fire.state = .normal ∨ s.fire.state = .preAlarm) : s.reviewInhibit = s := by
  unfold State.reviewInhibit
  rcases h with h | h <;> rw [h]

/-- Below ALARM the fire unit takes no notice of the key (R109, R116). -/
theorem reviewZoneKey_of_early {s : State} (h : s.fire.state = .normal ∨ s.fire.state = .preAlarm) :
    s.reviewZoneKey = s.keyUpdated := by
  by_cases hk : s.zoneKeyNow = s.peers.zoneKey
  · rw [reviewZoneKey_of_same hk, keyUpdated_of_same hk]
  · rw [reviewZoneKey_of_change hk]
    exact reviewInhibit_of_early (s := s.keyUpdated) h

theorem reviewZoneKey_yields {s : State} (h : s.frames < 8) : s.Yields 1 s.reviewZoneKey := by
  by_cases hk : s.zoneKeyNow = s.peers.zoneKey
  · rw [reviewZoneKey_of_same hk]
    exact .refl s
  · rw [reviewZoneKey_of_change hk]
    exact .after (reviewInhibit_yields (s := s.keyUpdated) h) rfl

/-- The inhibit of R109, where it begins. -/
theorem reviewInhibit_begins {s : State} (hs : s.fire.state = .releaseDelay ∨ s.fire.state = .releaseHeld)
    (h : s.inhibited = true) : s.reviewInhibit.fire.state = .alarm ∧ s.reviewInhibit.fire.countdown = none := by
  have back : s.reviewInhibit = (s.setFire .alarm).setCountdown none := by
    unfold State.reviewInhibit
    rcases hs with hs | hs <;> rw [hs] <;> exact if_pos h
  rw [back]
  exact ⟨s.setFire_state .alarm, rfl⟩

theorem enterReleased_state (s : State) : s.enterReleased.fire.state = .released ∧ s.enterReleased.fire.release = true := by
  obtain ⟨x, hx⟩ := (State.enqueue_keeps (((s.setFire .released).setCountdown none).setFireLines true true true)
    (((s.setFire .released).setCountdown none).setFireLines true true true).fireNotice).fire
  rw [State.enterReleased, hx]
  exact ⟨s.setFire_state .released, rfl⟩

/-- The entry to the countdown by abort input and delay (R116, R117). -/
theorem enterReleaseDelay_state (s : State) :
    (s.lines.abort = true → s.enterReleaseDelay.fire.state = .releaseHeld ∧ s.enterReleaseDelay.fire.countdown = none)
      ∧ (s.lines.abort = false → s.releaseDelayMs ≠ 0 →
        s.enterReleaseDelay.fire.state = .releaseDelay ∧ s.enterReleaseDelay.fire.countdown = some s.releaseDelayMs)
      ∧ (s.lines.abort = false → s.releaseDelayMs = 0 →
        s.enterReleaseDelay.fire.state = .released ∧ s.enterReleaseDelay.fire.release = true) := by
  refine ⟨fun ha => ?_, fun ha hd => ?_, fun ha hd => ?_⟩ <;> unfold State.enterReleaseDelay
  · rw [if_pos ha]
    exact ⟨s.setFire_state .releaseHeld, rfl⟩
  · rw [if_neg (by simp [ha]), if_neg hd]
    exact ⟨s.setFire_state .releaseDelay, rfl⟩
  · rw [if_neg (by simp [ha]), if_pos hd]
    exact enterReleased_state s

/-- What a change of the zone key check acts by, as it stands ahead of the command. -/
def State.keyReadBefore (s : State) : FireState × Bool × Bool × Bool × Nat :=
  (s.fire.state, s.fire.serviceKey, s.peers.zoneKey, s.lines.abort, s.releaseDelayMs)

/-- What the zone key check reads. -/
def State.keyReadBehind (s : State) : List PeerRecord × Bool × StrapPins := (s.peers.table, s.peers.zoneKey, s.svc.straps)

/-- The parts of the fire unit that the end of the inhibit moves. -/
def State.keyOutcome (s : State) : FireState × Timer × Bool := (s.fire.state, s.fire.countdown, s.fire.release)

theorem reviewZoneKey_read (s : State) : s.reviewZoneKey.keyReadBehind = s.keyUpdated.keyReadBehind := by
  have h := reviewZoneKey_fireActs s
  rw [State.keyReadBehind, h.peers, h.straps]
  rfl

theorem State.ZoneKeyCurrent.of_read {s t : State} (h : s.ZoneKeyCurrent) (hr : t.keyReadBehind = s.keyReadBehind) :
    t.ZoneKeyCurrent := by
  simp only [keyReadBehind, Prod.mk.injEq] at hr
  obtain ⟨htable, hkey, hstraps⟩ := hr
  rw [ZoneKeyCurrent, htable, hkey, hstraps]
  exact h

theorem reviewZoneKey_current (s : State) : s.reviewZoneKey.ZoneKeyCurrent :=
  State.ZoneKeyCurrent.of_read (s := s.keyUpdated) zoneKeyNow_iff (reviewZoneKey_read s)

/-- The check brought up to date has acted on the countdown. -/
theorem reviewZoneKey_acted (s : State) : s.ZoneKeyActed s.reviewZoneKey := by
  have hkey : s.reviewZoneKey.peers.zoneKey = s.zoneKeyNow := congrArg PeerView.zoneKey (reviewZoneKey_fireActs s).peers
  refine ⟨reviewZoneKey_current s, fun hs hclear hset => ?_, fun hs hown hset hclear => ?_⟩ <;> rw [hkey] at *
  · rw [reviewZoneKey_of_change (by rw [hset, hclear]; nofun)]
    exact reviewInhibit_begins (s := s.keyUpdated) hs (by simp [State.inhibited, State.keyUpdated, hset])
  · have entered : s.keyUpdated.reviewInhibit = s.keyUpdated.enterReleaseDelay := by
      have hfree : s.keyUpdated.inhibited = false := by
        change (s.fire.serviceKey || s.zoneKeyNow) = false
        rw [hown, hclear]
        rfl
      unfold State.reviewInhibit
      rw [show s.keyUpdated.fire.state = .alarm from hs]
      exact if_neg (by simp [hfree])
    rw [reviewZoneKey_of_change (by rw [hset, hclear]; nofun), entered]
    exact enterReleaseDelay_state s.keyUpdated

/-- Behind operations that keep what the check reads. In NORMAL and PRE_ALARM it asks nothing of the fire unit. -/
theorem State.ZoneKeyActed.of_read {s w v t : State} (h : w.ZoneKeyActed v) (hs : w.keyReadBefore = s.keyReadBefore)
    (ht : t.keyReadBehind = v.keyReadBehind)
    (hf : s.fire.state = .alarm ∨ s.fire.state = .releaseDelay ∨ s.fire.state = .releaseHeld → t.keyOutcome = v.keyOutcome) :
    s.ZoneKeyActed t := by
  have current := h.current.of_read ht
  simp only [keyReadBefore, keyReadBehind, keyOutcome, Prod.mk.injEq] at hs ht hf
  obtain ⟨hstate, hown, hkey, habort, hdelay⟩ := hs
  obtain ⟨-, hkey', -⟩ := ht
  refine ⟨current, fun hcount hclear hset => ?_, fun halarm hkeyOwn hset hclear => ?_⟩
  · obtain ⟨ht1, ht2, -⟩ := hf (.inr hcount)
    rw [ht1, ht2]
    exact h.begins (hstate ▸ hcount) (hkey.trans hclear) (hkey' ▸ hset)
  · obtain ⟨ht1, ht2, ht3⟩ := hf (.inl halarm)
    rw [ht1, ht2, ht3, ← hdelay, ← habort]
    exact h.ends (hstate.trans halarm) (hown.trans hkeyOwn) (hkey.trans hset) (hkey' ▸ hclear)

/-! ### The fire unit under a report -/

/-- A report reaches of the peer view the container fire flag, and of the fire unit the census call alone. -/
theorem setContainerFire_rest (s : State) : s.setContainerFire.peers = { s.peers with containerFire := true }
    ∧ s.setContainerFire.fire = { s.fire with census := s.setContainerFire.fire.census } := by
  cases h : s.peers.containerFire with
  | true =>
    rw [setContainerFire_of_set h, ← h]
    exact ⟨rfl, rfl⟩
  | false =>
    rw [setContainerFire_of_clear h]
    have hs := State.released_safe ({ s with peers := { s.peers with containerFire := true } } : State).zeroPair
    exact ⟨hs.peers, hs.fire⟩

theorem fireReported_fire (s : State) (f : FireState) :
    (s.fireReported f).fire = { s.fire with census := (s.fireReported f).fire.census } := by
  by_cases h : fireAlarmed f = true
  · rw [fireReported_of_alarmed h]
    exact (setContainerFire_rest s).2
  · rw [fireReported_of_not_alarmed h]

theorem fireReported_zoneKey (s : State) (f : FireState) : (s.fireReported f).peers.zoneKey = s.peers.zoneKey := by
  by_cases h : fireAlarmed f = true
  · rw [fireReported_of_alarmed h, (setContainerFire_rest s).1]
  · rw [fireReported_of_not_alarmed h]

/-- What the check reads behind an operation that keeps the readings and the check itself. -/
theorem keyReadBehind_of_readings {s t : State} (h : s.KeepsReadings t) (hk : t.peers.zoneKey = s.peers.zoneKey) :
    t.keyReadBehind = s.keyReadBehind := by rw [State.keyReadBehind, h.table, h.straps, hk]; rfl

theorem fireReported_read (s : State) (f : FireState) : (s.fireReported f).keyReadBehind = s.keyReadBehind :=
  keyReadBehind_of_readings (fireReported_readings s f) (fireReported_zoneKey s f)

theorem settle_read (s : State) : s.settle.keyReadBehind = s.keyReadBehind :=
  keyReadBehind_of_readings s.settle_readings s.settle_zoneKey

/-- The entry to ALARM as far as its notice and its lines (R114, R115). -/
def State.alarmNoticed (s : State) : State :=
  let t := (s.setRepeat none).setFire .alarm
  (t.enqueue t.fireNotice).setFireLines false true true

theorem enterAlarm_eq (s : State) :
    s.enterAlarm = s.alarmNoticed.setContainerFire.zeroPair.emptyBalance.thermalReview.reviewInhibit := rfl

theorem alarmNoticed_fireActs (s : State) : s.FireActs s.alarmNoticed :=
  (((setFireUnit_fireActs s _).trans (setFire_fireActs _ .alarm)).trans (enqueue_fireActs _ _)).trans (setFireUnit_fireActs _ _)

theorem alarmNoticed_alarmed (s : State) : fireAlarmed s.alarmNoticed.fire.state = true := by
  have notice : ∀ (t : State) (e : Entry), t.KeepsLatches ((t.enqueue e).setFireLines false true true) [] := fun t e =>
    .trans (.of_safe (t.enqueue_safe e)) (State.setFireLines_latches _ _ _ _)
  exact notice ((s.setRepeat none).setFire .alarm) _ .alarm List.not_mem_nil (by rw [State.setFire_state]; rfl)

theorem alarmNoticed_yields {s : State} (h : s.frames < 8) : s.Yields 1 s.alarmNoticed := by
  have alarmed : s.Yields 0 ((s.setRepeat none).setFire .alarm) := .after (t := s.setRepeat none) (setFire_yields _ .alarm) rfl
  have hroom := alarmed.bound (m := 7) (by omega)
  have queued := enqueue_yields (s := (s.setRepeat none).setFire .alarm) (e := ((s.setRepeat none).setFire .alarm).fireNotice)
    (by unfold State.frames at hroom; omega)
  exact alarmed.behind (queued.trans (n := 0) (.of_read rfl rfl))

/-- The entry to ALARM leaves the zone key check, -/
theorem enterAlarm_zoneKey (s : State) : s.enterAlarm.peers.zoneKey = s.peers.zoneKey := by
  set u := s.alarmNoticed with hu
  have noticed : u.peers.zoneKey = s.peers.zoneKey := congrArg PeerView.zoneKey (alarmNoticed_fireActs s).peers
  have dropped := (State.emptyBalance_safe u.setContainerFire.zeroPair).trans (State.thermalReview_safe _)
  rw [enterAlarm_eq, (reviewInhibit_fireActs _).peers, dropped.peers, State.zeroPair_peers, (setContainerFire_rest _).1]
  exact noticed

/-- and ends in ALARM or later (R114, R116). -/
theorem enterAlarm_alarmed (s : State) : fireAlarmed s.enterAlarm.fire.state = true := by
  have dropped : ∀ u : State, u.KeepsLatches (u.setContainerFire.zeroPair.emptyBalance.thermalReview) [] := fun u =>
    .trans (u.setContainerFire_latches.trans (State.zeroPair_latches _))
      (.of_safe ((State.emptyBalance_safe _).trans (State.thermalReview_safe _)))
  exact ((dropped s.alarmNoticed).trans (State.reviewInhibit_latches _)) .alarm List.not_mem_nil (alarmNoticed_alarmed s)

/-- Where every block has taken container fire already, it moves the fire unit alone (R115), -/
theorem State.UnderFire.enterAlarm_eq {s : State} (h : s.UnderFire) : s.enterAlarm = s.alarmNoticed.reviewInhibit := by
  have hu := h.of_fireActs (alarmNoticed_fireActs s)
  rw [Machine.enterAlarm_eq, hu.setContainerFire_eq, hu.zeroPair_eq, hu.emptyBalance_eq, hu.thermalReview_eq]

theorem State.UnderFire.enterAlarm_fireActs {s : State} (h : s.UnderFire) : s.FireActs s.enterAlarm := by
  rw [h.enterAlarm_eq]
  exact (alarmNoticed_fireActs s).trans (reviewInhibit_fireActs _)

/-- and queues the notice of ALARM, with that of RELEASED behind it at most (R114, R117). -/
theorem State.UnderFire.enterAlarm_yields {s : State} (h : s.UnderFire) (hf : s.frames ≤ 6) : s.Yields 2 s.enterAlarm := by
  have noticed := alarmNoticed_yields (s := s) (by omega)
  rw [h.enterAlarm_eq]
  exact noticed.trans (reviewInhibit_yields (Nat.lt_succ_of_le (noticed.bound (m := 7) (by omega))))

/-- Container fire heard in a command that changes lists and records ahead of it, and moves the fire unit behind it. -/
theorem fireHeard_between {s w u : State} (hm : w.svc.mode ≠ .loading) (hclear : w.peers.containerFire = false)
    (hw : s.conn.state = .waitToken → w.conn.state = .waitToken)
    (hu : w.setContainerFire.UnderFire → w.setContainerFire.FireActs u)
    (hy : s.link.queue.length ≤ 3 → ∃ m n, s.Yields m w
      ∧ (w.setContainerFire.UnderFire → w.setContainerFire.frames ≤ s.frames + m → w.setContainerFire.Yields n u) ∧ m + n ≤ 3) : s.FireHeard u.settle := by
  have under := setContainerFire_underFire hm hclear
  have acts := hu under
  refine fireHeard_settle (under.of_fireActs acts) (fun hs => ?_) fun hq => ?_
  · rw [acts.conn]
    exact setContainerFire_state hm hclear (.inl (hw hs))
  · obtain ⟨m, n, ahead, behind, hmn⟩ := hy hq
    have hs := frames_le s
    obtain ⟨flagged, hj, hh⟩ := setContainerFire_yields (ahead.bound (by omega)) hclear
    have moved := behind under (flagged.bound (ahead.bound le_rfl))
    exact ⟨((ahead.trans flagged).trans moved).bound (by omega), _, (ahead.trans flagged).trans moved, moved.joinSettled hj,
      moved.heatSettled hh⟩

end Sys2Proof.Machine

namespace Sys2Proof.Machine

open Sys2Proof

/-! ### An ANNOUNCE of a peer: the record and the repair (R56, R75) -/

/-- The station with the record put in its place and both lists repaired. -/
def State.announced (s : State) (n : Nat) (p : List Byte) : State :=
  ((s.setTable (putRecord (announcedRecord n p) s.peers.table)).changeJoin (repairBy ((p.getD 5 0).getLsbD 0) n)).changeHeat
    (repairBy ((p.getD 5 0).getLsbD 1) n)

theorem takeAnnounce_of_peer {s : State} {n : Nat} (p : List Byte) (h : s.isPeer n = true) : s.takeAnnounce n p =
    ((s.announced n p).reviewZoneKey.fireReported (fireOfByte (p.getD 2 0))).confirmByPeer := if_pos h

/-- The repair reaches the lists, the sequencer and the queue alone. -/
theorem announced_safe (s : State) (n : Nat) (p : List Byte) :
    (s.setTable (putRecord (announcedRecord n p) s.peers.table)).KeepsSafe (s.announced n p) :=
  (State.changeJoin_safe _ _).trans (State.changeHeat_safe _ _)

theorem announced_readings (s : State) (n : Nat) (p : List Byte) :
    (s.setTable (putRecord (announcedRecord n p) s.peers.table)).KeepsReadings (s.announced n p) :=
  (State.changeJoin_readings _ _).trans (State.changeHeat_readings _ _)

/-- The lists behind the repair. -/
theorem announced_entries (s : State) (n : Nat) (p : List Byte) :
    (s.announced n p).claims.join.entries = repairBy ((p.getD 5 0).getLsbD 0) n s.claims.join.entries
      ∧ (s.announced n p).claims.heat.entries = repairBy ((p.getD 5 0).getLsbD 1) n s.claims.heat.entries := by
  set t := s.setTable (putRecord (announcedRecord n p) s.peers.table)
  have joined := t.changeJoin_lists (repairBy ((p.getD 5 0).getLsbD 0) n)
  have heated := (t.changeJoin (repairBy ((p.getD 5 0).getLsbD 0) n)).changeHeat_lists (repairBy ((p.getD 5 0).getLsbD 1) n)
  exact ⟨heated.join.trans joined.join, heated.heat.trans (congrArg (repairBy _ n) joined.heat)⟩

theorem announced_mode (s : State) (n : Nat) (p : List Byte) : (s.announced n p).svc.mode = s.svc.mode := by
  rw [(announced_safe s n p).svc]
  rfl

theorem announced_fireState (s : State) (n : Nat) (p : List Byte) : (s.announced n p).fire.state = s.fire.state := by
  rw [(announced_safe s n p).fire]
  rfl

theorem announced_waiting {s : State} (n : Nat) (p : List Byte) (h : s.conn.state = .waitToken) :
    (s.announced n p).conn.state = .waitToken :=
  (evalSlot_state _).trans (signalToken_waiting h)

/-- A token that comes by the repair may queue the JOINED call, and the heater list may take the slot away (R77, R81). -/
theorem announced_yields {s : State} (n : Nat) (p : List Byte) (h : s.frames < 8) : s.Yields 1 (s.announced n p) := by
  have recorded : s.Yields 0 (s.setTable (putRecord (announcedRecord n p) s.peers.table)) := .of_read rfl rfl
  have joined := recorded.behind (changeJoin_yields (f := repairBy ((p.getD 5 0).getLsbD 0) n)
    (Nat.lt_succ_of_le (recorded.bound (m := 7) (by omega))))
  exact joined.trans (n := 0) (changeHeat_yields (joined.bound (by omega)) _)

/-- What a change of the zone key check acts by, behind the repair. -/
theorem announced_keyRead (s : State) (n : Nat) (p : List Byte) : (s.announced n p).keyReadBefore = s.keyReadBefore := by
  have hs := announced_safe s n p
  have hr := announced_readings s n p
  have hdelay : (s.announced n p).releaseDelayMs = s.releaseDelayMs := by
    rw [State.releaseDelayMs, hr.config]
    rfl
  rw [State.keyReadBefore, hs.fire, hs.peers, hr.lines, hdelay]
  rfl

/-! ### Confirmation by a peer of the zone (R113) -/

theorem confirmByPeer_of_not {s : State} (h : s.fire.state ≠ .preAlarm) : s.confirmByPeer = s := if_neg fun hc => h hc.1

theorem confirmByPeer_readings (s : State) : s.KeepsReadings s.confirmByPeer := by
  unfold State.confirmByPeer
  split
  · exact s.enterAlarm_readings
  · exact .refl s

theorem confirmByPeer_lists (s : State) : s.KeepsLists s.confirmByPeer := .ite s.enterAlarm_lists (.refl s)

theorem confirmByPeer_zoneKey (s : State) : s.confirmByPeer.peers.zoneKey = s.peers.zoneKey := by
  unfold State.confirmByPeer
  split
  · exact enterAlarm_zoneKey s
  · rfl

theorem confirmByPeer_alarmed {s : State} (h : s.fire.state = .preAlarm) (hz : s.zonePeerAlarm = true) :
    fireAlarmed s.confirmByPeer.fire.state = true := by
  rw [State.confirmByPeer, if_pos ⟨h, hz⟩]
  exact enterAlarm_alarmed s

/-- An alarm of a peer in the own zone is the zone peer alarm condition (R110). -/
theorem zonePeerAlarm_of_mem {s : State} {r : PeerRecord} (h : r ∈ s.peers.table) (hz : r.zone = s.ownZone)
    (ha : fireAlarmed r.fire = true) : s.zonePeerAlarm = true :=
  List.any_eq_true.mpr ⟨r, h, by simp [hz, ha]⟩

/-- The own zone stands as the strap pins are read. -/
theorem ownZone_of_readings {s t : State} (h : s.KeepsReadings t) : t.ownZone = s.ownZone := by
  rw [State.ownZone, h.straps]
  rfl

/-! ### The whole of it -/

theorem reviewZoneKey_mode (s : State) : s.reviewZoneKey.svc.mode = s.svc.mode := (reviewZoneKey_fireActs s).mode

theorem reviewZoneKey_containerFire (s : State) : s.reviewZoneKey.peers.containerFire = s.peers.containerFire :=
  (congrArg PeerView.containerFire (reviewZoneKey_fireActs s).peers :)

/-- The fire unit never goes back to PRE_ALARM over the key. -/
theorem reviewZoneKey_ne_preAlarm {s : State} (h : s.fire.state ≠ .preAlarm) : s.reviewZoneKey.fire.state ≠ .preAlarm := by
  by_cases hn : s.fire.state = .normal
  · rw [reviewZoneKey_of_early (.inl hn)]
    exact h
  · have halarm : fireAlarmed s.fire.state = true := by
      cases hs : s.fire.state <;> simp_all [fireAlarmed]
    intro hpre
    have := (s.reviewZoneKey_latches (e := [])) .alarm List.not_mem_nil halarm
    rw [hpre] at this
    exact nomatch this

theorem reviewZoneKey_connState (s : State) : s.reviewZoneKey.conn.state = s.conn.state := (reviewZoneKey_fireActs s).conn

/-- An alarm of a peer has every block take container fire (R60, R83). -/
theorem fireHeard_announced {s : State} (n : Nat) (p : List Byte) (hm : s.svc.mode ≠ .loading)
    (hf : s.peers.containerFire = false) :
    s.FireHeard (s.announced n p).reviewZoneKey.setContainerFire.confirmByPeer.settle := by
  set w := s.announced n p with hw
  have hmode : w.reviewZoneKey.svc.mode ≠ .loading := by rw [reviewZoneKey_mode, announced_mode]; exact hm
  have hclear : w.reviewZoneKey.peers.containerFire = false := by
    rw [reviewZoneKey_containerFire, (announced_safe s n p).peers]
    exact hf
  refine fireHeard_between hmode hclear (fun hs => (reviewZoneKey_connState w).trans (announced_waiting n p hs))
    (fun under => .ite under.enterAlarm_fireActs (.refl _)) fun hq => ?_
  have hs := frames_le s
  have ahead : s.Yields 1 w := announced_yields n p (by omega)
  by_cases hpre : w.fire.state = .preAlarm
  · have key : w.Yields 0 w.reviewZoneKey := by
      rw [reviewZoneKey_of_early (.inr hpre)]
      exact .of_read rfl rfl
    exact ⟨1, 2, ahead.trans key, fun under hle => .ite (fun _ => under.enterAlarm_yields (by omega)) fun _ => .refl _, le_rfl⟩
  · have key := reviewZoneKey_yields (Nat.lt_succ_of_le (ahead.bound (m := 7) (by omega)))
    have hstate : w.reviewZoneKey.setContainerFire.fire.state ≠ .preAlarm := by
      rw [(setContainerFire_rest _).2]
      exact reviewZoneKey_ne_preAlarm hpre
    exact ⟨2, 1, ahead.trans key, fun _ _ => by rw [confirmByPeer_of_not hstate]; exact .refl _, le_rfl⟩

/-- Settles O42: the record and the repair, the zone key check, the report of fire and the confirmation, one behind the other. -/
theorem announceRecordedAndRepaired : Obligations.AnnounceRecordedAndRepaired := by
  intro s sender p h hr hok hpeer
  obtain ⟨hlength, hlisted, hzone⟩ := announcePayloadOk_listed hok
  set n := sender.toNat
  set f := fireOfByte (p.getD 2 0)
  set w := s.heard.announced n p
  set v := w.reviewZoneKey.fireReported f
  have alarmed : fireAlarmed f = true ↔ 2 ≤ (p.getD 2 0).toNat := fireAlarmed_fireOfByte hlisted
  have taken : s.heard.takeAnnounce n p = v.confirmByPeer := takeAnnounce_of_peer p hpeer
  have hnone : v.confirmByPeer.svc.restart = .none :=
    taken ▸ (s.heard.takeAnnounce_latches n p (e := [])) .restart List.not_mem_nil hr
  have readings : w.KeepsReadings v.confirmByPeer.settle := ((w.reviewZoneKey_readings.trans (fireReported_readings _ f)).trans
    (confirmByPeer_readings v)).trans (State.settle_readings _)
  have lists : w.KeepsLists v.confirmByPeer.settle := ((w.reviewZoneKey_lists.trans (State.fireReported_lists _ f)).trans
    (confirmByPeer_lists v)).trans (State.settle_lists _)
  have recorded := announced_readings s.heard n p
  obtain ⟨hjoin, hheat⟩ := announced_entries s.heard n p
  have htable : v.confirmByPeer.settle.peers.table = putRecord (announcedRecord n p) s.peers.table :=
    readings.table.trans recorded.table
  refine ⟨_, exec_of_heard h hlength taken hnone, ?_, fun m hm => ?_, ?_, ?_, fun h2 => ?_, fun h2 hz hpre => ?_, ?_, ?_, ?_, ?_⟩
  · rw [PeerView.record, htable, ← hzone]
    exact find_putRecord_same (announcedRecord n p) _
  · rw [PeerView.record, htable]
    exact find_putRecord_other (r := announcedRecord n p) hm _
  · rw [← repairBy_eq]
    exact lists.join.trans hjoin
  · rw [← repairBy_eq]
    exact lists.heat.trans hheat
  · have flagged : v = w.reviewZoneKey.setContainerFire := fireReported_of_alarmed (alarmed.mpr h2)
    refine ⟨?_, fun hclear => ?_⟩
    · rw [State.settle_containerFire, flagged]
      exact (State.confirmByPeer_latches _ (e := [])) .containerFire List.not_mem_nil (setContainerFire_flag _)
    · rw [flagged]
      exact (fireHeard_announced (s := s.heard) n p h.awake hclear).of_heard
  · have hstate : v.fire.state = .preAlarm := by
      rw [fireReported_fire]
      change w.reviewZoneKey.fire.state = .preAlarm
      have : w.fire.state = .preAlarm := (announced_fireState s.heard n p).trans hpre
      rw [reviewZoneKey_of_early (.inr this)]
      exact this
    have toV := w.reviewZoneKey_readings.trans (fireReported_readings w.reviewZoneKey f)
    have hmem : announcedRecord n p ∈ v.peers.table := by
      rw [toV.table, recorded.table]
      exact mem_putRecord_self _ _
    have own : v.ownZone = s.ownZone := (ownZone_of_readings toV).trans (ownZone_of_readings recorded :)
    have raised := confirmByPeer_alarmed hstate (zonePeerAlarm_of_mem hmem ((hzone.trans hz).trans own.symm) (alarmed.mpr h2))
    exact (v.confirmByPeer.settle_latches (e := [])) .alarm List.not_mem_nil raised
  · refine (reviewZoneKey_acted w).of_read (announced_keyRead s.heard n p) ?_ fun hstate => ?_
    · exact ((settle_read _).trans (keyReadBehind_of_readings (confirmByPeer_readings v) (confirmByPeer_zoneKey v))).trans
        (fireReported_read _ f)
    · have hw : w.fire.state ≠ .preAlarm := by
        rw [announced_fireState]
        change s.fire.state ≠ .preAlarm
        rcases hstate with hs | hs | hs <;> rw [hs] <;> nofun
      have hv : v.fire.state ≠ .preAlarm := by rw [fireReported_fire]; exact reviewZoneKey_ne_preAlarm hw
      rw [State.keyOutcome, State.settle_fire, confirmByPeer_of_not hv, fireReported_fire]
      rfl
  · exact lists.mode.trans (announced_mode s.heard n p)
  · exact readings.record.trans recorded.record
  · exact readings.gridState.trans recorded.gridState

end Sys2Proof.Machine

namespace Sys2Proof.Machine

open Sys2Proof

/-! ### A FIRE_NOTICE and its record (R57) -/

theorem fireNoticePayloadOk_listed {p : List Byte} (h : fireNoticePayloadOk p = true) :
    p.length = 3 ∧ zoneOfByte (p.getD 0 0) = (p.getD 0 0).toNat ∧ (p.getD 1 0).toNat ≤ 5 := by
  simp only [fireNoticePayloadOk, Bool.and_eq_true, beq_iff_eq, decide_eq_true_eq] at h
  obtain ⟨⟨⟨hlength, hzone⟩, hfire⟩, -⟩ := h
  exact ⟨hlength, if_pos hzone, hfire⟩

theorem fireOfByte_released {b : Byte} (h : b.toNat ≤ 5) : fireOfByte b = .released ↔ b.toNat = 5 := by
  unfold fireOfByte
  interval_cases b.toNat <;> simp

theorem fireOfByte_preAlarm {b : Byte} (h : b.toNat ≤ 5) : fireOfByte b = .preAlarm ↔ b.toNat = 1 := by
  unfold fireOfByte
  interval_cases b.toNat <;> simp

/-- The peer table with the record of a notice in its place. -/
def State.noticeTable (s : State) (n : Nat) (p : List Byte) : List PeerRecord :=
  putRecord (noticedRecord (s.peers.record n) n p) s.peers.table

/-- The station with it, and the zone key check brought up to date (R65). -/
def State.noticed (s : State) (n : Nat) (p : List Byte) : State := (s.setTable (s.noticeTable n p)).reviewZoneKey

theorem takeFireNotice_of_peer {s : State} {n : Nat} (p : List Byte) (h : s.isPeer n = true) : s.takeFireNotice n p =
    ((s.noticed n p).fireReported (fireOfByte (p.getD 1 0))).noticeToFireUnit (zoneOfByte (p.getD 0 0))
      (fireOfByte (p.getD 1 0)) := if_pos h

theorem takeFireNotice_of_own {s : State} {n : Nat} (p : List Byte) (h : n = s.ownNumber) :
    s.takeFireNotice n p = s.fireReported (fireOfByte (p.getD 1 0)) := by
  have hpeer : ¬s.isPeer n = true := by simp [State.isPeer, h]
  exact (if_neg hpeer).trans (if_pos h)

theorem noticeTable_same (s : State) (n : Nat) (p : List Byte) :
    (s.noticeTable n p).find? (fun x => x.number == n) = some (noticedRecord (s.peers.record n) n p) := by
  have h := find_putRecord_same (noticedRecord (s.peers.record n) n p) s.peers.table
  rwa [noticedRecord_number] at h

theorem noticeTable_other {s : State} {n m : Nat} (p : List Byte) (h : m ≠ n) :
    (s.noticeTable n p).find? (fun x => x.number == m) = s.peers.record m :=
  find_putRecord_other (by rw [noticedRecord_number]; exact h) _

/-! ### The fire unit's part (R111, R113, R118) -/

theorem queueCall_fireActs (s : State) : s.FireActs s.queueCall := by
  unfold State.queueCall
  split
  · exact .refl s
  · exact (setFireUnit_fireActs s _).trans (enqueue_fireActs _ _)

theorem queueCall_yields {s : State} (h : s.frames < 8) : s.Yields 1 s.queueCall := by
  unfold State.queueCall
  split
  · exact .refl s
  · exact .after (enqueue_yields (by unfold State.frames at h; change s.link.queue.length < 8; omega)) rfl

/-- A notice of RELEASED is followed, or any is let pass. -/
def State.followReleased (s : State) (zone : Nat) (f : FireState) : State :=
  if f = .released ∧ zone = s.ownZone ∧ s.fire.serviceKey = false then s.enterReleased else s

theorem noticeToFireUnit_of_preAlarm {s : State} (zone : Nat) (f : FireState) (h : s.fire.state = .preAlarm) :
    s.noticeToFireUnit zone f = if s.zonePeerAlarm then s.enterAlarm
      else if f = .preAlarm ∧ zone = s.ownZone then s.queueCall else s := by
  unfold State.noticeToFireUnit
  rw [h]

theorem noticeToFireUnit_of_counting {s : State} (zone : Nat) (f : FireState)
    (h : s.fire.state = .alarm ∨ s.fire.state = .releaseDelay ∨ s.fire.state = .releaseHeld) :
    s.noticeToFireUnit zone f = s.followReleased zone f := by
  unfold State.noticeToFireUnit
  rcases h with h | h | h <;> rw [h] <;> rfl

theorem noticeToFireUnit_of_ended {s : State} (zone : Nat) (f : FireState) (h : s.fire.state = .normal ∨ s.fire.state = .released) :
    s.noticeToFireUnit zone f = s := by
  unfold State.noticeToFireUnit
  rcases h with h | h <;> rw [h]

/-- In one of three ways: in PRE_ALARM, from ALARM to RELEASE_HELD, or not at all. -/
theorem fireState_cases (f : FireState) :
    f = .preAlarm ∨ (f = .alarm ∨ f = .releaseDelay ∨ f = .releaseHeld) ∨ (f = .normal ∨ f = .released) := by
  cases f <;> simp

theorem followReleased_fireActs (s : State) (zone : Nat) (f : FireState) : s.FireActs (s.followReleased zone f) :=
  .ite (enterReleased_fireActs s) (.refl s)

theorem followReleased_readings (s : State) (zone : Nat) (f : FireState) : s.KeepsReadings (s.followReleased zone f) := by
  unfold State.followReleased
  split
  · exact s.enterReleased_readings
  · exact .refl s

theorem noticeToFireUnit_readings (s : State) (zone : Nat) (f : FireState) : s.KeepsReadings (s.noticeToFireUnit zone f) := by
  rcases fireState_cases s.fire.state with h | h | h
  · rw [noticeToFireUnit_of_preAlarm zone f h]
    split
    · exact s.enterAlarm_readings
    · split
      · exact s.queueCall_readings
      · exact .refl s
  · rw [noticeToFireUnit_of_counting zone f h]
    exact followReleased_readings s zone f
  · rw [noticeToFireUnit_of_ended zone f h]
    exact .refl s

theorem noticeToFireUnit_zoneKey (s : State) (zone : Nat) (f : FireState) :
    (s.noticeToFireUnit zone f).peers.zoneKey = s.peers.zoneKey := by
  rcases fireState_cases s.fire.state with h | h | h
  · rw [noticeToFireUnit_of_preAlarm zone f h]
    split
    · exact enterAlarm_zoneKey s
    · split
      · rw [(queueCall_fireActs s).peers]
      · rfl
  · rw [noticeToFireUnit_of_counting zone f h, (followReleased_fireActs s zone f).peers]
  · rw [noticeToFireUnit_of_ended zone f h]

theorem State.UnderFire.noticeToFireUnit_fireActs {s : State} (hu : s.UnderFire) (zone : Nat) (f : FireState) :
    s.FireActs (s.noticeToFireUnit zone f) := by
  rcases fireState_cases s.fire.state with h | h | h
  · rw [noticeToFireUnit_of_preAlarm zone f h]
    exact .ite hu.enterAlarm_fireActs (.ite (queueCall_fireActs s) (.refl s))
  · rw [noticeToFireUnit_of_counting zone f h]
    exact followReleased_fireActs s zone f
  · rw [noticeToFireUnit_of_ended zone f h]
    exact .refl s

theorem State.UnderFire.noticeToFireUnit_yields {s : State} (hu : s.UnderFire) (hf : s.frames ≤ 6) (zone : Nat) (f : FireState) :
    s.Yields 2 (s.noticeToFireUnit zone f) := by
  rcases fireState_cases s.fire.state with h | h | h
  · rw [noticeToFireUnit_of_preAlarm zone f h]
    exact .ite (fun _ => hu.enterAlarm_yields hf) fun _ => .ite (fun _ => (queueCall_yields (by omega)).mono (by omega))
      fun _ => .refl s
  · rw [noticeToFireUnit_of_counting zone f h]
    exact .ite (fun _ => (enterReleased_yields (by omega)).mono (by omega)) fun _ => .refl s
  · rw [noticeToFireUnit_of_ended zone f h]
    exact .refl s

/-- Outside PRE_ALARM the fire unit follows RELEASED alone (R118). -/
theorem noticeToFireUnit_of_unfollowed {s : State} (zone : Nat) {f : FireState} (hs : s.fire.state ≠ .preAlarm)
    (hf : f ≠ .released ∨ s.fire.serviceKey = true) : s.noticeToFireUnit zone f = s := by
  rcases fireState_cases s.fire.state with h | h | h
  · exact absurd h hs
  · rw [noticeToFireUnit_of_counting zone f h]
    exact if_neg fun ⟨hr, _, hk⟩ => hf.elim (fun h => h hr) fun h => nomatch h.symm.trans hk
  · exact noticeToFireUnit_of_ended zone f h

theorem followReleased_state {s : State} {zone : Nat} (hz : zone = s.ownZone) (hk : s.fire.serviceKey = false) :
    (s.followReleased zone .released).fire.state = .released ∧ (s.followReleased zone .released).fire.release = true := by
  rw [State.followReleased, if_pos ⟨rfl, hz, hk⟩]
  exact enterReleased_state s

/-! ### The zone key check ahead of it -/

/-- What the inhibit leaves of a fire state from ALARM to RELEASE_HELD: one of these, or RELEASED with the output driven; and the
own key stands as it did. -/
theorem reviewInhibit_counting {s : State}
    (h : s.fire.state = .alarm ∨ s.fire.state = .releaseDelay ∨ s.fire.state = .releaseHeld) :
    ((s.reviewInhibit.fire.state = .alarm ∨ s.reviewInhibit.fire.state = .releaseDelay ∨ s.reviewInhibit.fire.state = .releaseHeld)
      ∨ s.reviewInhibit.fire.state = .released ∧ s.reviewInhibit.fire.release = true) := by
  have back : s.fire.state = .releaseDelay ∨ s.fire.state = .releaseHeld →
      s.reviewInhibit = if s.inhibited then (s.setFire .alarm).setCountdown none else s := fun hs => by
    unfold State.reviewInhibit
    rcases hs with hs | hs <;> rw [hs]
  rcases h with h | h
  · have ahead : s.reviewInhibit = if s.inhibited then s else s.enterReleaseDelay := by
      unfold State.reviewInhibit
      rw [h]
    rw [ahead]
    split
    · exact .inl (.inl h)
    · obtain ⟨held, delayed, released⟩ := enterReleaseDelay_state s
      cases ha : s.lines.abort with
      | true => exact .inl (.inr (.inr (held ha).1))
      | false =>
        by_cases hd : s.releaseDelayMs = 0
        · exact .inr (released ha hd)
        · exact .inl (.inr (.inl (delayed ha hd).1))
  · rw [back h]
    split
    · exact .inl (.inl (s.setFire_state .alarm))
    · exact .inl (.inr h)

theorem reviewZoneKey_counting {s : State}
    (h : s.fire.state = .alarm ∨ s.fire.state = .releaseDelay ∨ s.fire.state = .releaseHeld) :
    (s.reviewZoneKey.fire.state = .alarm ∨ s.reviewZoneKey.fire.state = .releaseDelay ∨ s.reviewZoneKey.fire.state = .releaseHeld)
      ∨ s.reviewZoneKey.fire.state = .released ∧ s.reviewZoneKey.fire.release = true := by
  by_cases hk : s.zoneKeyNow = s.peers.zoneKey
  · rw [reviewZoneKey_of_same hk]
    exact .inl h
  · rw [reviewZoneKey_of_change hk]
    exact reviewInhibit_counting (s := s.keyUpdated) h

theorem setFire_serviceKey (s : State) (st : FireState) : (s.setFire st).fire.serviceKey = s.fire.serviceKey := by
  rw [State.setFire, (State.cancelRestart_connState _).fire]

/-- The fire unit's own operations leave the key. -/
theorem reviewInhibit_serviceKey (s : State) : s.reviewInhibit.fire.serviceKey = s.fire.serviceKey := by
  have released : s.enterReleased.fire.serviceKey = s.fire.serviceKey := by
    obtain ⟨x, hx⟩ := (State.enqueue_keeps (((s.setFire .released).setCountdown none).setFireLines true true true)
      (((s.setFire .released).setCountdown none).setFireLines true true true).fireNotice).fire
    rw [State.enterReleased, hx]
    exact setFire_serviceKey s .released
  have delayed : s.enterReleaseDelay.fire.serviceKey = s.fire.serviceKey := by
    unfold State.enterReleaseDelay
    split
    · exact setFire_serviceKey s _
    · split
      · exact released
      · exact setFire_serviceKey s _
  have back : (if s.inhibited then (s.setFire .alarm).setCountdown none else s).fire.serviceKey = s.fire.serviceKey := by
    split
    · exact setFire_serviceKey s _
    · rfl
  unfold State.reviewInhibit
  split
  · split
    · rfl
    · exact delayed
  · exact back
  · exact back
  all_goals rfl

theorem reviewZoneKey_serviceKey (s : State) : s.reviewZoneKey.fire.serviceKey = s.fire.serviceKey := by
  by_cases hk : s.zoneKeyNow = s.peers.zoneKey
  · rw [reviewZoneKey_of_same hk]
  · rw [reviewZoneKey_of_change hk]
    exact reviewInhibit_serviceKey s.keyUpdated

/-- In ALARM under the own key a change of the zone key moves nothing (R116). -/
theorem reviewZoneKey_of_own {s : State} (h : s.fire.state = .alarm) (hk : s.fire.serviceKey = true) :
    s.reviewZoneKey = s.keyUpdated := by
  by_cases hz : s.zoneKeyNow = s.peers.zoneKey
  · rw [reviewZoneKey_of_same hz, keyUpdated_of_same hz]
  · have inhibited : s.keyUpdated.inhibited = true := by simp [State.inhibited, State.keyUpdated, hk]
    rw [reviewZoneKey_of_change hz]
    unfold State.reviewInhibit
    rw [show s.keyUpdated.fire.state = .alarm from h]
    exact if_pos inhibited

/-! ### The notice from a peer -/

theorem noticed_readings (s : State) (n : Nat) (p : List Byte) :
    (s.setTable (s.noticeTable n p)).KeepsReadings (s.noticed n p) := State.reviewZoneKey_readings _

/-- An alarm of a peer has every block take container fire (R60, R83). -/
theorem fireHeard_noticed {s : State} (n : Nat) (p : List Byte) (zone : Nat) (f : FireState) (hm : s.svc.mode ≠ .loading)
    (hf : s.peers.containerFire = false) :
    s.FireHeard ((s.noticed n p).setContainerFire.noticeToFireUnit zone f).settle := by
  have acts := reviewZoneKey_fireActs (s.setTable (s.noticeTable n p))
  refine fireHeard_between (ne_of_eq_of_ne acts.mode hm) ((congrArg PeerView.containerFire acts.peers :).trans hf)
    (fun hs => acts.conn.trans hs) (fun under => under.noticeToFireUnit_fireActs zone f) fun hq => ?_
  have hs := frames_le s
  have recorded : s.Yields 0 (s.setTable (s.noticeTable n p)) := .of_read rfl rfl
  exact ⟨1, 2, recorded.behind (reviewZoneKey_yields (Nat.lt_succ_of_le (recorded.bound (m := 7) (by omega)))),
    fun under hle => under.noticeToFireUnit_yields (by omega) zone f, le_rfl⟩

/-- A notice from a peer is recorded, reported and handed to the fire unit. -/
theorem exec_fireNotice_of_peer {s : State} {sender : BitVec 5} {p : List Byte} (h : s.Hears) (hr : s.svc.restart = .none)
    (hlength : p.length = 3) (hpeer : s.isPeer sender.toNat = true) : exec (.fireNoticeArrival sender p) s =
      .next (((s.heard.noticed sender.toNat p).fireReported (fireOfByte (p.getD 1 0))).noticeToFireUnit
        (zoneOfByte (p.getD 0 0)) (fireOfByte (p.getD 1 0))).settle := by
  have taken := takeFireNotice_of_peer (s := s.heard) p hpeer
  refine exec_of_heard h hlength taken ?_
  rw [← taken]
  exact (s.heard.takeFireNotice_latches sender.toNat p (e := [])) .restart List.not_mem_nil hr

theorem exec_fireNotice_of_own {s : State} {sender : BitVec 5} {p : List Byte} (h : s.Hears) (hr : s.svc.restart = .none)
    (hlength : p.length = 3) (hown : sender.toNat = s.ownNumber) : exec (.fireNoticeArrival sender p) s =
      .next (s.heard.fireReported (fireOfByte (p.getD 1 0))).settle := by
  have taken := takeFireNotice_of_own (s := s.heard) p hown
  refine exec_of_heard h hlength taken ?_
  rw [← taken]
  exact (s.heard.takeFireNotice_latches sender.toNat p (e := [])) .restart List.not_mem_nil hr

/-- RELEASED of the own zone is followed from ALARM, RELEASE_DELAY and RELEASE_HELD (R118). -/
theorem noticed_released {s : State} (n : Nat) (p : List Byte)
    (hs : s.fire.state = .alarm ∨ s.fire.state = .releaseDelay ∨ s.fire.state = .releaseHeld) (hk : s.fire.serviceKey = false)
    {zone : Nat} (hz : zone = s.ownZone) :
    let t := ((s.noticed n p).fireReported .released).noticeToFireUnit zone .released
    t.fire.state = .released ∧ t.fire.release = true := by
  intro t
  set v := (s.noticed n p).fireReported .released with hv
  have hfire := fireReported_fire (s.noticed n p) .released
  have key : v.fire.serviceKey = false := by
    rw [hv, hfire]
    exact (reviewZoneKey_serviceKey _).trans hk
  have own : v.ownZone = s.ownZone := by
    exact (ownZone_of_readings (fireReported_readings (s.noticed n p) .released)).trans (ownZone_of_readings (noticed_readings s n p) :)
  have hstate : v.fire.state = (s.noticed n p).fire.state := by rw [hv, hfire]
  have hrelease : v.fire.release = (s.noticed n p).fire.release := by rw [hv, hfire]
  rcases reviewZoneKey_counting (s := s.setTable (s.noticeTable n p)) hs with hc | ⟨hr, hout⟩
  · rw [show t = v.followReleased zone .released from noticeToFireUnit_of_counting zone _ (hstate ▸ hc)]
    exact followReleased_state (hz.trans own.symm) key
  · rw [show t = v from noticeToFireUnit_of_ended zone _ (.inr (hstate.trans hr))]
    exact ⟨hstate.trans hr, hrelease.trans hout⟩

/-- Under the own key it is not, and where the container fire flag is set already nothing else moves the fire unit. -/
theorem noticed_kept {s : State} (n : Nat) (p : List Byte) (hs : s.fire.state = .alarm) (hk : s.fire.serviceKey = true)
    (hflag : s.peers.containerFire = true) (zone : Nat) (f : FireState) :
    ((s.noticed n p).fireReported f).noticeToFireUnit zone f = (s.setTable (s.noticeTable n p)).keyUpdated := by
  have reviewed : s.noticed n p = (s.setTable (s.noticeTable n p)).keyUpdated :=
    reviewZoneKey_of_own (s := s.setTable (s.noticeTable n p)) hs hk
  have reported : (s.noticed n p).fireReported f = s.noticed n p := by
    have : (s.noticed n p).setContainerFire = s.noticed n p := setContainerFire_of_set (by rw [reviewed]; exact hflag)
    rw [State.fireReported, this, ite_self]
  rw [reported, reviewed]
  have early : (s.setTable (s.noticeTable n p)).keyUpdated.fire.state = .alarm := hs
  exact noticeToFireUnit_of_unfollowed zone (by rw [early]; nofun) (.inr hk)

/-- In PRE_ALARM, with no alarm of the own zone in the records, the notice asks for a census call at most (R111). -/
theorem noticed_called {s : State} {n : Nat} {p : List Byte} {f : FireState} (hs : s.fire.state = .preAlarm)
    (hq : (s.setTable (s.noticeTable n p)).zonePeerAlarm = false) (hf : ¬fireAlarmed f = true) (zone : Nat) :
    ((s.noticed n p).fireReported f).noticeToFireUnit zone f =
      if f = .preAlarm ∧ zone = s.ownZone then (s.setTable (s.noticeTable n p)).keyUpdated.queueCall
      else (s.setTable (s.noticeTable n p)).keyUpdated := by
  have reviewed : s.noticed n p = (s.setTable (s.noticeTable n p)).keyUpdated :=
    reviewZoneKey_of_early (s := s.setTable (s.noticeTable n p)) (.inr hs)
  rw [fireReported_of_not_alarmed hf, reviewed]
  have unmet : ¬(s.setTable (s.noticeTable n p)).keyUpdated.zonePeerAlarm = true := fun h => nomatch hq.symm.trans h
  exact (noticeToFireUnit_of_preAlarm (s := (s.setTable (s.noticeTable n p)).keyUpdated) zone f hs).trans (if_neg unmet)

/-- With no forced leave to take, a command ends with the levels brought up to date alone. -/
theorem reviewForced_of_unforced {s : State} (h : s.forcedCause = true → takesForcedLeave s.conn.state = false) :
    s.reviewForced = s := by
  by_cases hc : s.forcedCause = true
  · exact reviewForced_of_not_taken (h hc)
  · exact if_neg hc

theorem settle_of_unforced {s : State} (h : s.forcedCause = true → takesForcedLeave s.conn.state = false) :
    s.settle.fire = s.fire ∧ s.settle.link = s.link ∧ s.settle.conn = s.conn ∧ s.settle.claims = s.claims
      ∧ s.settle.env = s.env ∧ s.settle.balance = s.balance := by
  have rest : ∀ t : State, s.reviewForced = t → s.settle.fire = t.fire ∧ s.settle.link = t.link ∧ s.settle.conn = t.conn
      ∧ s.settle.claims = t.claims ∧ s.settle.env = t.env ∧ s.settle.balance = t.balance := by
    rintro _ rfl
    exact ⟨rfl, rfl, rfl, rfl, rfl, rfl⟩
  exact rest s (reviewForced_of_unforced h)

/-- The records behind a notice that shows no alarm: no zone peer alarm condition, where the others show none (R110). -/
theorem noticeTable_quiet {s : State} {n : Nat} {p : List Byte} (horder : (s.peers.table.map (·.number)).Pairwise (· < ·))
    (hothers : ∀ r ∈ s.peers.table, r.number ≠ n → r.zone = s.ownZone → fireAlarmed r.fire = false)
    (hf : ¬fireAlarmed (fireOfByte (p.getD 1 0)) = true) : (s.setTable (s.noticeTable n p)).zonePeerAlarm = false := by
  refine List.any_eq_false.mpr fun r hr hc => ?_
  obtain ⟨hzone, halarm⟩ := Bool.and_eq_true_iff.mp hc
  rcases mem_putRecord horder hr with rfl | ⟨hmem, hne⟩
  · exact hf halarm
  · rw [noticedRecord_number] at hne
    rw [hothers r hmem hne (beq_iff_eq.mp hzone)] at halarm
    exact nomatch halarm

/-! ### The obligation -/

theorem fireNotice_followed (s : State) (sender : BitVec 5) (p : List Byte) (hs : s.Steady) (h : s.Hears)
    (hr : s.svc.restart = .none) (ho : s.FireOutputs) (hok : fireNoticePayloadOk p = true) (hpeer : s.isPeer sender.toNat = true)
    (hz : (p.getD 0 0).toNat = s.ownZone) (h5 : (p.getD 1 0).toNat = 5)
    (hstate : s.fire.state = .alarm ∨ s.fire.state = .releaseDelay ∨ s.fire.state = .releaseHeld) :
    ∃ t, exec (.fireNoticeArrival sender p) s = .next t
      ∧ (s.fire.serviceKey = false → t.fire.state = .released ∧ t.fire.release = true)
      ∧ (s.fire.serviceKey = true → s.fire.state = .alarm → t.fire = s.fire) := by
  obtain ⟨hlength, hzone, hlisted⟩ := fireNoticePayloadOk_listed hok
  refine ⟨_, exec_fireNotice_of_peer h hr hlength hpeer, fun hk => ?_, fun hk halarm => ?_⟩
  · rw [(fireOfByte_released hlisted).mpr h5, State.settle_fire]
    exact noticed_released (s := s.heard) _ p hstate hk (hzone.trans hz)
  · rw [noticed_kept (s := s.heard) _ p halarm hk (ho.container (by rw [halarm]; rfl))]
    exact (settle_of_unforced (s := (s.heard.setTable (s.heard.noticeTable sender.toNat p)).keyUpdated) hs.forced).1

theorem fireNotice_calls (s : State) (sender : BitVec 5) (p : List Byte) (hs : s.Steady) (h : s.Hears) (hroom : s.Room)
    (hr : s.svc.restart = .none) (hp : s.ListsProper) (hok : fireNoticePayloadOk p = true) (hpeer : s.isPeer sender.toNat = true)
    (hstate : s.fire.state = .preAlarm)
    (hothers : ∀ r ∈ s.peers.table, r.number ≠ sender.toNat → r.zone = s.ownZone → fireAlarmed r.fire = false)
    (h2 : (p.getD 1 0).toNat < 2) :
    let zonePreAlarm := (p.getD 0 0).toNat = s.ownZone ∧ (p.getD 1 0).toNat = 1
    ∃ t, exec (.fireNoticeArrival sender p) s = .next t
      ∧ (zonePreAlarm → s.fire.census = .idle → t.fire = { s.fire with census := .callPending }
        ∧ t.link = (s.heard.queued (censusCall 1 (byteOfNat s.ownZone) .fireCall)).link)
      ∧ (¬zonePreAlarm ∨ s.fire.census = .callPending → t.fire = s.fire ∧ t.link = s.heard.link)
      ∧ t.conn = s.conn ∧ t.claims = s.claims ∧ t.env = s.env ∧ t.balance = s.balance := by
  intro zonePreAlarm
  obtain ⟨hlength, hzone, hlisted⟩ := fireNoticePayloadOk_listed hok
  set n := sender.toNat
  set u := (s.heard.setTable (s.heard.noticeTable n p)).keyUpdated
  have quiet : ¬fireAlarmed (fireOfByte (p.getD 1 0)) = true := fun ha => absurd ((fireAlarmed_fireOfByte hlisted).mp ha) (by omega)
  have called := noticed_called (s := s.heard) hstate (noticeTable_quiet (s := s.heard) hp.tableOrder hothers quiet) quiet
    (zoneOfByte (p.getD 0 0))
  have asks : fireOfByte (p.getD 1 0) = .preAlarm ∧ zoneOfByte (p.getD 0 0) = s.heard.ownZone ↔ zonePreAlarm := by
    rw [fireOfByte_preAlarm hlisted, hzone]
    exact and_comm
  refine ⟨_, exec_fireNotice_of_peer h hr hlength hpeer, ?_⟩
  rw [called]
  by_cases hcall : zonePreAlarm ∧ s.fire.census = .idle
  · set q := ({ u with fire := { u.fire with census := .callPending } } : State).queued u.zoneCall with hq
    have queued : u.queueCall = q := by
      unfold State.queueCall
      rw [show u.fire.census = .idle from hcall.2]
      exact enqueue_of_room (s := { u with fire := { u.fire with census := .callPending } }) hroom
    obtain ⟨hfire, hlink, rest⟩ := settle_of_unforced (s := q) hs.forced
    rw [if_pos (asks.mpr hcall.1), queued]
    refine ⟨fun _ _ => ⟨hfire, hlink⟩, fun hn => ?_, rest⟩
    exact absurd hcall.2 (hn.elim (fun hn => absurd hcall.1 hn) fun hc => by rw [hc]; nofun)
  · have stays : (if fireOfByte (p.getD 1 0) = .preAlarm ∧ zoneOfByte (p.getD 0 0) = s.heard.ownZone then u.queueCall else u) = u := by
      split
      · next hz =>
        have pending : u.fire.census = .callPending := by
          cases hc : s.fire.census with
          | idle => exact absurd ⟨asks.mp hz, hc⟩ hcall
          | callPending => exact hc
        unfold State.queueCall
        rw [pending]
      · rfl
    obtain ⟨hfire, hlink, rest⟩ := settle_of_unforced (s := u) hs.forced
    rw [stays]
    exact ⟨fun hz hidle => absurd ⟨hz, hidle⟩ hcall, fun _ => ⟨hfire, hlink⟩, rest⟩

theorem fireNotice_own (s : State) (sender : BitVec 5) (p : List Byte) (h : s.Hears) (hr : s.svc.restart = .none)
    (hok : fireNoticePayloadOk p = true) (hown : sender.toNat = s.ownNumber) :
    ((p.getD 1 0).toNat < 2 ∨ s.peers.containerFire = true → s.Steady →
      exec (.fireNoticeArrival sender p) s = .next s.heard)
    ∧ (2 ≤ (p.getD 1 0).toNat → s.peers.containerFire = false →
      ∃ t, exec (.fireNoticeArrival sender p) s = .next t ∧ s.FireHeard t ∧ t.peers.table = s.peers.table
        ∧ t.fire.state = s.fire.state ∧ t.svc.mode = s.svc.mode) := by
  obtain ⟨hlength, -, hlisted⟩ := fireNoticePayloadOk_listed hok
  have alarmed := fireAlarmed_fireOfByte hlisted
  have answered := exec_fireNotice_of_own h hr hlength hown
  refine ⟨fun hquiet hs => ?_, fun h2 hclear => ⟨_, answered, ?_, ?_, ?_, ?_⟩⟩
  · have same : s.heard.fireReported (fireOfByte (p.getD 1 0)) = s.heard := by
      rcases hquiet with hlow | hflag
      · exact fireReported_of_not_alarmed fun ha => absurd (alarmed.mp ha) (by omega)
      · rw [State.fireReported, setContainerFire_of_set (s := s.heard) hflag, ite_self]
    rw [answered, same, ← finish_of_none (s := s.heard) hr]
    exact finish_of_steady (heard_steady hs)
  · rw [fireReported_of_alarmed (alarmed.mpr h2)]
    refine State.FireHeard.of_heard (fireHeard_settle (setContainerFire_underFire (s := s.heard) h.awake hclear)
      (fun hw => setContainerFire_state (s := s.heard) h.awake hclear (.inl hw)) fun hq => ?_)
    have hf : s.heard.frames ≤ 8 := (frames_le s.heard).trans (Nat.add_le_add_right hq 2 |>.trans (by decide))
    obtain ⟨hy, hset⟩ := setContainerFire_yields hf hclear
    exact ⟨hy.bound hf, 0, hy, hset⟩
  · exact ((fireReported_readings s.heard _).trans (State.settle_readings _)).table
  · rw [State.settle_fire, fireReported_fire]
    rfl
  · exact ((s.heard.fireReported_lists _).trans (State.settle_lists _)).mode

theorem fireNotice_recorded (s : State) (sender : BitVec 5) (p : List Byte) (h : s.Hears) (hr : s.svc.restart = .none)
    (hok : fireNoticePayloadOk p = true) (hpeer : s.isPeer sender.toNat = true) :
    ∃ t, exec (.fireNoticeArrival sender p) s = .next t
      ∧ (∀ r, s.peers.record sender.toNat = some r → t.peers.record sender.toNat = some
        { r with zone := (p.getD 0 0).toNat, fire := fireOfByte (p.getD 1 0), key := (p.getD 2 0).getLsbD 3 })
      ∧ (s.peers.record sender.toNat = none → t.peers.record sender.toNat = some
        { number := sender.toNat, zone := (p.getD 0 0).toNat, fire := fireOfByte (p.getD 1 0)
          key := (p.getD 2 0).getLsbD 3, level := none, joinFlag := none, heatFlag := none, age := 0
          presence := .present })
      ∧ (∀ n, n ≠ sender.toNat → t.peers.record n = s.peers.record n)
      ∧ (2 ≤ (p.getD 1 0).toNat → t.peers.containerFire = true ∧ (s.peers.containerFire = false → s.FireHeard t))
      ∧ (2 ≤ (p.getD 1 0).toNat → (p.getD 0 0).toNat = s.ownZone → s.fire.state = .preAlarm →
        fireAlarmed t.fire.state = true)
      ∧ t.ZoneKeyCurrent ∧ ((p.getD 1 0).toNat ≠ 5 → s.ZoneKeyActed t)
      ∧ t.claims.join.entries = s.claims.join.entries ∧ t.claims.heat.entries = s.claims.heat.entries
      ∧ t.svc.mode = s.svc.mode ∧ t.chain.record = s.chain.record ∧ t.grid.state = s.grid.state := by
  obtain ⟨hlength, hzone, hlisted⟩ := fireNoticePayloadOk_listed hok
  set n := sender.toNat
  set f := fireOfByte (p.getD 1 0)
  set zone := zoneOfByte (p.getD 0 0)
  set w := s.heard.noticed n p
  set v := w.fireReported f
  set u := v.noticeToFireUnit zone f
  have alarmed : fireAlarmed f = true ↔ 2 ≤ (p.getD 1 0).toNat := fireAlarmed_fireOfByte hlisted
  have recorded := (noticed_readings s.heard n p).trans (fireReported_readings w f)
  have readings := (recorded.trans (noticeToFireUnit_readings v zone f)).trans u.settle_readings
  have lists : (s.heard.setTable (s.heard.noticeTable n p)).KeepsLists u.settle :=
    ((State.reviewZoneKey_lists _).trans (State.fireReported_lists w f)).trans
      ((State.noticeToFireUnit_lists v zone f).trans u.settle_lists)
  have record : u.settle.peers.record n = some (noticedRecord (s.peers.record n) n p) := by
    rw [PeerView.record, readings.table]
    exact noticeTable_same s.heard n p
  have read : u.settle.keyReadBehind = w.keyReadBehind := ((settle_read u).trans
    (keyReadBehind_of_readings (noticeToFireUnit_readings v zone f) (noticeToFireUnit_zoneKey v zone f))).trans
    (fireReported_read w f)
  have vfire : v.fire.state = w.fire.state := by rw [fireReported_fire w f]
  refine ⟨u.settle, exec_fireNotice_of_peer h hr hlength hpeer, fun r hold => ?_, fun hnone => ?_, fun m hm => ?_, fun h2 => ?_,
    fun h2 hz hpre => ?_, (reviewZoneKey_current _).of_read read, fun h5 => ?_, lists.join, lists.heat, lists.mode,
    readings.record, readings.gridState⟩
  · rw [record, hold, ← hzone]
    rfl
  · rw [record, hnone, ← hzone]
    rfl
  · rw [PeerView.record, readings.table]
    exact noticeTable_other p hm
  · have flagged : v = w.setContainerFire := fireReported_of_alarmed (alarmed.mpr h2)
    refine ⟨?_, fun hclear => ?_⟩
    · have set : v.peers.containerFire = true := by rw [flagged]; exact setContainerFire_flag w
      exact ((v.noticeToFireUnit_latches zone f).trans (State.settle_latches _) (e := [])) .containerFire List.not_mem_nil set
    · have heard := fireHeard_noticed (s := s.heard) n p zone f h.awake hclear
      rw [show u = w.setContainerFire.noticeToFireUnit zone f from congrArg (fun x => State.noticeToFireUnit x zone f) flagged]
      exact heard.of_heard
  · have hstate : v.fire.state = .preAlarm := by
      rw [vfire, show w = _ from reviewZoneKey_of_early (s := s.heard.setTable (s.heard.noticeTable n p)) (.inr hpre)]
      exact hpre
    have hmem : noticedRecord (s.peers.record n) n p ∈ v.peers.table := by
      rw [recorded.table]
      exact mem_putRecord_self _ _
    have own : v.ownZone = s.ownZone := (ownZone_of_readings recorded :)
    have alarm : v.zonePeerAlarm = true := zonePeerAlarm_of_mem hmem ((hzone.trans hz).trans own.symm) (alarmed.mpr h2)
    have raised : fireAlarmed u.fire.state = true := by
      rw [show u = _ from noticeToFireUnit_of_preAlarm zone f hstate, if_pos alarm]
      exact enterAlarm_alarmed v
    exact (u.settle_latches (e := [])) .alarm List.not_mem_nil raised
  · refine (reviewZoneKey_acted (s.heard.setTable (s.heard.noticeTable n p))).of_read rfl read fun hstate => ?_
    have hv : v.fire.state ≠ .preAlarm := by
      rw [vfire]
      refine reviewZoneKey_ne_preAlarm ?_
      change s.fire.state ≠ .preAlarm
      rcases hstate with hs | hs | hs <;> rw [hs] <;> nofun
    have unfollowed : u = v :=
      noticeToFireUnit_of_unfollowed zone hv (.inl fun hr => h5 ((fireOfByte_released hlisted).mp hr))
    rw [State.keyOutcome, State.settle_fire, unfollowed, fireReported_fire w f]
    rfl

/-- Settles O44: the notice that is followed, the one that asks for a call, the own number's, and what every notice of a peer
leaves. -/
theorem fireNoticeRecorded : Obligations.FireNoticeRecorded :=
  ⟨fun s sender p hs h _ hr ho => fireNotice_followed s sender p hs h hr ho, fireNotice_calls, fireNotice_own, fireNotice_recorded⟩

end Sys2Proof.Machine

namespace Sys2Proof.Machine

open Sys2Proof

/-! ### The announcement period: what it hands to the queue (R53, R73, R132, R164) -/

theorem requeueJoin_readings (s : State) : s.KeepsReadings s.requeueJoin := by
  have cleared : s.KeepsReadings { s with claims := { s.claims with join := { s.claims.join with requeue := false } } } := by
    constructor <;> rfl
  unfold State.requeueJoin
  split
  · refine cleared.trans ?_
    dsimp only
    split
    · exact State.enqueue_readings _ _
    · exact State.enqueue_readings _ _
    all_goals exact .refl _
  · exact .refl s

theorem requeueHeat_readings (s : State) : s.KeepsReadings s.requeueHeat := by
  have cleared : s.KeepsReadings { s with claims := { s.claims with heat := { s.claims.heat with requeue := false } } } := by
    constructor <;> rfl
  unfold State.requeueHeat
  split
  · refine cleared.trans ?_
    dsimp only
    split
    · exact State.enqueue_readings _ _
    · exact State.enqueue_readings _ _
    all_goals exact .refl _
  · exact .refl s

/-- What the peer view hands over at an expiry, ahead of the count of APs. -/
def State.handedOver (s : State) : State :=
  ((s.requeueJoin.requeueHeat.requeueCheck).enqueueAnnounce).judgeCongestion

theorem apExpires_eq {s : State} (h : s.peers.apTimer ≠ none) : s.apExpires = s.ageAndSweep.handedOver.countAp :=
  if_pos (by simpa [Option.isSome_iff_ne_none] using h)

theorem apExpires_of_stopped {s : State} (h : s.peers.apTimer = none) : s.apExpires = s := if_neg (by simp [h])

theorem handedOver_readings (s : State) : s.KeepsReadings s.handedOver := by
  have checked : ∀ t : State, t.KeepsReadings t.requeueCheck := fun t => by
    unfold State.requeueCheck
    split
    · exact t.startCheck_readings
    · exact .refl t
  have announced : ∀ t : State, t.KeepsReadings t.enqueueAnnounce := fun t => by
    unfold State.enqueueAnnounce
    split
    · exact .of_queueing (t.setQueue_keeps _)
    · exact t.enqueue_readings _
  have judged : ∀ t : State, t.KeepsReadings t.judgeCongestion := fun t => by
    unfold State.judgeCongestion
    split
    · constructor <;> rfl
    · exact .refl t
  exact ((requeueJoin_readings s).trans ((requeueHeat_readings _).trans (checked _))).trans ((announced _).trans (judged _))

theorem handedOver_lists (s : State) : s.KeepsLists s.handedOver := by
  have checked : ∀ t : State, t.KeepsLists t.requeueCheck := fun t => .ite t.startCheck_lists (.refl t)
  have judged : ∀ t : State, t.KeepsLists t.judgeCongestion := fun t => .ite ⟨rfl⟩ (.refl t)
  exact (s.requeueJoin_lists.trans ((State.requeueHeat_lists _).trans (checked _))).trans
    ((State.enqueueAnnounce_lists _).trans (judged _))

theorem handedOver_safe (s : State) : s.KeepsSafe s.handedOver := by
  have judged : ∀ t : State, t.KeepsSafe t.judgeCongestion := fun t => by
    unfold State.judgeCongestion
    split
    · exact .of_state (.update t _ _ _ _) rfl
    · exact .refl t
  exact ((s.requeueJoin_safe.trans (State.requeueHeat_safe _)).trans (State.requeueCheck_safe _)).trans
    ((State.enqueueAnnounce_safe _).trans (judged _))

/-! ### The count of APs (R128, R176) -/

/-- The proving window is opened, and closed again where the contacts show at once what it waits for. -/
theorem startProving_eq (s : State) :
    ∃ x : Connection, s.startProving = { s with conn := x } ∧ x.proving ≠ .notDone ∧ x.state = s.conn.state := by
  unfold State.startProving State.testWindow
  dsimp only
  split
  · exact ⟨_, rfl, nofun, rfl⟩
  · exact ⟨_, rfl, nofun, rfl⟩

/-- The station as the entry to ACTIVE begins. -/
def State.madeActive (s : State) : State := { s with svc := { s.svc with mode := .active, apCount := 0 } }

theorem countAp_of_fourth {s : State} (hm : s.svc.mode = .listening) (hc : s.svc.apCount = 3) :
    ∃ x : Connection, s.countAp = ({ s.madeActive with conn := x } : State).thermalReview ∧ x.proving ≠ .notDone
      ∧ x.state = s.conn.state := by
  obtain ⟨x, hx, hproving, hstate⟩ := startProving_eq s.madeActive
  refine ⟨x, ?_, hproving, hstate⟩
  unfold State.countAp
  rw [if_pos hm, if_pos (by omega), ← hx]
  rfl

theorem countAp_of_earlier {s : State} (hm : s.svc.mode = .listening) (hc : s.svc.apCount ≠ 3) :
    s.countAp = { s with svc := { s.svc with apCount := s.svc.apCount + 1 } } := by
  unfold State.countAp
  rw [if_pos hm, if_neg (by omega)]

theorem countAp_of_other {s : State} (hm : s.svc.mode ≠ .listening) : s.countAp = s := if_neg hm

/-- What the count leaves. -/
theorem countAp_rest (s : State) : s.KeepsReadings s.countAp ∧ s.countAp.peers = s.peers
    ∧ s.countAp.fire = { s.fire with census := s.countAp.fire.census }
    ∧ s.countAp.claims.join.entries = s.claims.join.entries ∧ s.countAp.claims.heat.entries = s.claims.heat.entries := by
  by_cases hm : s.svc.mode = .listening
  · by_cases hc : s.svc.apCount = 3
    · obtain ⟨x, hx, -, -⟩ := countAp_of_fourth hm hc
      set t : State := { s.madeActive with conn := x } with ht
      have hs := t.thermalReview_safe
      have hl := t.thermalReview_lists
      rw [hx]
      exact ⟨.trans (by constructor <;> rfl) t.thermalReview_readings, hs.peers, hs.fire, hl.join, hl.heat⟩
    · rw [countAp_of_earlier hm hc]
      exact ⟨by constructor <;> rfl, rfl, rfl, rfl, rfl⟩
  · rw [countAp_of_other hm]
    exact ⟨.refl s, rfl, rfl, rfl, rfl⟩

/-! ### The aging and the sweep (R59, R65, R76) -/

/-- The station with the records one AP older, and the zone key check brought up to date. -/
def State.aged (s : State) : State := (s.setTable (agedTable s.peers.table)).reviewZoneKey

theorem ageAndSweep_eq (s : State) : s.ageAndSweep = (s.aged.changeJoin (s.aged.sweptList (newlyStale s.peers.table))).changeHeat
    (s.aged.sweptList (newlyStale s.peers.table)) := rfl

theorem aged_readings (s : State) : (s.setTable (agedTable s.peers.table)).KeepsReadings s.aged := State.reviewZoneKey_readings _

theorem aged_lists (s : State) : s.KeepsLists s.aged := .after (State.reviewZoneKey_lists _) rfl

/-- The sweep reaches the lists, the sequencer and the queue alone. -/
theorem ageAndSweep_safe (s : State) : s.aged.KeepsSafe s.ageAndSweep :=
  (State.changeJoin_safe _ _).trans (State.changeHeat_safe _ _)

theorem ageAndSweep_readings (s : State) : (s.setTable (agedTable s.peers.table)).KeepsReadings s.ageAndSweep :=
  (aged_readings s).trans ((State.changeJoin_readings _ _).trans (State.changeHeat_readings _ _))

theorem ageAndSweep_mode (s : State) :
    s.ageAndSweep.svc.mode = s.svc.mode ∧ s.ageAndSweep.svc.apCount = s.svc.apCount := by
  have aged := aged_lists s
  have joined := s.aged.changeJoin_lists (s.aged.sweptList (newlyStale s.peers.table))
  have heated := (s.aged.changeJoin (s.aged.sweptList (newlyStale s.peers.table))).changeHeat_lists
    (s.aged.sweptList (newlyStale s.peers.table))
  exact ⟨(heated.mode.trans joined.mode).trans aged.mode, (heated.apCount.trans joined.apCount).trans aged.apCount⟩

theorem ageAndSweep_entries (s : State) :
    s.ageAndSweep.claims.join.entries = s.aged.sweptList (newlyStale s.peers.table) s.claims.join.entries
      ∧ s.ageAndSweep.claims.heat.entries = s.aged.sweptList (newlyStale s.peers.table) s.claims.heat.entries := by
  have aged := aged_lists s
  have joined := s.aged.changeJoin_lists (s.aged.sweptList (newlyStale s.peers.table))
  have heated := (s.aged.changeJoin (s.aged.sweptList (newlyStale s.peers.table))).changeHeat_lists
    (s.aged.sweptList (newlyStale s.peers.table))
  exact ⟨(heated.join.trans joined.join).trans (congrArg _ aged.join),
    heated.heat.trans (congrArg _ (joined.heat.trans aged.heat))⟩

/-- A number stays that is the own one, or has a record that did not become STALE. -/
theorem mem_sweptList {s : State} {n : Nat} {l : List Nat} :
    n ∈ s.aged.sweptList (newlyStale s.peers.table) l ↔ n ∈ l ∧ (n = s.ownNumber
      ∨ ((∃ r ∈ agedTable s.peers.table, r.number = n) ∧ ¬∃ r ∈ s.peers.table, r.number = n ∧ r.age = 3)) := by
  have htable : s.aged.peers.table = agedTable s.peers.table := (aged_readings s).table
  have hown : s.aged.ownNumber = s.ownNumber := by
    rw [State.ownNumber, (aged_readings s).straps]
    rfl
  have stale : n ∈ newlyStale s.peers.table ↔ ∃ r ∈ s.peers.table, r.number = n ∧ r.age = 3 := by
    simp only [newlyStale, List.mem_map, List.mem_filter, beq_iff_eq, and_assoc]
    exact exists_congr fun r => and_congr_right fun _ => by rw [and_comm]; exact and_congr_right fun _ => by omega
  simp only [State.sweptList, htable, hown, List.mem_filter, Bool.or_eq_true, beq_iff_eq, Bool.and_eq_true, List.any_eq_true,
    Bool.not_eq_true', List.contains_eq_mem, decide_eq_false_iff_not, stale]

/-! ### The whole of it -/

theorem apExpires_readings {s : State} (h : s.peers.apTimer ≠ none) :
    (s.setTable (agedTable s.peers.table)).KeepsReadings s.apExpires := by
  rw [apExpires_eq h]
  exact ((ageAndSweep_readings s).trans (handedOver_readings _)).trans (countAp_rest _).1

theorem apExpires_entries {s : State} (h : s.peers.apTimer ≠ none) :
    s.apExpires.claims.join.entries = s.aged.sweptList (newlyStale s.peers.table) s.claims.join.entries
      ∧ s.apExpires.claims.heat.entries = s.aged.sweptList (newlyStale s.peers.table) s.claims.heat.entries := by
  obtain ⟨hjoin, hheat⟩ := ageAndSweep_entries s
  obtain ⟨-, -, -, countedJoin, countedHeat⟩ := countAp_rest s.ageAndSweep.handedOver
  have handed := handedOver_lists s.ageAndSweep
  rw [apExpires_eq h]
  exact ⟨(countedJoin.trans handed.join).trans hjoin, (countedHeat.trans handed.heat).trans hheat⟩

theorem swept_mode (s : State) : s.ageAndSweep.handedOver.svc.mode = s.svc.mode
    ∧ s.ageAndSweep.handedOver.svc.apCount = s.svc.apCount := by
  obtain ⟨hmode, hcount⟩ := ageAndSweep_mode s
  have handed := handedOver_lists s.ageAndSweep
  rw [handed.mode, handed.apCount]
  exact ⟨hmode, hcount⟩

/-- The mode, the count of APs and proving behind an expiry (R128, R176). -/
theorem apExpires_mode {s : State} (h : s.peers.apTimer ≠ none) :
    (s.svc.mode = .listening → s.svc.apCount = 3 → s.apExpires.svc.mode = .active ∧ s.apExpires.conn.proving ≠ .notDone)
      ∧ (s.svc.mode = .listening → s.svc.apCount ≠ 3 →
        s.apExpires.svc.mode = .listening ∧ s.apExpires.svc.apCount = s.svc.apCount + 1)
      ∧ (s.svc.mode ≠ .listening → s.apExpires.svc.mode = s.svc.mode ∧ s.apExpires.svc.apCount = s.svc.apCount) := by
  obtain ⟨hmode, hcount⟩ := swept_mode s
  rw [apExpires_eq h]
  generalize s.ageAndSweep.handedOver = u at hmode hcount ⊢
  refine ⟨fun hm hc => ?_, fun hm hc => ?_, fun hm => ?_⟩
  · obtain ⟨x, hx, hproving, -⟩ := countAp_of_fourth (hmode.trans hm) (hcount.trans hc)
    have reviewed := State.thermalReview_lists { u.madeActive with conn := x }
    rw [hx]
    exact ⟨reviewed.mode, ne_of_eq_of_ne reviewed.proving hproving⟩
  · rw [countAp_of_earlier (hmode.trans hm) (ne_of_eq_of_ne hcount hc)]
    exact ⟨hmode.trans hm, congrArg (· + 1) hcount⟩
  · rw [countAp_of_other (ne_of_eq_of_ne hmode hm)]
    exact ⟨hmode, hcount⟩

theorem apExpires_acted {s : State} (h : s.peers.apTimer ≠ none) : s.ZoneKeyActed s.apExpires.settle := by
  obtain ⟨counted, hpeers, hfire, -, -⟩ := countAp_rest s.ageAndSweep.handedOver
  have safe := (ageAndSweep_safe s).trans (handedOver_safe _)
  have readings : s.aged.KeepsReadings s.ageAndSweep.handedOver :=
    ((State.changeJoin_readings _ _).trans (State.changeHeat_readings _ _)).trans (handedOver_readings _)
  rw [apExpires_eq h]
  refine (reviewZoneKey_acted (s.setTable (agedTable s.peers.table))).of_read rfl ?_ fun _ => ?_
  · exact (settle_read _).trans (keyReadBehind_of_readings (readings.trans counted) (by rw [hpeers, safe.peers]; rfl))
  · rw [State.keyOutcome, State.settle_fire, hfire, safe.fire]
    rfl

/-- What an expiry leaves of the records, the lists, the mode and the zone key check, whatever the queue. -/
theorem apExpiry_general {s : State} (hr : s.svc.restart = .none) (h : s.peers.apTimer ≠ none) :
    let aged := s.peers.table.map (fun r =>
      { r with age := r.age + 1, presence := if r.age + 1 = 4 then .stale else r.presence })
    ∃ t, exec .apExpiry s = .next t
        ∧ t.peers.table = aged.filter (fun r => decide (r.age < 12))
        ∧ (∀ n, n ∈ t.claims.join.entries ↔ n ∈ s.claims.join.entries ∧ (n = s.ownNumber
            ∨ ((∃ r ∈ t.peers.table, r.number = n) ∧ ¬∃ r ∈ s.peers.table, r.number = n ∧ r.age = 3)))
        ∧ (∀ n, n ∈ t.claims.heat.entries ↔ n ∈ s.claims.heat.entries ∧ (n = s.ownNumber
            ∨ ((∃ r ∈ t.peers.table, r.number = n) ∧ ¬∃ r ∈ s.peers.table, r.number = n ∧ r.age = 3)))
        ∧ (s.svc.mode = .listening → s.svc.apCount = 3 → t.svc.mode = .active ∧ t.conn.proving ≠ .notDone)
        ∧ (s.svc.mode = .listening → s.svc.apCount ≠ 3 → t.svc.mode = .listening ∧ t.svc.apCount = s.svc.apCount + 1)
        ∧ (s.svc.mode ≠ .listening → t.svc.mode = s.svc.mode ∧ t.svc.apCount = s.svc.apCount)
        ∧ s.ZoneKeyActed t
        ∧ t.chain.record = s.chain.record ∧ t.grid.state = s.grid.state ∧ t.svc.config = s.svc.config := by
  intro aged
  set t := s.apExpires.settle with ht
  have readings := (apExpires_readings h).trans s.apExpires.settle_readings
  have ended := s.apExpires.settle_lists
  obtain ⟨hjoin, hheat⟩ := apExpires_entries h
  obtain ⟨fourth, earlier, other⟩ := apExpires_mode h
  have htable : t.peers.table = agedTable s.peers.table := readings.table
  refine ⟨t, finish_of_none ((s.apExpires_latches (e := [])) .restart List.not_mem_nil hr), htable, fun n => ?_, fun n => ?_,
    ?_, ?_, ?_, apExpires_acted h, readings.record, readings.gridState, readings.config⟩
  · rw [htable, ended.join, hjoin]
    exact mem_sweptList
  · rw [htable, ended.heat, hheat]
    exact mem_sweptList
  · rw [ended.mode, ended.proving]
    exact fourth
  · rw [ended.mode, ended.apCount]
    exact earlier
  · rw [ended.mode, ended.apCount]
    exact other

end Sys2Proof.Machine

namespace Sys2Proof.Machine

open Sys2Proof

/-! ### Frames that were dropped and are queued again (R73, R132) -/

/-- The claim or release frame of the join list that is owed. -/
def State.joinRepeats (s : State) : List Entry :=
  if s.claims.join.requeue then
    (match s.claims.join.own with
    | .claimQueued _ => [joinClaimFrame]
    | .releaseQueued _ => [newEntry .claim 2 [if s.claims.doneResult = .ok then 0 else 1] .plain]
    | .notClaimed => []
    | .listed => [])
  else []

/-- That of the heater list. -/
def State.heatRepeats (s : State) : List Entry :=
  if s.claims.heat.requeue then
    (match s.claims.heat.own with
    | .claimQueued _ => [heatClaimFrame]
    | .releaseQueued _ => [heatReleaseFrame]
    | .notClaimed => []
    | .listed => [])
  else []

/-- The JOINED call that is owed. -/
def State.checkRepeats (s : State) : List Entry := if s.conn.check = .callPending true then [joinedCall] else []

def State.repeats (s : State) : List Entry := s.joinRepeats ++ s.heatRepeats ++ s.checkRepeats

/-- Frames queued one behind the other. -/
def queuedBehind (q : List Entry) (es : List Entry) : List Entry := es.foldl (fun q e => insertByClass e q) q

theorem queuedBehind_append (q es fs : List Entry) : queuedBehind q (es ++ fs) = queuedBehind (queuedBehind q es) fs :=
  List.foldl_append

theorem queuedBehind_length (q es : List Entry) : (queuedBehind q es).length = q.length + es.length := by
  induction es generalizing q with
  | nil => rfl
  | cons e es ih =>
    have h := ih (insertByClass e q)
    rw [insertByClass_length] at h
    rw [List.length_cons, queuedBehind, List.foldl_cons]
    change (queuedBehind (insertByClass e q) es).length = _
    omega

/-- The ANNOUNCE entries that wait are those that waited, where none of the frames is one. -/
theorem queuedBehind_announces {es : List Entry} (h : ∀ e ∈ es, waitingAnnounce e = false) (q : List Entry) :
    ((queuedBehind q es).filter waitingAnnounce).length = (q.filter waitingAnnounce).length := by
  induction es generalizing q with
  | nil => rfl
  | cons e es ih =>
    have inserted := ((insertByClass_perm e q).filter waitingAnnounce).length_eq
    rw [List.filter_cons_of_neg (by simp [h e List.mem_cons_self])] at inserted
    exact (ih (fun x hx => h x (List.mem_cons_of_mem _ hx)) (insertByClass e q)).trans inserted

theorem joinDoneFrame_eq (r : JoinResult) : joinDoneFrame r = newEntry .claim 2 [if r = .ok then 0 else 1] .plain := by
  cases r <;> rfl

theorem repeats_not_announce (s : State) : ∀ e ∈ s.repeats, waitingAnnounce e = false := by
  have join : ∀ e ∈ s.joinRepeats, waitingAnnounce e = false := by
    unfold State.joinRepeats
    split
    · split <;> simp [waitingAnnounce, joinClaimFrame, newEntry]
    · simp
  have heat : ∀ e ∈ s.heatRepeats, waitingAnnounce e = false := by
    unfold State.heatRepeats
    split
    · split <;> simp [waitingAnnounce, heatClaimFrame, heatReleaseFrame, newEntry]
    · simp
  have check : ∀ e ∈ s.checkRepeats, waitingAnnounce e = false := by
    unfold State.checkRepeats
    split <;> simp [waitingAnnounce, joinedCall, censusCall, newEntry]
  intro e he
  rcases List.mem_append.mp he with he | he
  · exact (List.mem_append.mp he).elim (join e) (heat e)
  · exact check e he

/-- With room, what the join list owes is queued. -/
theorem requeueJoin_of_room {s : State} (h : s.link.queue.length + s.joinRepeats.length ≤ 8) : s.requeueJoin = { s with
    claims := { s.claims with join := { s.claims.join with requeue := false } }
    link := { s.link with queue := queuedBehind s.link.queue s.joinRepeats } } := by
  unfold State.requeueJoin State.joinRepeats at *
  cases hq : s.claims.join.requeue with
  | false =>
    simp only [Bool.false_eq_true, if_false]
    exact congrArg (fun b => ({ s with
      claims := { s.claims with join := { s.claims.join with requeue := b } } } : State)) hq
  | true =>
    simp only [hq, if_true] at h ⊢
    cases ho : s.claims.join.own with
    | notClaimed => rfl
    | listed => rfl
    | claimQueued mark =>
      rw [ho] at h
      exact enqueue_of_room (Nat.lt_of_succ_le h)
    | releaseQueued mark =>
      rw [ho] at h
      dsimp only
      rw [joinDoneFrame_eq]
      exact enqueue_of_room (Nat.lt_of_succ_le h)

/-- So is what the heater list owes, -/
theorem requeueHeat_of_room {s : State} (h : s.link.queue.length + s.heatRepeats.length ≤ 8) : s.requeueHeat = { s with
    claims := { s.claims with heat := { s.claims.heat with requeue := false } }
    link := { s.link with queue := queuedBehind s.link.queue s.heatRepeats } } := by
  unfold State.requeueHeat State.heatRepeats at *
  cases hq : s.claims.heat.requeue with
  | false =>
    simp only [Bool.false_eq_true, if_false]
    exact congrArg (fun b => ({ s with
      claims := { s.claims with heat := { s.claims.heat with requeue := b } } } : State)) hq
  | true =>
    simp only [hq, if_true] at h ⊢
    cases ho : s.claims.heat.own with
    | notClaimed => rfl
    | listed => rfl
    | claimQueued mark | releaseQueued mark =>
      rw [ho] at h
      exact enqueue_of_room (Nat.lt_of_succ_le h)

/-- and the JOINED call. -/
theorem requeueCheck_of_room {s : State} (h : s.link.queue.length + s.checkRepeats.length ≤ 8) : s.requeueCheck = { s with
    conn := { s.conn with check := if s.conn.check = .callPending true then .callPending false else s.conn.check }
    link := { s.link with queue := queuedBehind s.link.queue s.checkRepeats } } := by
  unfold State.requeueCheck State.checkRepeats at *
  by_cases hc : s.conn.check = .callPending true
  · rw [if_pos hc] at h
    rw [if_pos hc, if_pos hc, if_pos hc]
    exact enqueue_of_room (s := { s with conn := { s.conn with check := .callPending false } }) (Nat.lt_of_succ_le h)
  · rw [if_neg hc, if_neg hc, if_neg hc]
    rfl

/-- The station with everything owed queued again. -/
def State.repeated (s : State) : State :=
  { s with
    claims := { s.claims with
      join := { s.claims.join with requeue := false }, heat := { s.claims.heat with requeue := false } }
    conn := { s.conn with check := if s.conn.check = .callPending true then .callPending false else s.conn.check }
    link := { s.link with queue := queuedBehind s.link.queue s.repeats } }

theorem requeue_of_room {s : State} (h : s.link.queue.length + s.repeats.length ≤ 8) :
    s.requeueJoin.requeueHeat.requeueCheck = s.repeated := by
  have hlength : s.repeats.length = s.joinRepeats.length + s.heatRepeats.length + s.checkRepeats.length := by
    rw [State.repeats, List.length_append, List.length_append]
  rw [requeueJoin_of_room (by omega)]
  set t : State := { s with
    claims := { s.claims with join := { s.claims.join with requeue := false } }
    link := { s.link with queue := queuedBehind s.link.queue s.joinRepeats } } with ht
  have ht1 : t.link.queue.length + t.heatRepeats.length ≤ 8 := by
    change (queuedBehind s.link.queue s.joinRepeats).length + s.heatRepeats.length ≤ 8
    rw [queuedBehind_length]
    omega
  rw [requeueHeat_of_room ht1]
  set u : State := { t with
    claims := { t.claims with heat := { t.claims.heat with requeue := false } }
    link := { t.link with queue := queuedBehind t.link.queue t.heatRepeats } } with hu
  have hu1 : u.link.queue.length + u.checkRepeats.length ≤ 8 := by
    change (queuedBehind (queuedBehind s.link.queue s.joinRepeats) s.heatRepeats).length + s.checkRepeats.length ≤ 8
    rw [queuedBehind_length, queuedBehind_length]
    omega
  rw [requeueCheck_of_room hu1, State.repeated, State.repeats, queuedBehind_append, queuedBehind_append]
  rfl

/-- Where nothing is owed, the marks of the lists are clear. -/
theorem repeated_of_nothing {s : State} (h : s.repeats = []) : s.repeated = { s with claims := { s.claims with
    join := { s.claims.join with requeue := false }, heat := { s.claims.heat with requeue := false } } } := by
  have check : s.conn.check ≠ .callPending true := fun hc => by
    have hnone : s.checkRepeats = [] := (List.append_eq_nil_iff.mp h).2
    rw [State.checkRepeats, if_pos hc] at hnone
    exact nomatch hnone
  rw [State.repeated, if_neg check, h]
  rfl

/-! ### The ANNOUNCE and LINK_CONGESTION (R54, R163, R164) -/

/-- The queue with the new ANNOUNCE in place of the waiting one, or behind its classes. -/
def announcedQueue (q : List Entry) : List Entry :=
  if q.any waitingAnnounce then q.map (fun e => if waitingAnnounce e then announceFrame else e) else insertByClass announceFrame q

/-- The entries that the judgement of LINK_CONGESTION counts (R164). -/
def otherEntries (q : List Entry) : Nat := q.length - (if q.any waitingAnnounce then 1 else 0)

/-- In either way an ANNOUNCE waits then, and the others are those that stood in the queue. -/
theorem announcedQueue_others (q : List Entry) : otherEntries (announcedQueue q) = otherEntries q := by
  unfold otherEntries announcedQueue
  cases h : q.any waitingAnnounce with
  | false =>
    have waits : (insertByClass announceFrame q).any waitingAnnounce = true :=
      List.any_eq_true.mpr ⟨announceFrame, mem_insertByClass.mpr (.inl rfl), rfl⟩
    simp [waits, insertByClass_length]
  | true =>
    obtain ⟨e, he, hw⟩ := List.any_eq_true.mp h
    have waits : (q.map (fun e => if waitingAnnounce e then announceFrame else e)).any waitingAnnounce = true :=
      List.any_eq_true.mpr ⟨announceFrame, List.mem_map.mpr ⟨e, he, if_pos hw⟩, rfl⟩
    rw [if_pos rfl, waits, List.length_map]

theorem enqueueAnnounce_of_room {s : State} (h : s.link.queue.length < 8)
    (hone : (s.link.queue.filter waitingAnnounce).length ≤ 1) :
    s.enqueueAnnounce = s.setQueue (announcedQueue s.link.queue) := by
  unfold State.enqueueAnnounce announcedQueue
  split
  · rw [replaceAnnounce_eq_map hone]
  · exact enqueue_of_room h

theorem judgeCongestion_eq (s : State) : s.judgeCongestion = { s with link := { s.link with
    congestion := if otherEntries s.link.queue ≤ 4 then false else s.link.congestion } } := by
  unfold State.judgeCongestion
  change (if otherEntries s.link.queue ≤ 4 then _ else _) = _
  split <;> rfl

theorem announce_of_room {s : State} (h : s.link.queue.length < 8) (hone : (s.link.queue.filter waitingAnnounce).length ≤ 1) :
    s.enqueueAnnounce.judgeCongestion = { s with link := { s.link with
      queue := announcedQueue s.link.queue
      congestion := if otherEntries s.link.queue ≤ 4 then false else s.link.congestion } } := by
  rw [enqueueAnnounce_of_room h hone, judgeCongestion_eq, State.setQueue_link_queue, announcedQueue_others]
  rfl

theorem FrameClass.rank_le_announce (c : FrameClass) : c.rank ≤ FrameClass.announce.rank := by cases c <;> decide

/-- In a full queue without one the new ANNOUNCE, which ranks lowest, is dropped (R164). -/
theorem announce_of_full {s : State} (h : s.link.queue.length = 8) (hnone : ∀ e ∈ s.link.queue, waitingAnnounce e = false) :
    s.enqueueAnnounce.judgeCongestion = { s with link := { s.link with congestion := true } } := by
  have quiet : s.link.queue.any waitingAnnounce = false := List.any_eq_false.mpr fun e he => by simp [hnone e he]
  have dropped : s.enqueueAnnounce = s.congest := by
    unfold State.enqueueAnnounce
    rw [if_neg (by simp [quiet]), enqueue_drops h.ge fun v _ => FrameClass.rank_le_announce v.cls]
    rfl
  have others : otherEntries s.congest.link.queue = 8 := by
    change s.link.queue.length - (if s.link.queue.any waitingAnnounce then 1 else 0) = 8
    rw [quiet, h]
    rfl
  rw [dropped, judgeCongestion_eq, others]
  rfl

/-! ### An aging that changes nothing that other blocks follow -/

theorem agedTable_of_young {table : List PeerRecord} (h : ∀ r ∈ table, r.age ≠ 3 ∧ r.age < 11) :
    agedTable table = table.map agedRecord := by
  refine List.filter_eq_self.mpr fun r hr => ?_
  obtain ⟨x, hx, rfl⟩ := List.mem_map.mp hr
  have := (h x hx).2
  exact decide_eq_true (Nat.succ_lt_succ this)

/-- The station with every record one AP older. -/
def State.older (s : State) : State := s.setTable (s.peers.table.map agedRecord)

theorem older_zoneKeyNow {s : State} (h : ∀ r ∈ s.peers.table, r.age ≠ 3 ∧ r.age < 11) : s.older.zoneKeyNow = s.zoneKeyNow := by
  change (s.peers.table.map agedRecord).any (fun r => r.presence == .present && r.zone == s.ownZone && r.key) = _
  rw [List.any_map, Bool.eq_iff_iff, State.zoneKeyNow, List.any_eq_true, List.any_eq_true]
  refine exists_congr fun r => and_congr_right fun hr => ?_
  have presence : (agedRecord r).presence = r.presence := if_neg fun h4 => (h r hr).1 (Nat.succ.inj h4)
  change (_ == _ && _ && _) = true ↔ _
  rw [presence]
  rfl

/-- Records that neither become STALE nor go, and lists that every entry of which has a record, are aged alone. -/
theorem ageAndSweep_of_young {s : State} (h : ∀ r ∈ s.peers.table, r.age ≠ 3 ∧ r.age < 11) (hc : s.SignalsCurrent)
    (hr : s.rotationDue = false) (hk : s.ZoneKeyCurrent)
    (hl : ∀ n ∈ s.claims.join.entries ++ s.claims.heat.entries, n = s.ownNumber ∨ ∃ r ∈ s.peers.table, r.number = n) :
    s.ageAndSweep = s.older := by
  have aged : s.aged = s.older := by
    have key : s.zoneKeyNow = s.peers.zoneKey := Bool.eq_iff_iff.mpr (zoneKeyNow_iff.trans hk.symm)
    rw [State.aged, agedTable_of_young h]
    exact reviewZoneKey_of_same ((older_zoneKeyNow h).trans key)
  have swept : ∀ l, (∀ n ∈ l, n = s.ownNumber ∨ ∃ r ∈ s.peers.table, r.number = n) →
      s.aged.sweptList (newlyStale s.peers.table) l = l := fun l hl => by
    refine List.filter_eq_self.mpr fun n hn => ?_
    have stays : n ∈ s.aged.sweptList (newlyStale s.peers.table) l := by
      refine mem_sweptList.mpr ⟨hn, (hl n hn).imp_right fun ⟨r, hr, hnum⟩ => ?_⟩
      rw [agedTable_of_young h]
      exact ⟨⟨agedRecord r, List.mem_map_of_mem hr, hnum⟩, fun ⟨x, hx, _, hage⟩ => (h x hx).1 hage⟩
    exact (List.mem_filter.mp stays).2
  have joined : s.older.changeJoin (s.aged.sweptList (newlyStale s.peers.table)) = s.older := by
    have same : s.older.setJoinEntries s.claims.join.entries = s.older :=
      congrArg (fun x => ({ s.older with claims := { s.older.claims with headTimer := x } } : State)) (if_pos rfl)
    change (s.older.setJoinEntries (s.aged.sweptList _ s.claims.join.entries)).signalToken = s.older
    rw [swept _ fun n hn => hl n (List.mem_append_left _ hn), same]
    exact signalToken_of_current hc.token.symm
  have heated : s.older.changeHeat (s.aged.sweptList (newlyStale s.peers.table)) = s.older := by
    change (s.older.setHeatEntries (s.aged.sweptList _ s.claims.heat.entries)).evalSlot = s.older
    rw [swept _ fun n hn => hl n (List.mem_append_right _ hn)]
    exact evalSlot_of_current (s := s.older) hc.slot.symm hr
  rw [ageAndSweep_eq]
  conv_lhs => rw [show s.aged.changeJoin _ = s.older from aged ▸ joined]
  exact heated

/-! ### The obligation -/

/-- Older records show the same cooling levels (R64). -/
theorem older_containerLevelNow (s : State) : s.older.containerLevelNow = s.containerLevelNow := by
  change ((s.peers.table.map agedRecord).filterMap (·.level)).foldl max s.thermal.level = _
  rw [List.filterMap_map]
  rfl

/-- Older records, and the marks and the queue of the blocks that queue frames, enter no judgement of a command's end. -/
theorem steady_older {s : State} (h : s.Steady) (join heat : Bool) (check : JoinCheck) (l : Link) : State.Steady { s.older with
    claims := { s.claims with join := { s.claims.join with requeue := join }, heat := { s.claims.heat with requeue := heat } }
    conn := { s.conn with check := check }
    link := l } :=
  ⟨h.permit, h.containerLevel.trans (older_containerLevelNow s).symm, h.pump1, h.pump2, h.chillerRun, h.forced, h.noDue⟩

theorem apExpires_of_young {s : State} (ht : s.peers.apTimer ≠ none) (hm : s.svc.mode ≠ .listening)
    (h : s.ageAndSweep = s.older) (hq : s.link.queue.length + s.repeats.length ≤ 8) :
    s.apExpires = s.older.repeated.enqueueAnnounce.judgeCongestion := by
  have handed : s.ageAndSweep.handedOver = s.older.repeated.enqueueAnnounce.judgeCongestion := by
    rw [State.handedOver, h, requeue_of_room (s := s.older) hq]
  have mode : s.ageAndSweep.handedOver.svc.mode ≠ .listening := ne_of_eq_of_ne (swept_mode s).1 hm
  rw [apExpires_eq ht, countAp_of_other mode, handed]

/-- Settles O41: what an expiry does whatever the queue, and exactly what it does where the aging is followed by nothing, with room
in the queue and in a full queue. -/
theorem apExpiryAgesAndSweeps : Obligations.ApExpiryAgesAndSweeps := by
  intro s
  refine ⟨finish_next _, ?_⟩
  intro hs hr aged
  refine ⟨fun ht => ?_, fun ht => apExpiry_general hr ht, ?_⟩
  · exact (congrArg State.finish (apExpires_of_stopped ht)).trans (finish_of_steady hs)
  · intro ht hm hc hrot hk hyoung hl waits repeats queue others
    have young := ageAndSweep_of_young hyoung hc hrot hk hl
    refine ⟨fun hroom hone => ?_, fun hfull hnone hrep => ?_⟩
    · have hlength : s.older.repeated.link.queue.length < 8 := by
        change (queuedBehind s.link.queue s.repeats).length < 8
        rw [queuedBehind_length]
        exact hroom
      have hann : (s.older.repeated.link.queue.filter waitingAnnounce).length ≤ 1 :=
        (queuedBehind_announces (repeats_not_announce s) s.link.queue).trans_le hone
      have expired := (apExpires_of_young ht hm young (Nat.le_of_lt hroom)).trans (announce_of_room hlength hann)
      exact (congrArg State.finish expired).trans (finish_of_steady (steady_older hs _ _ _ _))
    · have nothing : s.older.repeats = [] := hrep
      have expired := (apExpires_of_young ht hm young (by rw [show s.repeats = [] from hrep, hfull]; exact le_rfl)).trans
        ((congrArg (fun t : State => t.enqueueAnnounce.judgeCongestion) (repeated_of_nothing nothing)).trans
          (announce_of_full hfull hnone))
      exact (congrArg State.finish expired).trans (finish_of_steady (steady_older hs _ _ _ _))

end Sys2Proof.Machine

namespace Sys2Proof.Machine

open Sys2Proof

/-! ### The claim lists and the peer table as records (R55, R59, R68, R69, R76) -/

/-- A claim list as the frames and sweeps leave it: station numbers, none twice (R68, R69). -/
structure ProperList (l : List Nat) : Prop where
  once : l.Nodup
  stations : ∀ n ∈ l, isStation n = true

namespace ProperList

theorem append {n : Nat} {l : List Nat} (h : ProperList l) (hn : isStation n = true) : ProperList (appendAbsent n l) := by
  refine ⟨?_, fun m hm => ?_⟩
  · unfold appendAbsent
    split
    · exact h.once
    · next hc =>
      exact List.nodup_append.mpr ⟨h.once, List.nodup_singleton n, fun a ha b hb => by
        rintro rfl
        exact hc (by simpa [List.mem_singleton.mp hb] using ha)⟩
  · rcases mem_appendAbsent.mp hm with hm | rfl
    · exact h.stations m hm
    · exact hn

theorem filter {l : List Nat} (h : ProperList l) (p : Nat → Bool) : ProperList (l.filter p) :=
  ⟨h.once.filter p, fun n hn => h.stations n (List.mem_of_mem_filter hn)⟩

theorem repair {n : Nat} {l : List Nat} (h : ProperList l) (flag : Bool) (hn : isStation n = true) :
    ProperList (repairBy flag n l) := by
  unfold repairBy
  split
  · exact h.append hn
  · exact h.filter _

end ProperList

/-- The own number is a station number (R174). -/
theorem isStation_ownNumber (s : State) : isStation s.ownNumber = true := by
  have := s.svc.straps.number.isLt
  simp [isStation, State.ownNumber]
  omega

theorem isStation_of_peer {s : State} {n : Nat} (h : s.isPeer n = true) : isStation n = true := by
  rw [State.isPeer, Bool.and_eq_true] at h
  exact h.1

theorem ne_ownNumber_of_peer {s : State} {n : Nat} (h : s.isPeer n = true) : n ≠ s.ownNumber := by
  rw [State.isPeer, Bool.and_eq_true, bne_iff_ne] at h
  exact h.2

/-- A peer table as the station keeps it: peers in ascending order, of ages up to 11, STALE from age 4 on (R55, R59). -/
structure State.ProperTable (s : State) (table : List PeerRecord) : Prop where
  order : (table.map (·.number)).Pairwise (· < ·)
  peers : ∀ r ∈ table, s.isPeer r.number = true
  ages : ∀ r ∈ table, r.age ≤ 11
  stale : ∀ r ∈ table, (r.presence = .stale ↔ 4 ≤ r.age)

/-- A record put in its place leaves the order of the table (R55). -/
theorem putRecord_order {r : PeerRecord} {table : List PeerRecord} (h : (table.map (·.number)).Pairwise (· < ·)) :
    ((putRecord r table).map (·.number)).Pairwise (· < ·) := by
  induction table with
  | nil => exact List.pairwise_singleton _ _
  | cons x xs ih =>
    obtain ⟨hfirst, hrest⟩ := List.pairwise_cons.mp h
    unfold putRecord
    split
    · next hx => exact List.pairwise_cons.mpr ⟨fun k hk => hx.symm.trans_lt (hfirst k hk), hrest⟩
    · next hx =>
      split
      · next hlt =>
        refine List.pairwise_cons.mpr ⟨fun k hk => ?_, h⟩
        rcases List.mem_cons.mp hk with rfl | hk
        · exact hlt
        · exact hlt.trans (hfirst k hk)
      · refine List.pairwise_cons.mpr ⟨fun k hk => ?_, ih hrest⟩
        obtain ⟨y, hy, rfl⟩ := List.mem_map.mp hk
        rcases mem_putRecord hrest hy with rfl | ⟨hy, -⟩
        · change x.number < y.number
          omega
        · exact hfirst _ (List.mem_map_of_mem hy)

namespace State.ProperTable

theorem put {s : State} {table : List PeerRecord} (h : s.ProperTable table) {r : PeerRecord} (hpeer : s.isPeer r.number = true)
    (hage : r.age ≤ 11) (hstale : r.presence = .stale ↔ 4 ≤ r.age) : s.ProperTable (putRecord r table) where
  order := putRecord_order h.order
  peers := fun x hx => (mem_putRecord h.order hx).elim (· ▸ hpeer) fun ⟨hx, _⟩ => h.peers x hx
  ages := fun x hx => (mem_putRecord h.order hx).elim (· ▸ hage) fun ⟨hx, _⟩ => h.ages x hx
  stale := fun x hx => (mem_putRecord h.order hx).elim (· ▸ hstale) fun ⟨hx, _⟩ => h.stale x hx

/-- An ANNOUNCE leaves a record of age 0 (R56). -/
theorem announced {s : State} {table : List PeerRecord} (h : s.ProperTable table) {n : Nat} (hn : s.isPeer n = true)
    (p : List Byte) : s.ProperTable (putRecord (announcedRecord n p) table) :=
  h.put hn (Nat.zero_le 11) ⟨nofun, nofun⟩

/-- A FIRE_NOTICE leaves age and presence, and makes a record of age 0 (R57). -/
theorem noticed {s : State} (h : s.ProperTable s.peers.table) {n : Nat} (hn : s.isPeer n = true) (p : List Byte) :
    s.ProperTable (putRecord (noticedRecord (s.peers.record n) n p) s.peers.table) := by
  have hpeer : s.isPeer (noticedRecord (s.peers.record n) n p).number = true :=
    (congrArg s.isPeer (noticedRecord_number n p)).trans hn
  cases hr : s.peers.record n with
  | none => exact h.put hn (Nat.zero_le 11) ⟨nofun, nofun⟩
  | some r =>
    have member := List.mem_of_find?_eq_some hr
    exact h.put (hr ▸ hpeer) (h.ages r member) (h.stale r member)

/-- The aging leaves records of ages up to 11, STALE from age 4 on (R59). -/
theorem aged {s : State} {table : List PeerRecord} (h : s.ProperTable table) : s.ProperTable (agedTable table) := by
  have member : ∀ x ∈ agedTable table, x.age < 12 ∧ ∃ r ∈ table, agedRecord r = x := fun x hx => by
    obtain ⟨hx, hage⟩ := List.mem_filter.mp hx
    exact ⟨of_decide_eq_true hage, List.mem_map.mp hx⟩
  have numbers : (table.map agedRecord).map (·.number) = table.map (·.number) := List.map_map
  refine ⟨(numbers ▸ h.order).sublist (List.filter_sublist.map _), fun x hx => ?_, fun x hx => ?_, fun x hx => ?_⟩ <;>
    obtain ⟨hage, r, hr, rfl⟩ := member x hx
  · exact h.peers r hr
  · exact Nat.le_of_lt_succ hage
  · have hstale := h.stale r hr
    change (if r.age + 1 = 4 then Presence.stale else r.presence) = .stale ↔ 4 ≤ r.age + 1
    split
    · next h4 => exact ⟨fun _ => h4.ge, fun _ => rfl⟩
    · rw [hstale]
      omega

end State.ProperTable

/-- Whether a table is proper depends on the own number alone (R174). -/
theorem State.ProperTable.of_straps {s t : State} {table : List PeerRecord} (h : s.ProperTable table)
    (hs : t.svc.straps = s.svc.straps) : t.ProperTable table := by
  have peer : ∀ n, t.isPeer n = s.isPeer n := fun n => by rw [State.isPeer, State.ownNumber, hs]; rfl
  exact ⟨h.order, fun r hr => (peer _).trans (h.peers r hr), h.ages, h.stale⟩

/-- Both lists and the table proper: the lists' invariant but for the zone key check. -/
structure State.RecordsProper (s : State) : Prop where
  join : ProperList s.claims.join.entries
  heat : ProperList s.claims.heat.entries
  table : s.ProperTable s.peers.table

theorem listsProper_iff {s : State} : s.ListsProper ↔ s.RecordsProper ∧ s.ZoneKeyCurrent := by
  constructor
  · intro h
    exact ⟨⟨⟨h.joinOnce, h.joinStations⟩, ⟨h.heatOnce, h.heatStations⟩,
      ⟨h.tableOrder, h.tablePeers, h.tableAges, h.tableStale⟩⟩, h.zoneKey⟩
  · rintro ⟨h, hkey⟩
    exact ⟨h.join.once, h.join.stations, h.heat.once, h.heat.stations, h.table.order, h.table.peers, h.table.ages, h.table.stale,
      hkey⟩

/-- All that the lists' invariant reads of a state. -/
def State.recordsRead (s : State) : (List Nat × List Nat) × List PeerRecord × Bool × StrapPins :=
  ((s.claims.join.entries, s.claims.heat.entries), s.peers.table, s.peers.zoneKey, s.svc.straps)

theorem recordsRead_of_parts {s t : State} (hj : t.claims.join.entries = s.claims.join.entries)
    (hh : t.claims.heat.entries = s.claims.heat.entries) (hp : t.peers = s.peers) (hs : t.svc.straps = s.svc.straps) :
    t.recordsRead = s.recordsRead := by
  rw [State.recordsRead, hj, hh, hp, hs]
  rfl

/-- The operations that leave protection and the entries of both lists. -/
theorem recordsRead_of_kept {s t : State} (h : s.KeepsProtection t) (k : s.KeepsLists t) : t.recordsRead = s.recordsRead :=
  recordsRead_of_parts k.join k.heat h.peers (by rw [h.svc])

theorem State.RecordsProper.of_read {s t : State} (h : s.RecordsProper) (hr : t.recordsRead = s.recordsRead) :
    t.RecordsProper := by
  simp only [recordsRead, Prod.mk.injEq] at hr
  obtain ⟨⟨hjoin, hheat⟩, htable, -, hstraps⟩ := hr
  exact ⟨hjoin ▸ h.join, hheat ▸ h.heat, htable ▸ h.table.of_straps hstraps⟩

/-! ### The token and the slot as signalled (R77, R81, R126, R132) -/

/-- The connection states in which the sequencer works under the token (R77, R126). -/
def worksUnderToken : ConnState → Bool
  | .precharge => true
  | .closing => true
  | .openRack => false
  | .waitToken => false
  | .joined => false
  | .leaving => false
  | .opening => false
  | .welded => false
  | .lockout => false
  | .outOfService => false

theorem worksUnderToken_iff {st : ConnState} : worksUnderToken st = true ↔ st = .precharge ∨ st = .closing := by
  cases st <;> simp [worksUnderToken]

/-- What the token is judged from, with the token as signalled. -/
def State.tokenRead (s : State) : Option Nat × Bool × Bool × StrapPins :=
  (s.claims.join.entries.head?, s.claims.join.own.flag, s.claims.tokenHeld, s.svc.straps)

/-- What the slot is judged from, with the slot as signalled. -/
def State.slotRead (s : State) : List Nat × Bool × Nat × Bool × StrapPins :=
  (s.claims.heat.entries, s.claims.heat.own.flag, s.claims.limit, s.claims.slotHeld, s.svc.straps)

/-- What the sequencer brings in: its state, and whether a join check is pending. -/
def State.checkRead (s : State) : ConnState × Bool := (s.conn.state, s.conn.check == .none)

/-- All that the signals' invariant reads of a state. -/
def State.signalsRead (s : State) : (Option Nat × Bool × Bool × StrapPins) × (List Nat × Bool × Nat × Bool × StrapPins)
    × ConnState × Bool := (s.tokenRead, s.slotRead, s.checkRead)

/-- The flag of R74 is the test of R77 and R81. -/
theorem listed_eq_flag (o : OwnClaim) : (o == .listed) = o.flag := by
  cases o with
  | claimQueued mark => cases mark <;> rfl
  | releaseQueued mark => cases mark <;> rfl
  | _ => rfl

theorem tokenNow_eq (s : State) : s.tokenNow = (s.claims.join.entries.head? == some s.ownNumber && s.claims.join.own.flag) := by
  rw [State.tokenNow, listed_eq_flag]

theorem slotNow_eq (s : State) :
    s.slotNow = ((s.claims.heat.entries.take s.claims.limit).contains s.ownNumber && s.claims.heat.own.flag) := by
  rw [State.slotNow, listed_eq_flag]

/-- The token, and the slot, is signalled as it stands. -/
def State.TokenCurrent (s : State) : Prop := s.claims.tokenHeld = s.tokenNow

def State.SlotCurrent (s : State) : Prop := s.claims.slotHeld = s.slotNow

/-- A join check is pending in WAIT_TOKEN alone (R132). -/
def State.CheckWaits (s : State) : Prop := s.conn.check ≠ .none → s.conn.state = .waitToken

theorem State.TokenCurrent.of_read {s t : State} (h : s.TokenCurrent) (hr : t.tokenRead = s.tokenRead) : t.TokenCurrent := by
  simp only [tokenRead, Prod.mk.injEq] at hr
  obtain ⟨hhead, hflag, hheld, hstraps⟩ := hr
  rw [TokenCurrent, tokenNow_eq, hhead, hflag, hheld, State.ownNumber, hstraps, ← State.ownNumber, ← tokenNow_eq]
  exact h

theorem State.SlotCurrent.of_read {s t : State} (h : s.SlotCurrent) (hr : t.slotRead = s.slotRead) : t.SlotCurrent := by
  simp only [slotRead, Prod.mk.injEq] at hr
  obtain ⟨hentries, hflag, hlimit, hheld, hstraps⟩ := hr
  rw [SlotCurrent, slotNow_eq, hentries, hflag, hlimit, hheld, State.ownNumber, hstraps, ← State.ownNumber, ← slotNow_eq]
  exact h

theorem checkNone_of_read {s t : State} (hr : t.checkRead = s.checkRead) (h : s.conn.check = .none) : t.conn.check = .none := by
  have hc := congrArg Prod.snd hr
  simpa [State.checkRead, h] using hc

/-- The signals from their parts; the own entry heads the list where the token is held (R77). -/
theorem signalsCurrent_of {s : State} (token : s.TokenCurrent) (slot : s.SlotCurrent)
    (joining : worksUnderToken s.conn.state = true → s.claims.tokenHeld = true)
    (check : s.conn.check ≠ .none → s.conn.state = .waitToken ∧ s.claims.tokenHeld = true) : s.SignalsCurrent where
  token := token
  slot := slot
  joining := fun h => joining (worksUnderToken_iff.mpr h)
  head := fun h => by
    have held : s.tokenNow = true := token ▸ joining (worksUnderToken_iff.mpr h)
    rw [State.tokenNow, Bool.and_eq_true, beq_iff_eq] at held
    exact held.1
  check := check

theorem State.SignalsCurrent.checkWaits {s : State} (h : s.SignalsCurrent) : s.CheckWaits := fun hc => (h.check hc).1

/-- Outside WAIT_TOKEN no join check is pending. -/
theorem State.CheckWaits.none {s : State} (h : s.CheckWaits) (hs : s.conn.state ≠ .waitToken) : s.conn.check = .none :=
  by_contra fun hc => hs (h hc)

theorem State.SignalsCurrent.of_read {s t : State} (h : s.SignalsCurrent) (hr : t.signalsRead = s.signalsRead) :
    t.SignalsCurrent := by
  simp only [signalsRead, Prod.mk.injEq] at hr
  obtain ⟨htoken, hslot, hcheck⟩ := hr
  have hheld : t.claims.tokenHeld = s.claims.tokenHeld := congrArg (·.2.2.1) htoken
  have hstate : t.conn.state = s.conn.state := congrArg Prod.fst hcheck
  refine signalsCurrent_of (TokenCurrent.of_read h.token htoken) (SlotCurrent.of_read h.slot hslot) ?_ fun hc => ?_
  · rw [hstate, hheld]
    exact fun hs => h.joining (worksUnderToken_iff.mp hs)
  · rw [hstate, hheld]
    exact h.check fun hs => hc (checkNone_of_read hcheck hs)

/-! ### Both invariants, operation by operation -/

/-- The parts of the two invariants, which the operations of every block keep: lists and table, zone key check, signals. -/
structure State.KeepsClaims (s t : State) : Prop where
  records : s.RecordsProper → t.RecordsProper
  key : s.ZoneKeyCurrent → t.ZoneKeyCurrent
  signals : s.SignalsCurrent → t.SignalsCurrent

namespace State.KeepsClaims

theorem refl (s : State) : s.KeepsClaims s := ⟨id, id, id⟩

theorem trans {s t u : State} (h : s.KeepsClaims t) (k : t.KeepsClaims u) : s.KeepsClaims u :=
  ⟨k.records ∘ h.records, k.key ∘ h.key, k.signals ∘ h.signals⟩

theorem ite {s t u : State} {P : Prop} [Decidable P] (h : s.KeepsClaims t) (k : s.KeepsClaims u) :
    s.KeepsClaims (if P then t else u) := by
  split
  · exact h
  · exact k

/-- An operation that leaves the lists, the table and the zone key check. -/
theorem of_records {s t : State} (hr : t.recordsRead = s.recordsRead) (signals : s.SignalsCurrent → t.SignalsCurrent) :
    s.KeepsClaims t where
  records := fun h => h.of_read hr
  key := fun h => h.of_read (congrArg Prod.snd hr)
  signals := signals

/-- An operation that leaves all that the two invariants read. -/
theorem of_read {s t : State} (h : (t.recordsRead, t.signalsRead) = (s.recordsRead, s.signalsRead)) : s.KeepsClaims t :=
  of_records (Prod.mk.inj h).1 fun hs => hs.of_read (Prod.mk.inj h).2

/-- An operation behind a change of what the invariants do not read. -/
theorem after {s t u : State} (k : t.KeepsClaims u) (h : (t.recordsRead, t.signalsRead) = (s.recordsRead, s.signalsRead)) :
    s.KeepsClaims u := (of_read h).trans k

theorem lists {s t : State} (h : s.KeepsClaims t) (hs : s.ListsProper) : t.ListsProper := by
  obtain ⟨hrecords, hkey⟩ := listsProper_iff.mp hs
  exact listsProper_iff.mpr ⟨h.records hrecords, h.key hkey⟩

end State.KeepsClaims

/-! ### The queue, the restart, the balance set -/

/-- A lost frame takes no LISTED claim back, and makes none (R73). -/
theorem ClaimList.lost_flag (l : ClaimList) : l.lost.own.flag = l.own.flag := by
  unfold ClaimList.lost
  split <;> simp_all [OwnClaim.flag]

/-- The loss of a JOINED call leaves the join check pending (R132), and that of a claim frame its claim. -/
theorem reportLoss_signalsRead (s : State) (e : Entry) : (s.reportLoss e).signalsRead = s.signalsRead := by
  have due : s.dueRestart.signalsRead = s.signalsRead := by
    unfold State.dueRestart
    split <;> rfl
  unfold State.reportLoss
  split
  · split
    · simp only [State.signalsRead, State.tokenRead, ClaimList.lost_entries, ClaimList.lost_flag]
      rfl
    · simp only [State.signalsRead, State.slotRead, ClaimList.lost_entries, ClaimList.lost_flag]
      rfl
  · split
    case h_2 =>
      split
      · next requeue h => simp only [State.signalsRead, State.checkRead, h]; rfl
      · rfl
    all_goals rfl
  · split
    case h_1 => exact due
    all_goals rfl
  all_goals rfl

theorem enqueue_signalsRead (s : State) (e : Entry) : (s.enqueue e).signalsRead = s.signalsRead := by
  unfold State.enqueue
  split
  · rfl
  · split
    · exact reportLoss_signalsRead s.congest e
    · split <;> exact reportLoss_signalsRead _ _

theorem State.enqueue_claimsKept (s : State) (e : Entry) : s.KeepsClaims (s.enqueue e) :=
  .of_records (recordsRead_of_kept (s.enqueue_safe e).toKeepsProtection (s.enqueue_lists e))
    fun h => h.of_read (enqueue_signalsRead s e)

theorem State.reportLoss_claimsKept (s : State) (e : Entry) : s.KeepsClaims (s.reportLoss e) := by
  have h := s.reportLoss_keeps e
  obtain ⟨x, y, hsvc⟩ := h.svc
  exact .of_records (recordsRead_of_parts h.joinEntries h.heatEntries h.peers (by rw [hsvc]))
    fun hs => hs.of_read (reportLoss_signalsRead s e)

theorem State.reply_claimsKept (s : State) (kind : Byte) (result : ReplyResult) (data : List Byte) :
    s.KeepsClaims (s.reply kind result data) := s.enqueue_claimsKept _

theorem State.enqueueAnnounce_claimsKept (s : State) : s.KeepsClaims s.enqueueAnnounce :=
  .ite (.of_read rfl) (s.enqueue_claimsKept _)

theorem State.cancelRestart_claimsKept (s : State) : s.KeepsClaims s.cancelRestart := .ite (.of_read rfl) (.refl s)

theorem State.setFire_claimsKept (s : State) (st : FireState) : s.KeepsClaims (s.setFire st) :=
  .after (State.cancelRestart_claimsKept _) rfl

theorem State.setMembers_claimsKept (s : State) (m : List (Nat × Nat)) : s.KeepsClaims (s.setMembers m) :=
  .ite (.refl s) (.of_read rfl)

theorem State.emptyBalance_claimsKept (s : State) : s.KeepsClaims s.emptyBalance := s.setMembers_claimsKept []

end Sys2Proof.Machine

namespace Sys2Proof.Machine

open Sys2Proof

/-! ### The sequencer beside the claim unit (R127 to R143) -/

/-- The sequencer's own work: it touches neither the claim unit nor the peer view, and begins no join check. -/
structure State.Sequences (s t : State) : Prop where
  claims : t.claims = s.claims
  peers : t.peers = s.peers
  straps : t.svc.straps = s.svc.straps
  check : s.conn.check = .none → t.conn.check = .none

namespace State.Sequences

theorem refl (s : State) : s.Sequences s := ⟨rfl, rfl, rfl, id⟩

theorem trans {s t u : State} (h : s.Sequences t) (k : t.Sequences u) : s.Sequences u :=
  ⟨k.claims.trans h.claims, k.peers.trans h.peers, k.straps.trans h.straps, k.check ∘ h.check⟩

theorem ite {s t u : State} {P : Prop} [Decidable P] (h : s.Sequences t) (k : s.Sequences u) :
    s.Sequences (if P then t else u) := by
  split
  · exact h
  · exact k

/-- A change of the sequencer that leaves its join check, or ends it. -/
theorem update (s : State) (x : Connection) (h : s.conn.check = .none → x.check = .none := by exact id) :
    s.Sequences { s with conn := x } := ⟨rfl, rfl, rfl, h⟩

theorem recordsRead {s t : State} (h : s.Sequences t) : t.recordsRead = s.recordsRead :=
  recordsRead_of_parts (by rw [h.claims]) (by rw [h.claims]) h.peers h.straps

theorem tokenRead {s t : State} (h : s.Sequences t) : t.tokenRead = s.tokenRead := by
  rw [State.tokenRead, h.claims, h.straps]
  rfl

theorem slotRead {s t : State} (h : s.Sequences t) : t.slotRead = s.slotRead := by
  rw [State.slotRead, h.claims, h.straps]
  rfl

end State.Sequences

theorem State.setConn_sequences (s : State) (st : ConnState) : s.Sequences (s.setConn st) := by
  unfold State.setConn State.cancelRestart
  split <;> exact ⟨rfl, rfl, rfl, id⟩

/-- A change of the sequencer with its state. -/
theorem State.Sequences.setConn (s : State) (x : Connection) (st : ConnState)
    (h : s.conn.check = .none → x.check = .none := by exact id) : s.Sequences (({ s with conn := x } : State).setConn st) :=
  (update s x h).trans (State.setConn_sequences _ st)

theorem State.enterWelded_sequences (s : State) : s.Sequences s.enterWelded := .setConn s _ _

theorem State.finishOpening_sequences (s : State) : s.Sequences s.finishOpening := .setConn s _ _

theorem State.enterOpening_sequences (s : State) (d : ConnState) : s.Sequences (s.enterOpening d) :=
  .ite ((State.Sequences.setConn s _ _).trans (State.finishOpening_sequences _)) (.setConn s _ _)

theorem State.leaveWaitToken_sequences (s : State) (st : ConnState) : s.Sequences (s.leaveWaitToken st) :=
  .trans (t := s.abandonCheck) ⟨rfl, rfl, rfl, fun _ => rfl⟩ (State.setConn_sequences _ st)

theorem State.finishLeave_sequences (s : State) : s.Sequences s.finishLeave := .setConn s _ _

theorem State.leaveStep3_sequences (s : State) : s.Sequences s.leaveStep3 :=
  .ite ((State.Sequences.update s _).trans (State.finishLeave_sequences _)) (.update s _)

theorem State.leaveStep2_sequences (s : State) : s.Sequences s.leaveStep2 :=
  .ite ((State.Sequences.update s _).trans (State.leaveStep3_sequences _)) (.update s _)

theorem State.enterLeaving_sequences (s : State) (c : ConfigSet) : s.Sequences (s.enterLeaving c) :=
  .ite ((State.Sequences.setConn s _ _).trans (State.leaveStep2_sequences _)) (.setConn s _ _)

/-- The join check is over once WAIT_TOKEN is left (R132). -/
theorem leaveWaitToken_check (s : State) (st : ConnState) : (s.leaveWaitToken st).conn.check = .none :=
  (State.setConn_sequences s.abandonCheck st).check rfl

/-! The states in which the sequencer's work ends. -/

theorem leaveStep3_state (s : State) : s.leaveStep3.conn.state = s.conn.state ∨ s.leaveStep3.conn.state = .outOfService := by
  unfold State.leaveStep3
  dsimp only
  split
  · exact .inr (State.setConn_state _ _)
  · exact .inl rfl

theorem leaveStep2_state (s : State) : s.leaveStep2.conn.state = s.conn.state ∨ s.leaveStep2.conn.state = .outOfService := by
  unfold State.leaveStep2
  dsimp only
  split
  · exact leaveStep3_state _
  · exact .inl rfl

theorem enterLeaving_state (s : State) (c : ConfigSet) :
    (s.enterLeaving c).conn.state = .leaving ∨ (s.enterLeaving c).conn.state = .outOfService := by
  unfold State.enterLeaving
  dsimp only
  split
  · exact (leaveStep2_state _).imp_left fun h => h.trans (State.setConn_state _ _)
  · exact .inl (State.setConn_state _ _)

/-- A destination that is no state of joining is reached, or OPENING is. -/
theorem enterOpening_free (s : State) {d : ConnState} (hd : worksUnderToken d = false) :
    worksUnderToken (s.enterOpening d).conn.state = false := by
  rcases enterOpening_state s d with h | h <;> rw [h]
  · rfl
  · exact hd

/-! ### The own join claim given up by the sequencer (R72, R77) -/

/-- A state of the sequencer to which the token means nothing. -/
structure State.Detached (s : State) : Prop where
  slot : s.SlotCurrent
  check : s.conn.check = .none
  free : worksUnderToken s.conn.state = false

/-- There the token alone is to be current. -/
theorem State.Detached.current {s : State} (h : s.Detached) (token : s.TokenCurrent) : s.SignalsCurrent :=
  signalsCurrent_of token h.slot (fun hs => absurd hs (by simp [h.free])) fun hc => absurd h.check hc

/-- The sequencer comes to such a state. -/
theorem State.Sequences.detached {s t : State} (h : s.Sequences t) (slot : s.SlotCurrent) (check : t.conn.check = .none)
    (free : worksUnderToken t.conn.state = false) : t.Detached := ⟨slot.of_read h.slotRead, check, free⟩

/-- A release request leaves the slot and the sequencer (R72). -/
theorem joinRelease_reads (s : State) (r : JoinResult) :
    (s.joinRelease r).slotRead = s.slotRead ∧ (s.joinRelease r).checkRead = s.checkRead := by
  unfold State.joinRelease
  split
  case h_3 =>
    have queued : (s.queueJoinDone r).signalsRead = _ := enqueue_signalsRead _ _
    exact ⟨(congrArg (·.2.1) queued :), (congrArg (·.2.2) queued :)⟩
  all_goals exact ⟨rfl, rfl⟩

theorem State.Detached.release {s : State} (h : s.Detached) (r : JoinResult) : (s.joinRelease r).Detached := by
  obtain ⟨hslot, hcheck⟩ := joinRelease_reads s r
  have hstate : (s.joinRelease r).conn.state = s.conn.state := congrArg Prod.fst hcheck
  exact ⟨h.slot.of_read hslot, checkNone_of_read hcheck h.check, hstate ▸ h.free⟩

/-- Brought up to date, the token is current (R77). -/
theorem syncToken_token (s : State) : s.syncToken.TokenCurrent := rfl

theorem State.Detached.seqRelease {s : State} (h : s.Detached) (r : JoinResult) : (s.seqRelease r).SignalsCurrent :=
  have released := h.release r
  State.Detached.current (s := (s.joinRelease r).syncToken) ⟨released.slot, released.check, released.free⟩ (syncToken_token _)

theorem seqRelease_recordsRead (s : State) (r : JoinResult) : (s.seqRelease r).recordsRead = s.recordsRead :=
  recordsRead_of_kept (s.seqRelease_connState r).toKeepsProtection (s.seqRelease_lists r)

namespace State.KeepsClaims

/-- The sequencer's work from a state without a join check to one without the token. -/
theorem of_unchecked {s t : State} (h : s.Sequences t) (hs : s.SignalsCurrent → s.conn.check = .none)
    (ht : worksUnderToken t.conn.state = false) : s.KeepsClaims t :=
  .of_records h.recordsRead fun hc =>
    (h.detached hc.slot (h.check (hs hc)) ht).current (TokenCurrent.of_read hc.token h.tokenRead)

/-- Outside WAIT_TOKEN there is none (R132). -/
theorem of_sequences {s t : State} (h : s.Sequences t) (hs : s.conn.state ≠ .waitToken)
    (ht : worksUnderToken t.conn.state = false) : s.KeepsClaims t := of_unchecked h (fun hc => hc.checkWaits.none hs) ht

/-- The same, with the own claim given up behind it. -/
theorem released {s t : State} (h : s.Sequences t) (r : JoinResult)
    (hs : s.SignalsCurrent → t.conn.check = .none) (ht : worksUnderToken t.conn.state = false) :
    s.KeepsClaims (t.seqRelease r) :=
  .of_records ((seqRelease_recordsRead t r).trans h.recordsRead) fun hc => (h.detached hc.slot (hs hc) ht).seqRelease r

end State.KeepsClaims

theorem forcedLeave_signals {s : State} (slot : s.SlotCurrent) (check : s.CheckWaits)
    (taken : takesForcedLeave s.conn.state = true) : s.forcedLeave.SignalsCurrent := by
  have opened : ∀ d, s.conn.state ≠ .waitToken → worksUnderToken d = false →
      ((s.enterOpening d).seqRelease .failed).SignalsCurrent := fun d hs hd =>
    ((s.enterOpening_sequences d).detached slot ((s.enterOpening_sequences d).check (check.none hs))
      (enterOpening_free s hd)).seqRelease _
  have left : ((s.leaveWaitToken .openRack).seqRelease .failed).SignalsCurrent :=
    ((s.leaveWaitToken_sequences _).detached slot (leaveWaitToken_check s _)
      (by rw [State.leaveWaitToken, State.setConn_state]; rfl)).seqRelease _
  unfold State.forcedLeave
  split
  case h_1 hs | h_2 hs | h_3 hs | h_4 hs => exact opened _ (by simp [hs]) rfl
  case h_5 => exact left
  all_goals simp_all [takesForcedLeave]

theorem State.forcedLeave_claimsKept (s : State) : s.KeepsClaims s.forcedLeave := by
  refine .of_records (recordsRead_of_kept s.forcedLeave_safe.toKeepsProtection s.forcedLeave_lists) fun hc => ?_
  cases h : takesForcedLeave s.conn.state with
  | true => exact forcedLeave_signals hc.slot hc.checkWaits h
  | false => rwa [forcedLeave_of_not_taken h]

theorem State.reviewForced_claimsKept (s : State) : s.KeepsClaims s.reviewForced := .ite s.forcedLeave_claimsKept (.refl s)

/-- The destination of the opening that a precharge failure begins (R137). -/
theorem failureDest_free (n : Nat) : worksUnderToken (if n = 3 then .lockout else .openRack) = false := by
  split <;> rfl

theorem prechargeFailure_signals {s : State} (slot : s.SlotCurrent) (check : s.conn.check = .none) :
    s.prechargeFailure.SignalsCurrent := by
  have opened : ∀ (x : Connection) d, x.check = .none → worksUnderToken d = false →
      ((({ s with conn := x } : State).enterOpening d).seqRelease .failed).SignalsCurrent := fun x d hx hd =>
    have h := State.enterOpening_sequences { s with conn := x } d
    (h.detached slot (h.check hx) (enterOpening_free _ hd)).seqRelease _
  exact opened _ _ check (failureDest_free _)

theorem State.prechargeFailure_claimsKept {s : State} (h : s.conn.state ≠ .waitToken) : s.KeepsClaims s.prechargeFailure :=
  .of_records (recordsRead_of_kept s.prechargeFailure_blocks.toKeepsProtection s.prechargeFailure_lists) fun hc =>
    prechargeFailure_signals hc.slot (hc.checkWaits.none h)

/-! ### Joining (R134 to R136) -/

theorem State.enterJoined_claimsKept {s : State} (h : s.conn.state ≠ .waitToken) : s.KeepsClaims s.enterJoined :=
  have joined := State.Sequences.setConn s { s.conn with window := none, failCount := 0, prechFail := false } .joined
  .released joined .ok (fun hc => joined.check (hc.checkWaits.none h)) (by rw [State.setConn_state]; rfl)

/-- CLOSING is entered out of PRECHARGE, under the token (R135). -/
theorem State.enterClosing_claimsKept {s : State} (h : s.conn.state = .precharge) : s.KeepsClaims s.enterClosing := by
  have closing : ∀ x : Connection, (s.conn.check = .none → x.check = .none) →
      s.KeepsClaims (({ s with conn := x } : State).setConn .closing) := fun x hx => by
    have k := State.Sequences.setConn s x .closing hx
    refine .of_records k.recordsRead fun hc => ?_
    refine signalsCurrent_of (State.TokenCurrent.of_read hc.token k.tokenRead) (State.SlotCurrent.of_read hc.slot k.slotRead)
      (fun _ => ?_) fun hcheck => absurd (k.check (hc.checkWaits.none (by simp [h]))) hcheck
    rw [k.claims]
    exact hc.joining (.inl h)
  have joined : ∀ x : Connection, State.KeepsClaims (({ s with conn := x } : State).setConn .closing)
      (({ s with conn := x } : State).setConn .closing).enterJoined := fun x =>
    State.enterJoined_claimsKept (by rw [State.setConn_state]; decide)
  refine .ite (.trans (closing _ ?_) (joined _)) (closing _ ?_) <;> exact id

/-- PRECHARGE is entered out of WAIT_TOKEN with a join check pending, under the token (R134). -/
theorem State.enterPrecharge_claimsKept {s : State} (h : s.conn.check ≠ .none) : s.KeepsClaims s.enterPrecharge := by
  have entered : ∀ x : Connection, x.check = .none → s.KeepsClaims (({ s with conn := x } : State).setConn .precharge) :=
      fun x hx => by
    have k := State.Sequences.setConn s x .precharge fun _ => hx
    refine .of_records k.recordsRead fun hc => ?_
    refine signalsCurrent_of (State.TokenCurrent.of_read hc.token k.tokenRead) (State.SlotCurrent.of_read hc.slot k.slotRead)
      (fun _ => ?_) fun hcheck => absurd ((State.setConn_sequences { s with conn := x } _).check hx) hcheck
    rw [k.claims]
    exact (hc.check h).2
  exact .ite ((entered _ rfl).trans (.of_read rfl)) (entered _ rfl)

theorem State.abandonJoin_claimsKept (s : State) : s.KeepsClaims s.abandonJoin :=
  .released (s.leaveWaitToken_sequences _) .failed (fun _ => leaveWaitToken_check s _)
    (by rw [State.leaveWaitToken, State.setConn_state]; rfl)

/-! ### The windows (R127) -/

theorem enterJoined_recordsRead (s : State) : s.enterJoined.recordsRead = s.recordsRead :=
  (seqRelease_recordsRead _ _).trans (State.Sequences.setConn s _ _).recordsRead

theorem prechargeFailure_recordsRead (s : State) : s.prechargeFailure.recordsRead = s.recordsRead :=
  recordsRead_of_kept s.prechargeFailure_blocks.toKeepsProtection s.prechargeFailure_lists

/-- No window's end touches the lists or the table. -/
theorem windowSuccess_recordsRead (s : State) (w : WindowUse) : (s.windowSuccess w).recordsRead = s.recordsRead := by
  cases w with
  | proving => rfl
  | negClose => rfl
  | posClose => exact enterJoined_recordsRead s
  | opening => exact s.finishOpening_sequences.recordsRead
  | leavePos => exact s.leaveStep3_sequences.recordsRead
  | leaveNeg => exact s.finishLeave_sequences.recordsRead

theorem windowFailure_recordsRead (s : State) (w : WindowUse) : (s.windowFailure w).recordsRead = s.recordsRead := by
  cases w with
  | proving => exact (State.enterWelded_sequences _).recordsRead
  | negClose => exact prechargeFailure_recordsRead s
  | posClose => exact prechargeFailure_recordsRead s
  | opening => exact (State.enterWelded_sequences _).recordsRead
  | leavePos => exact s.enterWelded_sequences.recordsRead
  | leaveNeg => exact s.enterWelded_sequences.recordsRead

/-- What the drives' invariant says of an open window: it is no window of WAIT_TOKEN, an opening does not end in a state of joining,
and the window of step 2 of a leave belongs to LEAVING (R127, R138, R143). -/
structure State.WindowFits (s : State) (w : WindowUse) : Prop where
  idle : s.conn.state ≠ .waitToken
  dest : worksUnderToken (s.conn.dest.getD .openRack) = false
  leavePos : w = .leavePos → s.conn.state = .leaving

theorem windowFits_of_drivesFollow {s : State} {w : WindowUse} (h : s.DrivesFollow) (hw : s.conn.window = some w) :
    s.WindowFits w where
  idle := fun hs => by
    cases w with
    | proving => exact absurd (h.provingWindow hw) (by simp [hs])
    | negClose => exact absurd (h.negWindow hw) (by simp [hs])
    | posClose => exact absurd (h.posWindow.mp hw) (by simp [hs])
    | opening => exact absurd (h.openWindow.mp hw) (by simp [hs])
    | leavePos => exact absurd (h.leavePos hw).1 (by simp [hs])
    | leaveNeg => exact absurd (h.leaveNeg hw).1 (by simp [hs])
  dest := by
    cases hd : s.conn.dest with
    | none => rfl
    | some d => rcases h.destination d hd with rfl | rfl | rfl <;> rfl
  leavePos := fun hp => (h.leavePos (hp ▸ hw)).1

theorem State.windowSuccess_claimsKept {s : State} {w : WindowUse} (h : s.WindowFits w) : s.KeepsClaims (s.windowSuccess w) := by
  cases w with
  | proving => exact .of_read rfl
  | negClose => exact .of_read rfl
  | posClose => exact State.enterJoined_claimsKept h.idle
  | opening => exact .of_sequences s.finishOpening_sequences h.idle (by rw [windowSuccess, finishOpening, setConn_state]; exact h.dest)
  | leavePos =>
    refine .of_sequences s.leaveStep3_sequences h.idle ?_
    rcases leaveStep3_state s with hs | hs <;> rw [windowSuccess, hs]
    · rw [h.leavePos rfl]
      rfl
    · rfl
  | leaveNeg => exact .of_sequences s.finishLeave_sequences h.idle (by rw [windowSuccess, finishLeave, setConn_state]; rfl)

theorem State.windowFailure_claimsKept {s : State} {w : WindowUse} (h : s.WindowFits w) : s.KeepsClaims (s.windowFailure w) := by
  have welded : ∀ x : Connection, (s.conn.check = .none → x.check = .none) →
      s.KeepsClaims ({ s with conn := x } : State).enterWelded := fun x hx =>
    .of_sequences ((State.Sequences.update s x hx).trans (State.enterWelded_sequences _)) h.idle
      (by rw [State.enterWelded, State.setConn_state]; rfl)
  cases w with
  | proving => exact welded _ id
  | negClose => exact State.prechargeFailure_claimsKept h.idle
  | posClose => exact State.prechargeFailure_claimsKept h.idle
  | opening => exact welded _ id
  | leavePos => exact welded s.conn id
  | leaveNeg => exact welded s.conn id

theorem testWindow_recordsRead (s : State) : s.testWindow.recordsRead = s.recordsRead := by
  unfold State.testWindow
  split
  · rfl
  · split
    · exact windowSuccess_recordsRead s _
    · rfl

theorem State.testWindow_claimsKept {s : State} (h : ∀ w, s.conn.window = some w → s.WindowFits w) : s.KeepsClaims s.testWindow := by
  unfold State.testWindow
  split
  · exact .refl s
  · next w hw => exact .ite (State.windowSuccess_claimsKept (h w hw)) (.refl s)

/-! ### The own join claim and the token (R71, R72, R77, R78) -/

theorem State.joinClaim_claimsKept (s : State) : s.KeepsClaims s.joinClaim := by
  refine .ite ?_ (.refl s)
  split
  · next h => exact .after (State.enqueue_claimsKept _ _) (by simp [recordsRead, signalsRead, tokenRead, slotRead, checkRead, h, OwnClaim.flag])
  · next h => exact .of_read (by simp [recordsRead, signalsRead, tokenRead, slotRead, checkRead, h, OwnClaim.flag])
  · exact .refl s
  · next h => exact .of_read (by simp [recordsRead, signalsRead, tokenRead, slotRead, checkRead, h, OwnClaim.flag])

theorem State.startCheck_signals {s : State} (h : s.SignalsCurrent) (hs : s.conn.state = .waitToken)
    (ht : s.claims.tokenHeld = true) : s.startCheck.SignalsCurrent := by
  have called : State.SignalsCurrent { s with conn := { s.conn with check := .callPending false } } :=
    signalsCurrent_of h.token h.slot (fun hw => h.joining (worksUnderToken_iff.mp hw)) fun _ => ⟨hs, ht⟩
  exact called.of_read (enqueue_signalsRead _ _)

theorem startCheck_recordsRead (s : State) : s.startCheck.recordsRead = s.recordsRead :=
  recordsRead_of_kept s.startCheck_safe.toKeepsProtection s.startCheck_lists

/-- A JOINED call is queued again for a join check that is pending (R132). -/
theorem State.startCheck_claimsKept {s : State} (h : s.conn.check ≠ .none) : s.KeepsClaims s.startCheck :=
  .of_records (startCheck_recordsRead s) fun hc => State.startCheck_signals hc (hc.check h).1 (hc.check h).2

/-- The loss of the token: whatever it leads to, the signals stand (R132, R135, R136). -/
theorem tokenLost_signals {s : State} (slot : s.SlotCurrent) (check : s.CheckWaits) (g : Bool) :
    (s.tokenLost g).SignalsCurrent := by
  unfold State.tokenLost
  dsimp only
  split
  · next h =>
    have idle : s.syncToken.conn.state ≠ .waitToken := by rcases h with h | h <;> rw [h] <;> nofun
    split
    · exact prechargeFailure_signals (s := s.syncToken) slot (check.none idle)
    · refine forcedLeave_signals (s := s.syncToken) slot check ?_
      rcases h with h | h <;> rw [h] <;> rfl
  · next hw =>
    have free : worksUnderToken s.syncToken.conn.state = false :=
      Bool.eq_false_iff.mpr fun h => hw (worksUnderToken_iff.mp h)
    split
    · exact State.Detached.current (s := s.syncToken.abandonCheck) ⟨slot, rfl, free⟩ (syncToken_token s)
    · next hs => exact State.Detached.current (s := s.syncToken) ⟨slot, check.none hs, free⟩ (syncToken_token s)

/-- The signals but for a token that has moved on since it was signalled (R77). -/
structure State.BeforeToken (s : State) : Prop where
  slot : s.SlotCurrent
  joining : worksUnderToken s.conn.state = true → s.claims.tokenHeld = true
  check : s.conn.check ≠ .none → s.conn.state = .waitToken ∧ s.claims.tokenHeld = true

theorem State.SignalsCurrent.beforeToken {s : State} (h : s.SignalsCurrent) : s.BeforeToken :=
  ⟨h.slot, fun hw => h.joining (worksUnderToken_iff.mp hw), h.check⟩

/-- The signal makes the token current, and WAIT_TOKEN, PRECHARGE and CLOSING follow it (R77, R132, R135, R136). -/
theorem signalToken_signals {s : State} (h : s.BeforeToken) : s.signalToken.SignalsCurrent := by
  unfold State.signalToken
  split
  · next hn => exact signalsCurrent_of hn.symm h.slot h.joining h.check
  · split
    · next hn =>
      have held : s.syncToken.SignalsCurrent :=
        signalsCurrent_of (syncToken_token s) h.slot (fun _ => hn) fun hc => ⟨(h.check hc).1, hn⟩
      split
      · next hs => exact State.startCheck_signals held hs hn
      · exact held
    · exact tokenLost_signals h.slot (fun hc => (h.check hc).1) false

theorem signalToken_recordsRead (s : State) : s.signalToken.recordsRead = s.recordsRead :=
  recordsRead_of_kept s.signalToken_safe.toKeepsProtection s.signalToken_lists

/-- A change of the join list's entries, of whatever number is given (R68, R77). -/
theorem State.setJoinEntries_beforeToken {s : State} (h : s.SignalsCurrent) (l : List Nat) :
    (s.setJoinEntries l).BeforeToken := ⟨h.slot, h.beforeToken.joining, h.check⟩

theorem State.changeJoin_claimsKept {s : State} {f : List Nat → List Nat} (hf : ∀ l, ProperList l → ProperList (f l)) :
    s.KeepsClaims (s.changeJoin f) where
  records := fun h => by
    have changed : (s.setJoinEntries (f s.claims.join.entries)).RecordsProper := ⟨hf _ h.join, h.heat, h.table.of_straps rfl⟩
    exact changed.of_read (signalToken_recordsRead _)
  key := fun h => State.ZoneKeyCurrent.of_read (s := s.setJoinEntries (f s.claims.join.entries)) h
    (congrArg Prod.snd (signalToken_recordsRead _))
  signals := fun h => signalToken_signals (State.setJoinEntries_beforeToken h _)

/-- A claim that is given up holds no token, and one that held none before holds none (R72, R77). -/
theorem joinRelease_tokenNow (s : State) (r : JoinResult) : (s.joinRelease r).tokenNow = false := by
  have unlisted := OwnClaim.ne_listed_of_released (joinRelease_settled s r)
  rw [State.tokenNow, beq_eq_false_iff_ne.mpr unlisted, Bool.and_false]

theorem State.joinReleaseByOther_claimsKept (s : State) (g : Bool) : s.KeepsClaims (s.joinReleaseByOther g) := by
  refine .of_records (recordsRead_of_kept (joinReleaseByOther_blocks s g).toKeepsProtection (s.joinReleaseByOther_lists g))
    fun h => ?_
  obtain ⟨hslot, hcheck⟩ := joinRelease_reads s .failed
  have slot : (s.joinRelease .failed).SlotCurrent := State.SlotCurrent.of_read h.slot hslot
  have state : (s.joinRelease .failed).conn.state = s.conn.state := congrArg Prod.fst hcheck
  have waits : (s.joinRelease .failed).CheckWaits := fun hc => state.trans
    (h.checkWaits fun hs => hc (checkNone_of_read hcheck hs))
  have held : (s.joinRelease .failed).claims.tokenHeld = s.claims.tokenHeld := by
    unfold State.joinRelease
    split
    case h_3 => exact (State.enqueue_keeps _ _).tokenHeld
    all_goals rfl
  have lost := joinRelease_tokenNow s .failed
  unfold State.joinReleaseByOther
  dsimp only
  split
  · rw [joinRelease_waits, if_neg Bool.false_ne_true]
    have left := (s.joinRelease .failed).leaveWaitToken_sequences .openRack
    exact State.Detached.current (s := ((s.joinRelease .failed).leaveWaitToken .openRack).syncToken)
      ⟨slot.of_read left.slotRead, leaveWaitToken_check _ _, by
        change worksUnderToken ((s.joinRelease .failed).leaveWaitToken .openRack).conn.state = false
        rw [State.leaveWaitToken, State.setConn_state]
        rfl⟩ (syncToken_token _)
  · next hs =>
    split
    · exact tokenLost_signals slot waits g
    · next hn =>
      have free : (s.joinRelease .failed).claims.tokenHeld = false := Bool.eq_false_iff.mpr fun ht => hn ⟨ht, lost⟩
      refine signalsCurrent_of (free.trans lost.symm) slot (fun hw => ?_) fun hc => absurd (waits hc) hs
      rw [state] at hw
      rw [held]
      exact h.joining (worksUnderToken_iff.mp hw)

end Sys2Proof.Machine

namespace Sys2Proof.Machine

open Sys2Proof

/-! ### The slot and the own heater claim (R71, R72, R81, R82) -/

/-- The signal makes the slot current (R81). -/
theorem slotSignal_slot (s : State) : s.slotSignal.SlotCurrent := by
  obtain ⟨-, -, hclaims⟩ := slotSignal_rest s
  have straps := s.slotSignal_readings.straps
  rw [State.SlotCurrent, State.slotNow, State.ownNumber, hclaims, straps]
  rfl

/-- The evaluation leaves the token and the sequencer, -/
theorem evalSlot_reads (s : State) : s.evalSlot.tokenRead = s.tokenRead ∧ s.evalSlot.checkRead = s.checkRead := by
  have signalled : ∀ t : State, t.slotSignal.tokenRead = t.tokenRead ∧ t.slotSignal.checkRead = t.checkRead := fun t => by
    obtain ⟨-, hconn, hclaims⟩ := slotSignal_rest t
    constructor
    · rw [State.tokenRead, hclaims, t.slotSignal_readings.straps]
      rfl
    · rw [State.checkRead, hconn]
      rfl
  have rotated : ∀ t : State, t.rotate.tokenRead = t.tokenRead ∧ t.rotate.checkRead = t.checkRead := fun t => by
    have queued : t.rotate.signalsRead = _ := enqueue_signalsRead _ _
    exact ⟨(congrArg (·.1) queued :), (congrArg (·.2.2) queued :)⟩
  unfold State.evalSlot
  split
  · exact ⟨(signalled _).1.trans ((rotated _).1.trans (signalled s).1), (signalled _).2.trans ((rotated _).2.trans (signalled s).2)⟩
  · exact signalled s

/-- and the slot current, whatever of the heater list has changed ahead of it. -/
theorem evalSlot_slot (s : State) : s.evalSlot.SlotCurrent := by
  unfold State.evalSlot
  split <;> exact slotSignal_slot _

theorem evalSlot_signals {s t : State} (h : s.SignalsCurrent) (htoken : t.tokenRead = s.tokenRead)
    (hcheck : t.checkRead = s.checkRead) : t.evalSlot.SignalsCurrent := by
  obtain ⟨htoken', hcheck'⟩ := evalSlot_reads t
  have token := htoken'.trans htoken
  have check := hcheck'.trans hcheck
  have held : t.evalSlot.claims.tokenHeld = s.claims.tokenHeld := congrArg (·.2.2.1) token
  have state : t.evalSlot.conn.state = s.conn.state := congrArg Prod.fst check
  refine signalsCurrent_of (State.TokenCurrent.of_read h.token token) (evalSlot_slot t) (fun hw => ?_) fun hc => ?_
  · rw [held]
    exact h.joining (worksUnderToken_iff.mp (state ▸ hw))
  · rw [held, state]
    exact h.check fun hs => hc (checkNone_of_read check hs)

theorem evalSlot_recordsRead (s : State) : s.evalSlot.recordsRead = s.recordsRead :=
  recordsRead_of_kept s.evalSlot_safe.toKeepsProtection s.evalSlot_lists

/-- An evaluation of the slots behind a change of the slot's own business. -/
theorem State.KeepsClaims.evaluated {s t : State} (hr : t.recordsRead = s.recordsRead) (htoken : t.tokenRead = s.tokenRead)
    (hcheck : t.checkRead = s.checkRead) : s.KeepsClaims t.evalSlot :=
  .of_records ((evalSlot_recordsRead t).trans hr) fun h => evalSlot_signals h htoken hcheck

theorem State.setLimit_claimsKept (s : State) (l : Nat) : s.KeepsClaims (s.setLimit l) := .evaluated rfl rfl rfl

theorem State.changeHeat_claimsKept {s : State} {f : List Nat → List Nat} (hf : ∀ l, ProperList l → ProperList (f l)) :
    s.KeepsClaims (s.changeHeat f) where
  records := fun h => by
    have changed : (s.setHeatEntries (f s.claims.heat.entries)).RecordsProper := ⟨h.join, hf _ h.heat, h.table.of_straps rfl⟩
    exact changed.of_read (evalSlot_recordsRead _)
  key := fun h => State.ZoneKeyCurrent.of_read (s := s.setHeatEntries (f s.claims.heat.entries)) h
    (congrArg Prod.snd (evalSlot_recordsRead _))
  signals := fun h => evalSlot_signals h rfl rfl

/-- A claim that was not LISTED, in another state that is not. -/
theorem State.setHeatOwn_claimsKept {s : State} {o : OwnClaim} (h : o.flag = s.claims.heat.own.flag) :
    s.KeepsClaims (s.setHeatOwn o) :=
  .of_read (congrArg (fun x => (s.recordsRead, s.tokenRead, (s.claims.heat.entries, x, s.claims.limit, s.claims.slotHeld,
    s.svc.straps), s.checkRead)) h)

theorem State.heatClaim_claimsKept (s : State) : s.KeepsClaims s.heatClaim := by
  refine .ite ?_ (.refl s)
  split
  · next h => exact (State.setHeatOwn_claimsKept (by rw [h]; rfl)).trans (State.enqueue_claimsKept _ _)
  · next h => exact State.setHeatOwn_claimsKept (by rw [h]; rfl)
  · exact .refl s
  · next h => exact State.setHeatOwn_claimsKept (by rw [h]; rfl)

/-- A frame handed over behind a change of the claim unit, and the slots evaluated. -/
theorem State.KeepsClaims.queuedEvaluated {s : State} (c : ClaimUnit) (e : Entry)
    (hj : c.join.entries = s.claims.join.entries := by rfl) (hh : c.heat.entries = s.claims.heat.entries := by rfl)
    (ho : c.join.own = s.claims.join.own := by rfl) (ht : c.tokenHeld = s.claims.tokenHeld := by rfl) :
    s.KeepsClaims (({ s with claims := c } : State).enqueue e).evalSlot := by
  have queued := enqueue_signalsRead { s with claims := c } e
  have records := recordsRead_of_kept (State.enqueue_safe { s with claims := c } e).toKeepsProtection
    (State.enqueue_lists { s with claims := c } e)
  refine .evaluated (records.trans (recordsRead_of_parts hj hh rfl rfl)) ((congrArg (·.1) queued).trans ?_)
    (congrArg (·.2.2) queued)
  change (c.join.entries.head?, c.join.own.flag, c.tokenHeld, s.svc.straps) = _
  rw [hj, ho, ht]
  rfl

theorem State.heatRelease_claimsKept (s : State) : s.KeepsClaims s.heatRelease := by
  unfold State.heatRelease
  split
  · exact .refl s
  · next h => exact State.setHeatOwn_claimsKept (by rw [h]; rfl)
  · exact .queuedEvaluated _ _
  · next h => exact State.setHeatOwn_claimsKept (by rw [h]; rfl)

/-! ### The thermal controller -/

theorem State.judgeSoak_claimsKept (s : State) : s.KeepsClaims s.judgeSoak := by
  unfold State.judgeSoak
  split <;> exact .of_read rfl

theorem State.judgeRecovery_claimsKept (s : State) : s.KeepsClaims s.judgeRecovery := by
  unfold State.judgeRecovery
  split <;> exact .of_read rfl

theorem State.setThermal_claimsKept (s : State) (st : ThermalState) : s.KeepsClaims (s.setThermal st) := .of_read rfl

theorem State.setLevel_claimsKept (s : State) (k : Nat) : s.KeepsClaims (s.setLevel k) :=
  have levelled : s.KeepsClaims { s with thermal := { s.thermal with level := k } } := .of_read rfl
  .ite (.refl s) ((levelled.trans (.ite (State.emptyBalance_claimsKept _) (.refl _))).trans (State.judgeSoak_claimsKept _))

theorem State.beginDemand_claimsKept (s : State) : s.KeepsClaims s.beginDemand := .after (State.heatClaim_claimsKept _) rfl

theorem State.endDemand_claimsKept (s : State) : s.KeepsClaims s.endDemand :=
  .ite (.after (State.heatRelease_claimsKept _) rfl) (.refl s)

theorem State.enterInhibited_claimsKept (s : State) : s.KeepsClaims s.enterInhibited :=
  (s.endDemand_claimsKept.trans (State.setThermal_claimsKept _ _)).trans (State.setLevel_claimsKept _ _)

theorem State.leaveInhibited_claimsKept (s : State) : s.KeepsClaims s.leaveInhibited := by
  unfold State.leaveInhibited
  split
  · exact .refl s
  · exact ((s.setLevel_claimsKept _).trans (State.setThermal_claimsKept _ _)).trans (.ite (State.beginDemand_claimsKept _) (.refl _))

theorem State.thermalReview_claimsKept (s : State) : s.KeepsClaims s.thermalReview :=
  .ite (.refl s) (.ite (.ite (s.setLevel_claimsKept _) s.enterInhibited_claimsKept) (.ite s.leaveInhibited_claimsKept (.refl s)))

/-- A completion of the thermal controller (R91 to R94). -/
theorem State.thermalCompletion_claimsKept (s : State) (c : ConfigSet) : s.KeepsClaims (s.thermalCompletion c) := by
  have heating : ∀ t : State, t.KeepsClaims (t.completionHeating c) := fun t => (t.setLevel_claimsKept 0).trans (.ite
    (.ite ((State.endDemand_claimsKept _).trans (State.setThermal_claimsKept _ _)) (State.heatClaim_claimsKept _))
    (.ite (State.beginDemand_claimsKept _) (State.setThermal_claimsKept _ _)))
  have cooling : ∀ (t : State) k, t.KeepsClaims (t.completionCooling k) := fun t _ =>
    (t.endDemand_claimsKept.trans (State.setThermal_claimsKept _ _)).trans (State.setLevel_claimsKept _ _)
  have level : ∀ t : State, t.KeepsClaims (t.completionLevel c) := fun t => .ite (.refl t) (.ite (heating t) (cooling t _))
  exact .trans (.trans (.after (level s.takeInlet) rfl) (State.judgeSoak_claimsKept _)) (State.judgeRecovery_claimsKept _)

/-! ### The fire unit and the container fire flag -/

theorem State.enterReleased_claimsKept (s : State) : s.KeepsClaims s.enterReleased :=
  (s.setFire_claimsKept .released).trans (.after (State.enqueue_claimsKept _ _) rfl)

theorem State.enterReleaseDelay_claimsKept (s : State) : s.KeepsClaims s.enterReleaseDelay :=
  .ite ((s.setFire_claimsKept _).trans (.of_read rfl)) (.ite s.enterReleased_claimsKept ((s.setFire_claimsKept _).trans (.of_read rfl)))

theorem State.reviewInhibit_claimsKept (s : State) : s.KeepsClaims s.reviewInhibit := by
  have back : s.KeepsClaims (if s.inhibited then (s.setFire .alarm).setCountdown none else s) :=
    .ite ((s.setFire_claimsKept _).trans (.of_read rfl)) (.refl s)
  unfold State.reviewInhibit
  split
  · exact .ite (.refl s) s.enterReleaseDelay_claimsKept
  · exact back
  · exact back
  all_goals exact .refl s

/-- The drops under container fire and in SAFE (R46, R83, R84). -/
theorem State.released_claimsKept (s : State) :
    s.KeepsClaims ((s.emptyBalance.joinReleaseByOther false).heatRelease).thermalReview :=
  s.emptyBalance_claimsKept.trans
    (((State.joinReleaseByOther_claimsKept _ _).trans (State.heatRelease_claimsKept _)).trans (State.thermalReview_claimsKept _))

theorem State.setContainerFire_claimsKept (s : State) : s.KeepsClaims s.setContainerFire :=
  .ite (.refl s) (.after (State.released_claimsKept _) rfl)

theorem State.evaluateContainerFire_claimsKept (s : State) : s.KeepsClaims s.evaluateContainerFire :=
  .ite (.after (State.thermalReview_claimsKept _) rfl) (.refl s)

theorem State.queueCall_claimsKept (s : State) : s.KeepsClaims s.queueCall := by
  unfold State.queueCall
  split
  · exact .refl s
  · exact .after (State.enqueue_claimsKept _ _) rfl

theorem State.enterAlarm_claimsKept (s : State) : s.KeepsClaims s.enterAlarm := by
  have entered : s.KeepsClaims ((s.setRepeat none).setFire .alarm) := .after (State.setFire_claimsKept _ _) rfl
  have noticed : ∀ t : State, t.KeepsClaims ((t.enqueue t.fireNotice).setFireLines false true true).setContainerFire := fun t =>
    (t.enqueue_claimsKept _).trans (.after (State.setContainerFire_claimsKept _) rfl)
  have dropped : ∀ t : State, t.KeepsClaims (t.zeroPair.emptyBalance.thermalReview).reviewInhibit := fun t =>
    .after (t := t.zeroPair) (((State.emptyBalance_claimsKept _).trans (State.thermalReview_claimsKept _)).trans
      (State.reviewInhibit_claimsKept _)) rfl
  exact (entered.trans (noticed _)).trans (dropped _)

theorem State.enterPreAlarm_claimsKept (s : State) : s.KeepsClaims s.enterPreAlarm :=
  ((s.setFire_claimsKept .preAlarm).trans (State.emptyBalance_claimsKept _)).trans
    ((State.enqueue_claimsKept _ _).trans (.after (State.queueCall_claimsKept _) rfl))

theorem State.returnToNormal_claimsKept (s : State) : s.KeepsClaims s.returnToNormal :=
  .after (t := s.setRepeat none) ((State.setFire_claimsKept _ _).trans (State.enqueue_claimsKept _ _)) rfl

theorem State.judgeSources_claimsKept (s : State) (x : Sources) : s.KeepsClaims (s.judgeSources x) := by
  unfold State.judgeSources
  split
  · exact .ite (.ite s.enterAlarm_claimsKept s.enterPreAlarm_claimsKept) (.refl s)
  · exact .ite s.enterAlarm_claimsKept (.ite s.returnToNormal_claimsKept (.refl s))
  all_goals exact .refl s

/-- Behind any change of the table the zone key check is brought up to date (R65). -/
theorem State.KeepsClaims.reviewed {s t : State} (records : s.RecordsProper → t.RecordsProper)
    (signals : s.SignalsCurrent → t.SignalsCurrent) : s.KeepsClaims t.reviewZoneKey := by
  have rest : t.keyUpdated.KeepsClaims t.reviewZoneKey := by
    by_cases h : t.zoneKeyNow = t.peers.zoneKey
    · rw [reviewZoneKey_of_same h, keyUpdated_of_same h]
      exact .refl t
    · rw [reviewZoneKey_of_change h]
      exact State.reviewInhibit_claimsKept _
  exact ⟨fun h => rest.records ⟨(records h).join, (records h).heat, (records h).table.of_straps rfl⟩,
    fun _ => reviewZoneKey_current t, fun h => rest.signals ((signals h).of_read rfl)⟩

/-! ### SAFE and the end of a command -/

theorem State.setDuplicateId_claimsKept (s : State) : s.KeepsClaims s.setDuplicateId := by
  have safe : ∀ t : State, t.KeepsClaims t.enterSafe := fun t => .after (State.released_claimsKept _) rfl
  exact .after (t := { s with svc := { s.svc with duplicateId := true } }) (.ite (safe _) (.refl _)) rfl

theorem State.settle_claimsKept (s : State) : s.KeepsClaims s.settle := s.reviewForced_claimsKept.trans (.of_read rfl)

/-- What a command's end keeps: the judgements leave the two invariants, and a reset restores them (R86, R182). -/
theorem resetWith_listsProper (lines : Lines) (pending : List Instr) : (State.resetWith lines pending).ListsProper :=
  listsProper_iff.mpr ⟨⟨⟨.nil, nofun⟩, ⟨.nil, nofun⟩, ⟨.nil, nofun, nofun, nofun⟩⟩, ⟨nofun, fun ⟨_, hr, _⟩ => nomatch hr⟩⟩

theorem resetWith_signalsCurrent (lines : Lines) (pending : List Instr) : (State.resetWith lines pending).SignalsCurrent :=
  signalsCurrent_of rfl rfl nofun fun h => absurd rfl h

theorem finish_listsProper {s t : State} (hs : s.ListsProper) (ht : s.finish = .next t) : t.ListsProper := by
  obtain rfl := Host.Outcome.next.inj ht
  split
  · exact resetWith_listsProper _ _
  · exact s.settle_claimsKept.lists hs

theorem finish_signalsCurrent {s t : State} (hs : s.SignalsCurrent) (ht : s.finish = .next t) : t.SignalsCurrent := by
  obtain rfl := Host.Outcome.next.inj ht
  split
  · exact resetWith_signalsCurrent _ _
  · exact s.settle_claimsKept.signals hs

end Sys2Proof.Machine

namespace Sys2Proof.Machine

open Sys2Proof

/-! ### The claim lists and the signals at the receiver and the module chain -/

theorem State.receive_claimsKept {s : State} {act : State → State} (h : ∀ t, State.KeepsClaims t (act t)) :
    s.KeepsClaims (s.receive act) := .ite (.ite (.of_read rfl) (.after (h _) rfl)) (.refl s)

theorem State.receiveKind_claimsKept {s : State} {act : State → State} (payload : List Byte) (n : Nat)
    (h : ∀ t, State.KeepsClaims t (act t)) : s.KeepsClaims (s.receiveKind payload n act) :=
  State.receive_claimsKept fun t => .ite (h t) (.refl t)

theorem State.takeRequest_claimsKept {s : State} {act : List Byte → State → State} (sender : BitVec 5) (payload : List Byte)
    (h : ∀ args t, State.KeepsClaims t (act args t)) : s.KeepsClaims (s.takeRequest sender payload act) :=
  State.receive_claimsKept fun t => by
    split
    · exact .refl t
    · exact .ite (h _ t) (.refl t)

theorem State.judgeRequest_claimsKept {s : State} {act : State → State} (kind : Byte) (args : List Byte) (n : Nat)
    (modeOk : Mode → Bool) (h : s.KeepsClaims (act s)) : s.KeepsClaims (s.judgeRequest kind args n modeOk act) :=
  .ite (s.reply_claimsKept _ _ _) (.ite h (s.reply_claimsKept _ _ _))

/-- A claim out of OPEN, where no join check is pending (R129). -/
theorem State.judgeClaim_claimsKept {s : State} (c : ConfigSet) (h : s.conn.state = .openRack) : s.KeepsClaims (s.judgeClaim c) := by
  have waiting : s.KeepsClaims ((s.setMismatch false).setConn .waitToken) :=
    .of_sequences (.setConn s _ _) (by simp [h]) (by rw [State.setConn_state]; rfl)
  exact .ite (.ite (waiting.trans (State.joinClaim_claimsKept _)) (.of_read rfl)) (.refl s)

theorem State.leaveStep2_claimsKept {s : State} (h : s.conn.state = .leaving) : s.KeepsClaims s.leaveStep2 := by
  refine .of_sequences s.leaveStep2_sequences (by simp [h]) ?_
  rcases leaveStep2_state s with hs | hs <;> rw [hs]
  · rw [h]
    rfl
  · rfl

theorem State.sequencerCompletion_claimsKept (s : State) (c : ConfigSet) (good0 : Bool) :
    s.KeepsClaims (s.sequencerCompletion c good0) := by
  unfold State.sequencerCompletion
  split
  · next h => exact State.judgeClaim_claimsKept c h
  · next h => exact .ite (State.enterClosing_claimsKept h) (.refl s)
  · next h => exact .ite (State.leaveStep2_claimsKept h) (.refl s)
  all_goals exact .refl s

theorem State.completeScan_claimsKept (s : State) (c : ConfigSet) (stop : Option Nat) (goods bad : List Nat) :
    s.KeepsClaims (s.completeScan c stop goods bad) := by
  have rebuilt : s.KeepsClaims ((s.paired c stop goods bad).rebuildBalance c) :=
    .after (t := (s.paired c stop goods bad).taken) (rebuildBalance_eq _ c ▸ State.setMembers_claimsKept _ _) rfl
  have evaluated : s.KeepsClaims (s.evaluated c stop goods bad) := rebuilt.trans (State.thermalCompletion_claimsKept _ c)
  rw [completeScan_eq]
  exact (evaluated.trans ((State.reviewForced_claimsKept _).trans (State.sequencerCompletion_claimsKept _ c _))).trans
    (.ite (.of_read rfl) (.refl _))

theorem State.tryResult_claimsKept (s : State) (c : ConfigSet) (r : ScanRun) (body : ReplyBody) (x : TryResult) :
    s.KeepsClaims (s.tryResult c r body x) := by
  have continued : ∀ (t : State) p goods bad, t.KeepsClaims (t.continueScan c p goods bad) := fun t _ _ _ =>
    .ite (.of_read rfl) (t.completeScan_claimsKept c _ _ _)
  have stored : ∀ p, s.KeepsClaims (s.storeReply p body) := fun p => by cases body <;> exact .of_read rfl
  have ended : ∀ (b : ReplyBody) o, (o = .good → b = body) → s.KeepsClaims (s.endTransaction c r b o) := fun b o hb => by
    cases o with
    | good => exact hb rfl ▸ (stored _).trans (continued _ _ _ _)
    | checkFail => exact continued _ _ _ _
    | noReply => exact s.completeScan_claimsKept c _ _ _
    | wrongPosition => exact s.completeScan_claimsKept c _ _ _
  have retried : ∀ replied, s.KeepsClaims (s.endTry c r replied) := fun replied =>
    .ite (.of_read rfl) (ended _ _ (by cases replied <;> exact nofun))
  cases x with
  | good => exact ended body .good fun _ => rfl
  | wrongPosition => exact ended body .wrongPosition nofun
  | badCheck => exact retried _
  | noReply => exact retried _

theorem State.replyArrives_claimsKept (s : State) (reply : ChainReply) : s.KeepsClaims (s.replyArrives reply) := by
  unfold State.replyArrives
  split
  · exact s.tryResult_claimsKept _ _ _ _
  · exact .refl s

theorem State.replyWaitExpires_claimsKept (s : State) : s.KeepsClaims s.replyWaitExpires := by
  unfold State.replyWaitExpires
  split
  · exact s.tryResult_claimsKept _ _ _ _
  · exact .refl s

theorem State.scanInterval_claimsKept (s : State) : s.KeepsClaims s.scanInterval :=
  .ite (.ite (.of_read rfl) (.of_read rfl)) (.refl s)

/-! ### Start-up -/

theorem State.leaveLoading_claimsKept (s : State) (period : Nat) : s.KeepsClaims (s.leaveLoading period) :=
  .after ((State.thermalReview_claimsKept _).trans (State.enqueueAnnounce_claimsKept _)) rfl

theorem State.gridAsserted_claimsKept (s : State) (c : ConfigSet) : s.KeepsClaims (s.gridAsserted c) := by
  unfold State.gridAsserted
  split <;> exact .of_read rfl

theorem State.setDegraded_claimsKept (s : State) (b : Bool) : s.KeepsClaims (s.setDegraded b) := .of_read rfl

/-- The entry to LISTENING changes L, and the slots are evaluated on it (R80, R81, R175). -/
theorem State.enterListening_claimsKept (s : State) (c : ConfigSet) : s.KeepsClaims (s.enterListening c) := by
  have limited : s.KeepsClaims ({ s with
      svc := { s.svc with mode := .listening, config := some c, siteCap := c.irackMax, apCount := 0 }
      claims := { s.claims with limit := c.heatLimitIsland }
      chain := { s.chain with scanTimer := some 100 }
      env := { s.env with runawayTimer := some 1000 } } : State).evalSlot := .evaluated rfl rfl rfl
  have scanning : ∀ t : State, t.KeepsClaims t.startScan := fun _ => .of_read rfl
  have degraded : ∀ t : State, t.KeepsClaims (if t.lines.chillerFault then t.setDegraded true else t) := fun t =>
    .ite (t.setDegraded_claimsKept true) (.refl t)
  have healthy : ∀ t : State, t.KeepsClaims (if t.lines.gridHealthy then t.gridAsserted c else t) := fun t =>
    .ite (t.gridAsserted_claimsKept c) (.refl t)
  exact .trans (.trans (limited.trans ((State.leaveLoading_claimsKept _ _).trans (scanning _))) (degraded _)) (healthy _)

theorem State.loadConfig_claimsKept (s : State) (image : List Byte) : s.KeepsClaims (s.loadConfig image) := by
  refine .ite ?_ (.refl s)
  split
  · exact s.enterListening_claimsKept _
  · exact .after (State.leaveLoading_claimsKept _ _) rfl

/-! ### The fire unit, the heater and the grid -/

theorem State.sampleLoops_claimsKept (s : State) (a b : Nat) : s.KeepsClaims (s.sampleLoops a b) :=
  .ite (.after (State.judgeSources_claimsKept _ _) rfl) (.refl s)

theorem State.sampleRunaway_claimsKept (s : State) : s.KeepsClaims s.sampleRunaway := by
  unfold State.sampleRunaway
  split
  · exact .refl s
  · exact .ite (.after (State.judgeSources_claimsKept _ _) rfl) (.refl s)

theorem State.countdownExpires_claimsKept (s : State) : s.KeepsClaims s.countdownExpires :=
  .ite s.enterReleased_claimsKept (.refl s)

theorem State.repeatExpires_claimsKept (s : State) : s.KeepsClaims s.repeatExpires :=
  .ite (.after (State.queueCall_claimsKept _) rfl) (.refl s)

theorem State.abortChange_claimsKept (s : State) (b : Bool) : s.KeepsClaims (s.abortChange b) := by
  refine .trans (t := { s with lines := { s.lines with abort := b } }) (.of_read rfl) ?_
  unfold State.abortChange
  dsimp only
  split
  · exact .ite ((State.setFire_claimsKept _ _).trans (.of_read rfl)) (.refl _)
  · exact .ite (.refl _) (State.enterReleaseDelay_claimsKept _)
  all_goals exact .refl _

theorem State.keyChange_claimsKept (s : State) (b : Bool) : s.KeepsClaims (s.keyChange b) :=
  .after (t := { s with lines := { s.lines with key := b } })
    (.ite (.refl _) (.after (State.reviewInhibit_claimsKept _) rfl)) rfl

theorem State.chillerFaultChange_claimsKept (s : State) (b : Bool) : s.KeepsClaims (s.chillerFaultChange b) :=
  .after (t := { s with lines := { s.lines with chillerFault := b } })
    (.ite (.trans (.ite (State.setDegraded_claimsKept _ _) (.refl _)) (State.judgeRecovery_claimsKept _)) (.refl _)) rfl

theorem State.heatSoakExpire_claimsKept (s : State) : s.KeepsClaims s.heatSoakExpire :=
  .ite (s.setDegraded_claimsKept true) (.refl s)

theorem State.recoveryExpire_claimsKept (s : State) : s.KeepsClaims s.recoveryExpire :=
  .ite (s.setDegraded_claimsKept false) (.refl s)

theorem State.gridChange_claimsKept (s : State) (b : Bool) : s.KeepsClaims (s.gridChange b) := by
  have released : ∀ (t : State) (c : ConfigSet), t.KeepsClaims (t.gridReleased c) := fun t c => by
    unfold State.gridReleased
    split
    · exact .refl t
    · exact .of_read rfl
    · exact .after (State.setLimit_claimsKept _ _) rfl
  refine .trans (t := { s with lines := { s.lines with gridHealthy := b } }) (.of_read rfl) ?_
  unfold State.gridChange
  dsimp only
  split
  · exact .refl _
  · exact .ite (.ite (State.gridAsserted_claimsKept _ _) (released _ _)) (.refl _)

theorem State.reconnectExpires_claimsKept (s : State) : s.KeepsClaims s.reconnectExpires := by
  unfold State.reconnectExpires
  split
  · exact .refl s
  · exact .ite (.after (State.setLimit_claimsKept _ _) rfl) (.refl s)

/-! ### The peers' frames and the announcement period (R53 to R60, R69, R75, R76) -/

theorem State.fireReported_claimsKept (s : State) (f : FireState) : s.KeepsClaims (s.fireReported f) :=
  .ite s.setContainerFire_claimsKept (.refl s)

/-- The record and the repair of an ANNOUNCE, up to the zone key check. -/
theorem announced_claimsKept {s : State} {n : Nat} (hn : s.isPeer n = true) (p : List Byte) :
    s.KeepsClaims (s.announced n p).reviewZoneKey := by
  have repaired : (s.setTable (putRecord (announcedRecord n p) s.peers.table)).KeepsClaims (s.announced n p) :=
    (State.changeJoin_claimsKept fun _ hl => hl.repair _ (isStation_of_peer hn)).trans
      (State.changeHeat_claimsKept fun _ hl => hl.repair _ (isStation_of_peer hn))
  exact .reviewed (fun h => repaired.records ⟨h.join, h.heat, (h.table.announced hn p).of_straps rfl⟩)
    fun h => repaired.signals (h.of_read rfl)

theorem State.takeAnnounce_claimsKept (s : State) (n : Nat) (p : List Byte) : s.KeepsClaims (s.takeAnnounce n p) := by
  have confirmed : ∀ t : State, t.KeepsClaims t.confirmByPeer := fun t => .ite t.enterAlarm_claimsKept (.refl t)
  by_cases hn : s.isPeer n = true
  · rw [takeAnnounce_of_peer p hn]
    exact (announced_claimsKept hn p).trans ((State.fireReported_claimsKept _ _).trans (confirmed _))
  · rw [State.takeAnnounce, if_neg hn]
    exact .ite ((s.fireReported_claimsKept _).trans (State.setDuplicateId_claimsKept _)) (.refl s)

theorem State.noticeToFireUnit_claimsKept (s : State) (zone : Nat) (f : FireState) :
    s.KeepsClaims (s.noticeToFireUnit zone f) := by
  have followed : s.KeepsClaims
      (if f = .released ∧ zone = s.ownZone ∧ s.fire.serviceKey = false then s.enterReleased else s) :=
    .ite s.enterReleased_claimsKept (.refl s)
  unfold State.noticeToFireUnit
  split
  · exact .ite s.enterAlarm_claimsKept (.ite s.queueCall_claimsKept (.refl s))
  · exact followed
  · exact followed
  · exact followed
  all_goals exact .refl s

theorem State.takeFireNotice_claimsKept (s : State) (n : Nat) (p : List Byte) : s.KeepsClaims (s.takeFireNotice n p) := by
  have noticed : s.isPeer n = true →
      s.KeepsClaims (s.setTable (putRecord (noticedRecord (s.peers.record n) n p) s.peers.table)).reviewZoneKey := fun hn =>
    .reviewed (fun h => ⟨h.join, h.heat, (h.table.noticed hn p).of_straps rfl⟩) fun h => h.of_read rfl
  unfold State.takeFireNotice
  split
  · next hn => exact (noticed hn).trans ((State.fireReported_claimsKept _ _).trans (State.noticeToFireUnit_claimsKept _ _ _))
  · exact .ite (s.fireReported_claimsKept _) (.refl s)

theorem State.requeueJoin_claimsKept (s : State) : s.KeepsClaims s.requeueJoin := by
  refine .ite (.after (t := { s with claims := { s.claims with join := { s.claims.join with requeue := false } } })
    ?_ rfl) (.refl s)
  dsimp only
  split
  case h_1 | h_2 => exact State.enqueue_claimsKept _ _
  all_goals exact .refl _

theorem State.requeueHeat_claimsKept (s : State) : s.KeepsClaims s.requeueHeat := by
  refine .ite (.after (t := { s with claims := { s.claims with heat := { s.claims.heat with requeue := false } } })
    ?_ rfl) (.refl s)
  dsimp only
  split
  case h_1 | h_2 => exact State.enqueue_claimsKept _ _
  all_goals exact .refl _

/-- The aging and the sweep: the lists lose entries alone (R59, R76). -/
theorem State.ageAndSweep_claimsKept (s : State) : s.KeepsClaims s.ageAndSweep := by
  have aged : s.KeepsClaims s.aged :=
    .reviewed (fun h => ⟨h.join, h.heat, h.table.aged.of_straps rfl⟩) fun h => h.of_read rfl
  exact aged.trans ((State.changeJoin_claimsKept fun _ hl => hl.filter _).trans
    (State.changeHeat_claimsKept fun _ hl => hl.filter _))

/-- The proving of the contactors may succeed as its window opens (R127, R128). -/
theorem State.startProving_claimsKept (s : State) : s.KeepsClaims s.startProving :=
  .after (t := { s with conn := { s.conn with proving := .pending, window := some .proving } })
    (.ite (.of_read rfl) (.refl _)) rfl

theorem State.countAp_claimsKept (s : State) : s.KeepsClaims s.countAp :=
  .ite (.ite (.after (t := { s with svc := { s.svc with mode := .active, apCount := 0 } })
    ((State.startProving_claimsKept _).trans (State.thermalReview_claimsKept _)) rfl) (.of_read rfl)) (.refl s)

theorem State.requeueCheck_claimsKept (s : State) : s.KeepsClaims s.requeueCheck := by
  unfold State.requeueCheck
  split
  · next h => exact State.startCheck_claimsKept (by simp [h])
  · exact .refl s

theorem State.apExpires_claimsKept (s : State) : s.KeepsClaims s.apExpires := by
  have judged : ∀ t : State, t.KeepsClaims t.judgeCongestion := fun t => .ite (.of_read rfl) (.refl t)
  exact .ite ((s.ageAndSweep_claimsKept.trans ((State.requeueJoin_claimsKept _).trans ((State.requeueHeat_claimsKept _).trans
    (State.requeueCheck_claimsKept _)))).trans
    ((State.enqueueAnnounce_claimsKept _).trans ((judged _).trans (State.countAp_claimsKept _)))) (.refl s)

/-! ### Claim frames and timers (R69 to R72, R78, R82) -/

theorem State.takeJoinClaim_claimsKept (s : State) (n : Nat) : s.KeepsClaims (s.takeJoinClaim n) := by
  unfold State.takeJoinClaim
  split
  · next hn => exact State.changeJoin_claimsKept fun _ hl => hl.append (isStation_of_peer hn)
  · exact .refl s

theorem State.takeJoinDone_claimsKept (s : State) (n : Nat) : s.KeepsClaims (s.takeJoinDone n) :=
  .ite (State.changeJoin_claimsKept fun _ hl => hl.filter _) (.refl s)

theorem State.takeHeatClaim_claimsKept (s : State) (n : Nat) : s.KeepsClaims (s.takeHeatClaim n) := by
  unfold State.takeHeatClaim
  split
  · next hn => exact State.changeHeat_claimsKept fun _ hl => hl.append (isStation_of_peer hn)
  · exact .refl s

theorem State.takeHeatRelease_claimsKept (s : State) (n : Nat) : s.KeepsClaims (s.takeHeatRelease n) :=
  .ite (State.changeHeat_claimsKept fun _ hl => hl.filter _) (.refl s)

theorem State.headExpires_claimsKept (s : State) : s.KeepsClaims s.headExpires := by
  unfold State.headExpires
  split
  · exact .after (t := { s with claims := { s.claims with headTimer := none } })
      (.ite (.ite (State.joinReleaseByOther_claimsKept _ _) (.refl _))
        (State.changeJoin_claimsKept fun _ hl => hl.filter _)) rfl
  · exact .refl s

theorem State.holdExpires_claimsKept (s : State) : s.KeepsClaims s.holdExpires := by
  unfold State.holdExpires
  split
  · exact .evaluated rfl rfl rfl
  all_goals exact .refl s

/-- The own entry of the join list comes or goes, the own claim state with it, and the token is signalled (R70, R71, R77). -/
theorem State.KeepsClaims.ownJoin {s t : State} {l : List Nat} (hl : ProperList s.claims.join.entries → ProperList l)
    (records : t.recordsRead = (s.setJoinEntries l).recordsRead) (slot : t.slotRead = s.slotRead)
    (check : t.checkRead = s.checkRead) (held : t.claims.tokenHeld = s.claims.tokenHeld) : s.KeepsClaims t.signalToken where
  records := fun h => by
    have changed : (s.setJoinEntries l).RecordsProper := ⟨hl h.join, h.heat, h.table.of_straps rfl⟩
    exact changed.of_read ((signalToken_recordsRead t).trans records)
  key := fun h => State.ZoneKeyCurrent.of_read (s := s.setJoinEntries l) h
    (congrArg Prod.snd ((signalToken_recordsRead t).trans records))
  signals := fun h => by
    have state : t.conn.state = s.conn.state := congrArg Prod.fst check
    refine signalToken_signals ⟨State.SlotCurrent.of_read h.slot slot, fun hw => ?_, fun hc => ?_⟩
    · rw [held]
      exact h.joining (worksUnderToken_iff.mp (state ▸ hw))
    · rw [held, state]
      exact h.check fun hs => hc (checkNone_of_read check hs)

/-- The same of the heater list and its slots (R70, R71, R81). -/
theorem State.KeepsClaims.ownHeat {s t : State} {l : List Nat} (hl : ProperList s.claims.heat.entries → ProperList l)
    (records : t.recordsRead = (s.setHeatEntries l).recordsRead) (token : t.tokenRead = s.tokenRead)
    (check : t.checkRead = s.checkRead) : s.KeepsClaims t.evalSlot where
  records := fun h => by
    have changed : (s.setHeatEntries l).RecordsProper := ⟨h.join, hl h.heat, h.table.of_straps rfl⟩
    exact changed.of_read ((evalSlot_recordsRead t).trans records)
  key := fun h => State.ZoneKeyCurrent.of_read (s := s.setHeatEntries l) h
    (congrArg Prod.snd ((evalSlot_recordsRead t).trans records))
  signals := fun h => evalSlot_signals h token check

theorem enqueue_recordsRead (s : State) (e : Entry) : (s.enqueue e).recordsRead = s.recordsRead :=
  recordsRead_of_kept (s.enqueue_safe e).toKeepsProtection (s.enqueue_lists e)

/-- The own claim is released as soon as it completes, where it has been cancelled: it never held the token (R71). -/
theorem cancelledJoin_claimsKept {s : State} (ho : s.claims.join.own = .claimQueued true) :
    s.KeepsClaims ((s.setJoinEntries (appendAbsent s.ownNumber s.claims.join.entries)).queueJoinDone .failed) := by
  have queued : ∀ t : State, (t.queueJoinDone .failed).recordsRead = t.recordsRead := fun t => enqueue_recordsRead _ _
  have unlisted : ∀ t : State, (t.setJoinOwn (.releaseQueued false)).tokenNow = false := fun t => Bool.and_false _
  refine ⟨fun h => ?_, fun h => ?_, fun h => ?_⟩
  · have changed : (s.setJoinEntries (appendAbsent s.ownNumber s.claims.join.entries)).RecordsProper :=
      ⟨h.join.append (isStation_ownNumber s), h.heat, h.table.of_straps rfl⟩
    exact changed.of_read (queued _)
  · exact State.ZoneKeyCurrent.of_read (s := s.setJoinEntries (appendAbsent s.ownNumber s.claims.join.entries)) h
      (congrArg Prod.snd (queued _))
  · have free : s.claims.tokenHeld = false := h.token.trans (by simp [State.tokenNow, ho])
    have released : State.SignalsCurrent
        (({ s.setJoinEntries (appendAbsent s.ownNumber s.claims.join.entries) with
            claims := { (s.setJoinEntries (appendAbsent s.ownNumber s.claims.join.entries)).claims with doneResult := .failed } }
            : State).setJoinOwn (.releaseQueued false)) :=
      signalsCurrent_of (free.trans (unlisted _).symm) h.slot h.beforeToken.joining h.check
    exact released.of_read (enqueue_signalsRead _ _)

theorem State.ownJoinClaimDone_claimsKept (s : State) : s.KeepsClaims s.ownJoinClaimDone := by
  have listed : ∀ o, s.KeepsClaims (((s.setJoinEntries (appendAbsent s.ownNumber s.claims.join.entries)).setJoinOwn o).signalToken) :=
    fun _ => .ownJoin (·.append (isStation_ownNumber s)) rfl rfl rfl rfl
  unfold State.ownJoinClaimDone
  dsimp only
  split
  · exact listed _
  · next h => exact cancelledJoin_claimsKept h
  all_goals exact listed s.claims.join.own

theorem State.ownJoinDoneDone_claimsKept (s : State) : s.KeepsClaims s.ownJoinDoneDone := by
  have removed : ∀ o, s.KeepsClaims (((s.setJoinEntries (removeNumber s.ownNumber s.claims.join.entries)).setJoinOwn o).signalToken) :=
    fun _ => .ownJoin (·.filter _) rfl rfl rfl rfl
  unfold State.ownJoinDoneDone
  dsimp only
  split
  · exact removed _
  · have queued := enqueue_signalsRead
      ((s.setJoinEntries (removeNumber s.ownNumber s.claims.join.entries)).setJoinOwn (.claimQueued false)) joinClaimFrame
    exact .ownJoin (·.filter _) (enqueue_recordsRead _ _) (congrArg (·.2.1) queued) (congrArg (·.2.2) queued)
      (congrArg (·.1.2.2.1) queued)
  all_goals exact removed s.claims.join.own

theorem State.ownHeatClaimDone_claimsKept (s : State) : s.KeepsClaims s.ownHeatClaimDone := by
  have listed : ∀ o, s.KeepsClaims (((s.setHeatEntries (appendAbsent s.ownNumber s.claims.heat.entries)).setHeatOwn o).evalSlot) :=
    fun _ => .ownHeat (·.append (isStation_ownNumber s)) rfl rfl rfl
  unfold State.ownHeatClaimDone
  dsimp only
  split
  · exact listed _
  · have queued := enqueue_signalsRead
      ((s.setHeatEntries (appendAbsent s.ownNumber s.claims.heat.entries)).setHeatOwn (.releaseQueued false)) heatReleaseFrame
    exact .ownHeat (·.append (isStation_ownNumber s)) (enqueue_recordsRead _ _) (congrArg (·.1) queued) (congrArg (·.2.2) queued)
  all_goals exact listed s.claims.heat.own

theorem State.ownHeatReleaseDone_claimsKept (s : State) : s.KeepsClaims s.ownHeatReleaseDone := by
  have removed : ∀ o, s.KeepsClaims (((s.setHeatEntries (removeNumber s.ownNumber s.claims.heat.entries)).setHeatOwn o).evalSlot) :=
    fun _ => .ownHeat (·.filter _) rfl rfl rfl
  unfold State.ownHeatReleaseDone
  dsimp only
  split
  · exact removed _
  · have queued := enqueue_signalsRead
      ((s.setHeatEntries (removeNumber s.ownNumber s.claims.heat.entries)).setHeatOwn (.claimQueued false)) heatClaimFrame
    exact .ownHeat (·.filter _) (enqueue_recordsRead _ _) (congrArg (·.1) queued) (congrArg (·.2.2) queued)
  all_goals exact removed s.claims.heat.own

/-! ### The link (R165 to R172) -/

theorem State.takeCensusCall_claimsKept (s : State) (n : Nat) (p : List Byte) : s.KeepsClaims (s.takeCensusCall n p) :=
  .ite (.of_read rfl) (.refl s)

/-- A join check is judged while it is pending, in WAIT_TOKEN (R132, R133). -/
theorem State.joinedResult_claimsKept (s : State) (w : WindowRead) : s.KeepsClaims (s.joinedResult w) := by
  have mismatched : s.KeepsClaims ({ s with conn := { s.conn with mismatch := true } } : State).abandonJoin :=
    .after (State.abandonJoin_claimsKept _) rfl
  unfold State.joinedResult
  split
  · next hc =>
    have precharged : s.KeepsClaims s.enterPrecharge := State.enterPrecharge_claimsKept (by simp [hc])
    exact .ite (.ite s.abandonJoin_claimsKept (.ite (.ite mismatched precharged) (.ite mismatched precharged))) (.refl s)
  · exact .refl s

theorem State.settleGateway_claimsKept (s : State) (result : ReplyResult) (data : List Byte) :
    s.KeepsClaims (s.settleGateway result data) := .after (State.enqueue_claimsKept _ _) rfl

theorem State.gatewayResult_claimsKept (s : State) (q z : Byte) (w : WindowRead) : s.KeepsClaims (s.gatewayResult q z w) := by
  unfold State.gatewayResult
  split
  · exact .ite (s.settleGateway_claimsKept _ _) (.refl s)
  · exact .refl s

theorem State.goodWindow_claimsKept (s : State) (a : CensusAnswer) (w : WindowRead) : s.KeepsClaims (s.goodWindow a w) := by
  have own : s.KeepsClaims (s.ownCallGood a.own) := .ite (.of_read rfl) (.refl s)
  have zone : ∀ (t : State) (P : Prop) [Decidable P], t.KeepsClaims (if P then t.zoneResult w else t) := fun t P _ =>
    .ite (.ite t.enterAlarm_claimsKept (.refl t)) (.refl t)
  have joined : ∀ (t : State) (P : Prop) [Decidable P], t.KeepsClaims (if P then t.joinedResult w else t) := fun t P _ =>
    .ite (t.joinedResult_claimsKept w) (.refl t)
  have removed : ∀ t : State, t.KeepsClaims (t.removeIdentical a.question a.zone) := fun t =>
    .ite (.of_read rfl) (.of_read rfl)
  exact (own.trans (zone _ _)).trans ((joined _ _).trans ((removed _).trans (State.gatewayResult_claimsKept _ _ _ _)))

theorem State.failedWindow_claimsKept (s : State) (a : CensusAnswer) : s.KeepsClaims (s.failedWindow a) := by
  unfold State.failedWindow
  split
  · exact .ite (s.enqueue_claimsKept _) (.of_read rfl)
  · split
    · exact .refl s
    · next h => exact State.startCheck_claimsKept h
  · exact s.settleGateway_claimsKept _ _
  all_goals exact .refl s

theorem State.windowCompletes_claimsKept (s : State) (w : WindowRead) : s.KeepsClaims (s.windowCompletes w) := by
  unfold State.windowCompletes
  split
  · exact .refl s
  · exact .after (t := { s with link := { s.link with census := none } })
      (.ite (State.goodWindow_claimsKept _ _ _) (State.failedWindow_claimsKept _ _)) rfl

theorem State.attemptStart_claimsKept (s : State) (b : Bool) : s.KeepsClaims (s.attemptStart b) :=
  .ite (.of_read rfl) (.of_read rfl)

theorem State.arbitrationLost_claimsKept (s : State) : s.KeepsClaims s.arbitrationLost := .ite (.refl s) (.of_read rfl)

theorem State.bitError_claimsKept (s : State) (n : Nat) : s.KeepsClaims (s.bitError n) := by
  have dropped : ∀ x, s.KeepsClaims (s.bitErrorEntry x) := fun x =>
    .ite (.of_read rfl) (.after (State.reportLoss_claimsKept _ _) rfl)
  have waits : ∀ t : State, t.KeepsClaims (t.setReception .untilIdle) := fun _ => .of_read rfl
  have counted : ∀ t : State, t.KeepsClaims (t.headerError n) := fun t =>
    .ite (.ite (.after (State.setDuplicateId_claimsKept _) rfl) (.of_read rfl)) (.of_read rfl)
  unfold State.bitError
  split
  · exact .refl s
  · exact .trans ((dropped _).trans (waits _)) (counted _)

theorem State.selfReceive_claimsKept (s : State) (x : Entry) : s.KeepsClaims (s.selfReceive x) := by
  have due : s.KeepsClaims s.dueRestart := .ite (.of_read rfl) (.refl s)
  unfold State.selfReceive
  split
  · split
    · exact s.ownJoinClaimDone_claimsKept
    · exact s.ownJoinDoneDone_claimsKept
    · exact s.ownHeatClaimDone_claimsKept
    · exact s.ownHeatReleaseDone_claimsKept
    · exact .refl s
  · exact .of_read rfl
  · exact .ite due (.refl s)
  all_goals exact .refl s

theorem State.frameCompletes_claimsKept (s : State) : s.KeepsClaims s.frameCompletes := by
  unfold State.frameCompletes
  split
  · exact .refl s
  · exact .after (State.selfReceive_claimsKept _ _) rfl

theorem State.discardFrame_claimsKept (s : State) (r : DiscardReason) : s.KeepsClaims (s.discardFrame r) :=
  .ite (.of_read rfl) (.refl s)

/-! ### The sequencer's timers (R135, R143) -/

theorem State.prechargeExpires_claimsKept (s : State) : s.KeepsClaims s.prechargeExpires := by
  unfold State.prechargeExpires
  split
  · next h => exact State.prechargeFailure_claimsKept (by simp [h.1])
  · exact .refl s

theorem State.leaveExpires_claimsKept (s : State) : s.KeepsClaims s.leaveExpires := by
  unfold State.leaveExpires
  split
  · next h => exact State.leaveStep2_claimsKept h.1
  · exact .refl s

/-! ### The gateway's requests -/

theorem State.doReadStatus_claimsKept (s : State) (args : List Byte) : s.KeepsClaims (s.doReadStatus args) :=
  State.judgeRequest_claimsKept _ _ _ _ (s.reply_claimsKept _ _ _)

theorem State.doReadModule_claimsKept (s : State) (args : List Byte) : s.KeepsClaims (s.doReadModule args) :=
  State.judgeRequest_claimsKept _ _ _ _ (.ite (s.reply_claimsKept _ _ _) (s.reply_claimsKept _ _ _))

theorem State.doSetSiteCap_claimsKept (s : State) (args : List Byte) : s.KeepsClaims (s.doSetSiteCap args) := by
  have capped : ∀ v, s.KeepsClaims (s.setCap v) := fun v => by
    unfold State.setCap
    split
    · exact .refl s
    · exact .of_read rfl
  exact State.judgeRequest_claimsKept _ _ _ _ ((capped _).trans (State.reply_claimsKept _ _ _ _))

theorem State.doHoldJoin_claimsKept (s : State) (args : List Byte) : s.KeepsClaims (s.doHoldJoin args) :=
  State.judgeRequest_claimsKept _ _ _ _ (.after (State.reply_claimsKept _ _ _ _) rfl)

theorem State.doResumeJoin_claimsKept (s : State) (args : List Byte) : s.KeepsClaims (s.doResumeJoin args) :=
  State.judgeRequest_claimsKept _ _ _ _ (.after (State.reply_claimsKept _ _ _ _) rfl)

theorem State.takeOutEffect_claimsKept (s : State) (c : ConfigSet) : s.KeepsClaims (s.takeOutEffect c) := by
  unfold State.takeOutEffect
  split
  · next h =>
    have out : s.KeepsClaims (s.setConn .outOfService) :=
      .of_sequences (s.setConn_sequences _) (by simp [h]) (by rw [State.setConn_state]; rfl)
    exact out.trans (State.reply_claimsKept _ _ _ _)
  · have left : s.KeepsClaims ((s.leaveWaitToken .outOfService).seqRelease .failed) :=
      .released (s.leaveWaitToken_sequences _) .failed (fun _ => leaveWaitToken_check s _)
        (by rw [State.leaveWaitToken, State.setConn_state]; rfl)
    exact left.trans (State.reply_claimsKept _ _ _ _)
  · next h =>
    have leaving : s.KeepsClaims (s.enterLeaving c) :=
      .of_sequences (s.enterLeaving_sequences c) (by simp [h]) (by rcases enterLeaving_state s c with hs | hs <;> rw [hs] <;> rfl)
    exact leaving.trans (State.reply_claimsKept _ _ _ _)
  all_goals exact s.reply_claimsKept _ _ _

theorem State.doTakeOut_claimsKept (s : State) (args : List Byte) : s.KeepsClaims (s.doTakeOut args) :=
  State.judgeRequest_claimsKept _ _ _ _ (by
    split
    · exact s.takeOutEffect_claimsKept _
    · exact s.reply_claimsKept _ _ _)

theorem State.doReturn_claimsKept (s : State) (args : List Byte) : s.KeepsClaims (s.doReturn args) :=
  State.judgeRequest_claimsKept _ _ _ _ (by
    split
    · next h =>
      have returned : s.KeepsClaims (s.setConn .openRack) :=
        .of_sequences (s.setConn_sequences _) (by simp [h]) (by rw [State.setConn_state]; rfl)
      exact returned.trans (State.reply_claimsKept _ _ _ _)
    · exact s.reply_claimsKept _ _ _)

/-- A lockout or a weld is cleared outside WAIT_TOKEN (R139, R145). -/
theorem State.clearConn_claimsKept (s : State) : s.KeepsClaims s.clearConn := by
  unfold State.clearConn
  split
  · next h =>
    have idle : s.conn.state ≠ .waitToken := fun hs => by simp [State.clearsConn, hs] at h
    exact .of_sequences (.setConn s _ _) idle (by rw [State.setConn_state]; rfl)
  · exact .refl s

theorem State.doClearLockout_claimsKept (s : State) (args : List Byte) : s.KeepsClaims (s.doClearLockout args) := by
  have untripped : s.KeepsClaims s.clearTrip := .ite (.of_read rfl) (.refl s)
  exact State.judgeRequest_claimsKept _ _ _ _
    ((untripped.trans (State.clearConn_claimsKept _)).trans (State.reply_claimsKept _ _ _ _))

theorem State.resetFire_claimsKept (s : State) : s.KeepsClaims s.resetFire := by
  have cleared : s.KeepsClaims (((((({ s with env := { s.env with latch := false, riseFlag := false, ring := [] } } : State).setRepeat
      none).setCountdown none).setFireLines false false false)).setFire .normal) := .after (State.setFire_claimsKept _ _) rfl
  exact cleared.trans ((State.enqueue_claimsKept _ _).trans (State.thermalReview_claimsKept _))

theorem State.doFireReset_claimsKept (s : State) (args : List Byte) : s.KeepsClaims (s.doFireReset args) := by
  have evaluated : ∀ (t : State) (result : ReplyResult), t.KeepsClaims (t.evaluateContainerFire.reply 9 result []) :=
    fun t _ => t.evaluateContainerFire_claimsKept.trans (State.reply_claimsKept _ _ _ _)
  exact State.judgeRequest_claimsKept _ _ _ _ (.ite (evaluated _ _) (.ite (s.resetFire_claimsKept.trans (evaluated _ _))
    (evaluated _ _)))

theorem State.doBreakerHold_claimsKept (s : State) (args : List Byte) : s.KeepsClaims (s.doBreakerHold args) :=
  State.judgeRequest_claimsKept _ _ _ _ (.after (State.reply_claimsKept _ _ _ _) rfl)

theorem State.doBreakerRelease_claimsKept (s : State) (args : List Byte) : s.KeepsClaims (s.doBreakerRelease args) :=
  State.judgeRequest_claimsKept _ _ _ _ (.after (State.reply_claimsKept _ _ _ _) rfl)

theorem State.doCensusRequest_claimsKept (s : State) (args : List Byte) : s.KeepsClaims (s.doCensusRequest args) :=
  State.judgeRequest_claimsKept _ _ _ _ (.ite (.ite (s.reply_claimsKept _ _ _) (.after (State.enqueue_claimsKept _ _) rfl))
    (s.reply_claimsKept _ _ _))

theorem State.doRestart_claimsKept (s : State) (args : List Byte) : s.KeepsClaims (s.doRestart args) :=
  State.judgeRequest_claimsKept _ _ _ _ (.ite (.ite (s.reply_claimsKept _ _ _) (.after (State.enqueue_claimsKept _ _) rfl))
    (s.reply_claimsKept _ _ _))

theorem State.doKind_claimsKept (s : State) (kind : Byte) (args : List Byte) : s.KeepsClaims (s.doKind kind args) := by
  unfold State.doKind
  split
  · exact s.doReadStatus_claimsKept args
  · exact s.doReadModule_claimsKept args
  · exact s.doSetSiteCap_claimsKept args
  · exact s.doHoldJoin_claimsKept args
  · exact s.doResumeJoin_claimsKept args
  · exact s.doTakeOut_claimsKept args
  · exact s.doReturn_claimsKept args
  · exact s.doClearLockout_claimsKept args
  · exact s.doFireReset_claimsKept args
  · exact s.doBreakerHold_claimsKept args
  · exact s.doBreakerRelease_claimsKept args
  · exact s.doCensusRequest_claimsKept args
  · exact s.doRestart_claimsKept args
  · exact .refl s
  · exact s.reply_claimsKept _ _ _

end Sys2Proof.Machine

namespace Sys2Proof.Machine

open Sys2Proof

/-! ### Every command -/

/-- What a command keeps of the two invariants: the signals, behind a window that fits its connection state. -/
structure State.KeepsClaimsBy (s t : State) : Prop where
  lists : s.ListsProper → t.ListsProper
  signals : s.DrivesFollow → s.SignalsCurrent → t.SignalsCurrent

theorem State.KeepsClaims.byCommand {s t : State} (h : s.KeepsClaims t) : s.KeepsClaimsBy t := ⟨h.lists, fun _ => h.signals⟩

/-- An operation that leaves lists, table and key check, and the signals with the windows fitting. -/
theorem State.KeepsClaimsBy.of_records {s t : State} (hr : t.recordsRead = s.recordsRead)
    (h : (∀ w, s.conn.window = some w → s.WindowFits w) → s.KeepsClaims t) : s.KeepsClaimsBy t where
  lists := fun hs => by
    obtain ⟨hrecords, hkey⟩ := listsProper_iff.mp hs
    exact listsProper_iff.mpr ⟨hrecords.of_read hr, hkey.of_read (congrArg Prod.snd hr)⟩
  signals := fun hd => (h fun _ hw => windowFits_of_drivesFollow hd hw).signals

theorem State.auxChange_claimsKeptBy (s : State) (p n : Bool) : s.KeepsClaimsBy (s.auxChange p n) :=
  .of_records (testWindow_recordsRead _) fun h =>
    .after (State.testWindow_claimsKept fun w hw => ⟨(h w hw).idle, (h w hw).dest, (h w hw).leavePos⟩) rfl

theorem State.auxWindowExpires_claimsKeptBy (s : State) : s.KeepsClaimsBy s.auxWindowExpires := by
  unfold State.auxWindowExpires
  split
  · exact (State.KeepsClaims.refl s).byCommand
  · next w hw => exact .of_records (windowFailure_recordsRead s w) fun h => State.windowFailure_claimsKept (h w hw)

/-- Every command but POWER_ON_RESET is an operation that keeps the claims, and the judgements of its end. -/
theorem exec_claimsKept {i : Instr} (s : State) (h : ∀ straps, i ≠ .powerOnReset straps) :
    ∃ u, exec i s = u.finish ∧ s.KeepsClaimsBy u := by
  cases i with
  | powerOnReset straps => exact absurd rfl (h straps)
  | configLoad image => exact ⟨_, rfl, (s.loadConfig_claimsKept image).byCommand⟩
  | scanIntervalExpiry => exact ⟨_, rfl, (s.scanInterval_claimsKept).byCommand⟩
  | chainReplyArrival reply => exact ⟨_, rfl, (s.replyArrives_claimsKept reply).byCommand⟩
  | chainReplyWaitExpiry => exact ⟨_, rfl, (s.replyWaitExpires_claimsKept).byCommand⟩
  | loopSample a b => exact ⟨_, rfl, (s.sampleLoops_claimsKept a b).byCommand⟩
  | runawaySample => exact ⟨_, rfl, (s.sampleRunaway_claimsKept).byCommand⟩
  | releaseCountdownExpiry => exact ⟨_, rfl, (s.countdownExpires_claimsKept).byCommand⟩
  | censusRepeatExpiry => exact ⟨_, rfl, (s.repeatExpires_claimsKept).byCommand⟩
  | abortInputChange b => exact ⟨_, rfl, (s.abortChange_claimsKept b).byCommand⟩
  | maintenanceKeyChange b => exact ⟨_, rfl, (s.keyChange_claimsKept b).byCommand⟩
  | chillerFaultInputChange b => exact ⟨_, rfl, (s.chillerFaultChange_claimsKept b).byCommand⟩
  | heatSoakExpiry => exact ⟨_, rfl, (s.heatSoakExpire_claimsKept).byCommand⟩
  | recoveryExpiry => exact ⟨_, rfl, (s.recoveryExpire_claimsKept).byCommand⟩
  | apExpiry => exact ⟨_, rfl, (s.apExpires_claimsKept).byCommand⟩
  | announceArrival n p => exact ⟨_, rfl, (State.receiveKind_claimsKept p 24 fun t => t.takeAnnounce_claimsKept _ p).byCommand⟩
  | fireNoticeArrival n p => exact ⟨_, rfl, (State.receiveKind_claimsKept p 3 fun t => t.takeFireNotice_claimsKept _ p).byCommand⟩
  | joinClaimArrival n p => exact ⟨_, rfl, (State.receiveKind_claimsKept p 0 fun t => t.takeJoinClaim_claimsKept _).byCommand⟩
  | joinDoneArrival n p => exact ⟨_, rfl, (State.receiveKind_claimsKept p 1 fun t => t.takeJoinDone_claimsKept _).byCommand⟩
  | heatClaimArrival n p => exact ⟨_, rfl, (State.receiveKind_claimsKept p 0 fun t => t.takeHeatClaim_claimsKept _).byCommand⟩
  | heatReleaseArrival n p => exact ⟨_, rfl, (State.receiveKind_claimsKept p 0 fun t => t.takeHeatRelease_claimsKept _).byCommand⟩
  | censusCallArrival n p => exact ⟨_, rfl, (State.receiveKind_claimsKept p 2 fun t => t.takeCensusCall_claimsKept _ p).byCommand⟩
  | censusWindowCompletion w => exact ⟨_, rfl, (s.windowCompletes_claimsKept w).byCommand⟩
  | linkIdleAttemptStart b => exact ⟨_, rfl, (s.attemptStart_claimsKept b).byCommand⟩
  | lostArbitration => exact ⟨_, rfl, (s.arbitrationLost_claimsKept).byCommand⟩
  | attemptBitError n => exact ⟨_, rfl, (s.bitError_claimsKept n).byCommand⟩
  | ownFrameCompletion => exact ⟨_, rfl, (s.frameCompletes_claimsKept).byCommand⟩
  | headTimerExpiry => exact ⟨_, rfl, (s.headExpires_claimsKept).byCommand⟩
  | holdTimerExpiry => exact ⟨_, rfl, (s.holdExpires_claimsKept).byCommand⟩
  | auxInputChange p n => exact ⟨_, rfl, s.auxChange_claimsKeptBy p n⟩
  | auxWindowExpiry => exact ⟨_, rfl, s.auxWindowExpires_claimsKeptBy⟩
  | prechargeTimerExpiry => exact ⟨_, rfl, (s.prechargeExpires_claimsKept).byCommand⟩
  | leaveTimerExpiry => exact ⟨_, rfl, (s.leaveExpires_claimsKept).byCommand⟩
  | failureHoldExpiry => exact ⟨s.failureHoldExpires, rfl, State.KeepsClaims.byCommand (.of_read rfl)⟩
  | gridHealthyChange b => exact ⟨_, rfl, (s.gridChange_claimsKept b).byCommand⟩
  | reconnectExpiry => exact ⟨_, rfl, (s.reconnectExpires_claimsKept).byCommand⟩
  | readStatus n p => exact ⟨_, rfl, (State.takeRequest_claimsKept n p fun x t => t.doReadStatus_claimsKept x).byCommand⟩
  | readModule n p => exact ⟨_, rfl, (State.takeRequest_claimsKept n p fun x t => t.doReadModule_claimsKept x).byCommand⟩
  | setSiteCap n p => exact ⟨_, rfl, (State.takeRequest_claimsKept n p fun x t => t.doSetSiteCap_claimsKept x).byCommand⟩
  | holdJoin n p => exact ⟨_, rfl, (State.takeRequest_claimsKept n p fun x t => t.doHoldJoin_claimsKept x).byCommand⟩
  | resumeJoin n p => exact ⟨_, rfl, (State.takeRequest_claimsKept n p fun x t => t.doResumeJoin_claimsKept x).byCommand⟩
  | takeOut n p => exact ⟨_, rfl, (State.takeRequest_claimsKept n p fun x t => t.doTakeOut_claimsKept x).byCommand⟩
  | returnRack n p => exact ⟨_, rfl, (State.takeRequest_claimsKept n p fun x t => t.doReturn_claimsKept x).byCommand⟩
  | clearLockout n p => exact ⟨_, rfl, (State.takeRequest_claimsKept n p fun x t => t.doClearLockout_claimsKept x).byCommand⟩
  | fireReset n p => exact ⟨_, rfl, (State.takeRequest_claimsKept n p fun x t => t.doFireReset_claimsKept x).byCommand⟩
  | breakerHold n p => exact ⟨_, rfl, (State.takeRequest_claimsKept n p fun x t => t.doBreakerHold_claimsKept x).byCommand⟩
  | breakerRelease n p => exact ⟨_, rfl, (State.takeRequest_claimsKept n p fun x t => t.doBreakerRelease_claimsKept x).byCommand⟩
  | censusRequest n p => exact ⟨_, rfl, (State.takeRequest_claimsKept n p fun x t => t.doCensusRequest_claimsKept x).byCommand⟩
  | restart n p => exact ⟨_, rfl, (State.takeRequest_claimsKept n p fun x t => t.doRestart_claimsKept x).byCommand⟩
  | unknownRequest n k p => exact ⟨_, rfl, (State.takeRequest_claimsKept n p fun x t => t.doKind_claimsKept k x).byCommand⟩
  | receivedFrameDiscard r => exact ⟨_, rfl, (s.discardFrame_claimsKept r).byCommand⟩

/-- Every command keeps the lists proper; POWER_ON_RESET leaves them empty (R86). -/
theorem exec_listsProper {i : Instr} {s t : State} (hs : s.ListsProper) (h : exec i s = .next t) : t.ListsProper := by
  by_cases hreset : ∃ straps, i = .powerOnReset straps
  · obtain ⟨straps, rfl⟩ := hreset
    exact finish_listsProper (s := s.powerOn straps) (resetWith_listsProper _ _) h
  · obtain ⟨u, hu, hk⟩ := exec_claimsKept s (not_exists.mp hreset)
    exact finish_listsProper (hk.lists hs) (hu ▸ h)

/-- Every command keeps the signals current; POWER_ON_RESET takes token and slot (R86). -/
theorem exec_signalsCurrent {i : Instr} {s t : State} (hd : s.DrivesFollow) (hs : s.SignalsCurrent) (h : exec i s = .next t) :
    t.SignalsCurrent := by
  by_cases hreset : ∃ straps, i = .powerOnReset straps
  · obtain ⟨straps, rfl⟩ := hreset
    exact finish_signalsCurrent (s := s.powerOn straps) (resetWith_signalsCurrent _ _) h
  · obtain ⟨u, hu, hk⟩ := exec_claimsKept s (not_exists.mp hreset)
    exact finish_signalsCurrent (hk.signals hd hs) (hu ▸ h)

/-- The drives' invariant does not read the queue of commands. -/
theorem drivesFollow_pending {s : State} (h : s.DrivesFollow) (rest : List Instr) :
    State.DrivesFollow { s with pending := rest } := by
  obtain ⟨⟩ := h
  constructor <;> assumption

/-- Settles O13: the command in front keeps lists, table and key check, and an idle step changes nothing. -/
theorem listsProperKept : Obligations.ListsProperKept := by
  intro s t hs h
  unfold step at h
  split at h
  · cases h
    exact hs
  · next c rest _ =>
    have taken : s.KeepsClaims { s with pending := rest } := .of_read rfl
    exact exec_listsProper (taken.lists hs) h

/-- Settles O9: the command in front keeps the signals, its windows those of the drives' invariant. -/
theorem signalsCurrentKept : Obligations.SignalsCurrentKept := by
  intro s t hs hd h
  unfold step at h
  split at h
  · cases h
    exact hs
  · next c rest _ =>
    have taken : s.KeepsClaims { s with pending := rest } := .of_read rfl
    exact exec_signalsCurrent (drivesFollow_pending hd rest) (taken.signals hs) h

end Sys2Proof.Machine

namespace Sys2Proof.Machine

open Sys2Proof

/-! ### A changed list at the end of a command -/

/-- A change of claims, sequencer and queue that neither empties nor begins the join list leaves a steady state steady: the permit
stands, and no forced leave becomes possible (R140, R153). -/
theorem State.Steady.setClaims {s : State} (h : s.Steady) (c : ClaimUnit) (k : Connection) (l : Link)
    (hc : c.join.entries.isEmpty = s.claims.join.entries.isEmpty := by rfl)
    (hw : (k.state != .welded) = (s.conn.state != .welded) := by rfl)
    (hf : takesForcedLeave s.conn.state = false → takesForcedLeave k.state = false := by exact id) :
    State.Steady { s with claims := c, conn := k, link := l } where
  permit := by
    rw [State.permitNow, hc, hw]
    exact h.permit
  containerLevel := h.containerLevel
  pump1 := h.pump1
  pump2 := h.pump2
  chillerRun := h.chillerRun
  forced := fun hforced => hf (h.forced hforced)
  noDue := h.noDue

/-- Claims under which the permit is judged anew: a steady state but for it (R153). -/
theorem State.Steady.judged {s : State} (h : s.Steady) (c : ClaimUnit) {p : Bool}
    (hp : p = State.permitNow { s with claims := c }) :
    State.Steady { s with claims := c, grid := { s.grid with permit := p } } where
  permit := hp
  containerLevel := h.containerLevel
  pump1 := h.pump1
  pump2 := h.pump2
  chillerRun := h.chillerRun
  forced := h.forced
  noDue := h.noDue

/-! ### The join list and its head timer (R68, R69, R78) -/

/-- The join list with other entries, and the head timer with another length. -/
def State.withJoin (s : State) (l : List Nat) (timer : Timer) : State :=
  { s with claims := { s.claims with join := { s.claims.join with entries := l }, headTimer := timer } }

/-- A new head starts its timer, an old one keeps it (R78). -/
theorem setJoinEntries_of_newHead {s : State} {l : List Nat} (h : l.head? ≠ s.claims.join.entries.head?) :
    s.setJoinEntries l = s.withJoin l (s.headTimerFor l.head?) := by
  rw [State.setJoinEntries, if_neg h]
  rfl

theorem setJoinEntries_of_sameHead {s : State} {l : List Nat} (h : l.head? = s.claims.join.entries.head?) :
    s.setJoinEntries l = s.withJoin l s.claims.headTimer := by
  rw [State.setJoinEntries, if_pos h]
  rfl

theorem headTimerFor_of_peer {s : State} {m : Nat} (h : m ≠ s.ownNumber) : s.headTimerFor (some m) = some (s.prechMaxMs + 3000) := by
  rw [State.headTimerFor, if_neg h]

theorem headTimerFor_own (s : State) : s.headTimerFor (some s.ownNumber) = some (s.prechMaxMs + 2000) := by
  rw [State.headTimerFor, if_pos rfl]

/-- The token is held at the head alone (R77), -/
theorem tokenNow_of_otherHead {s : State} (h : s.claims.join.entries.head? ≠ some s.ownNumber) : s.tokenNow = false := by
  simp [State.tokenNow, h]

/-- so that without it a list with another head signals nothing. -/
theorem signalToken_of_otherHead {s : State} (hheld : s.claims.tokenHeld = false)
    (h : s.claims.join.entries.head? ≠ some s.ownNumber) : s.signalToken = s :=
  signalToken_of_current ((tokenNow_of_otherHead h).trans hheld.symm)

/-- A change behind the head leaves the token (R77). -/
theorem changeJoin_of_sameHead {s : State} {f : List Nat → List Nat} (hs : s.SignalsCurrent)
    (h : (f s.claims.join.entries).head? = s.claims.join.entries.head?) :
    s.changeJoin f = s.withJoin (f s.claims.join.entries) s.claims.headTimer := by
  rw [State.changeJoin, setJoinEntries_of_sameHead h]
  have now : (s.withJoin (f s.claims.join.entries) s.claims.headTimer).tokenNow = s.tokenNow := by
    change ((f s.claims.join.entries).head? == some s.ownNumber && _) = _
    rw [h]
    rfl
  exact signalToken_of_current (now.trans hs.token.symm)

/-- The token gained outside WAIT_TOKEN is held. -/
theorem signalToken_gained {s : State} (hheld : s.claims.tokenHeld = false) (hnow : s.tokenNow = true) (hw : s.conn.state ≠ .waitToken) :
    s.signalToken = { s with claims := { s.claims with tokenHeld := true } } := by
  rw [State.signalToken, if_neg (by simp [hheld, hnow]), if_pos hnow, if_neg hw, State.syncToken, hnow]

/-- The token gained in WAIT_TOKEN starts the join check, with room in the queue for its call (R132). -/
theorem signalToken_gained_waiting {s : State} (hheld : s.claims.tokenHeld = false) (hnow : s.tokenNow = true)
    (hw : s.conn.state = .waitToken) (hroom : s.Room) :
    s.signalToken = State.queued { s with
      claims := { s.claims with tokenHeld := true }
      conn := { s.conn with check := .callPending false } } (censusCall 2 0 .joinCheckCall) := by
  rw [State.signalToken, if_neg (by simp [hheld, hnow]), if_pos hnow, if_pos hw, State.syncToken, hnow]
  exact enqueue_of_room hroom

/-- The own LISTED claim at the head holds the token. -/
theorem tokenNow_withJoin_own (s : State) (rest : List Nat) (timer : Timer) (ho : s.claims.join.own = .listed) :
    (s.withJoin (s.ownNumber :: rest) timer).tokenNow = true := by
  simp [State.tokenNow, State.withJoin, State.ownNumber, ho]

/-! ### A peer leaves the head (R69, R77, R78) -/

/-- What the removal of a peer from the head needs: the entries with that peer ahead of `tail`, and nowhere else. -/
structure State.PeerHeads (s : State) (n : Nat) (tail : List Nat) : Prop where
  entries : s.claims.join.entries = n :: tail
  once : n ∉ tail
  peer : n ≠ s.ownNumber

namespace State.PeerHeads

theorem tokenFree {s : State} {n : Nat} {tail : List Nat} (h : s.PeerHeads n tail) (hs : s.SignalsCurrent) :
    s.claims.tokenHeld = false :=
  hs.token.trans (tokenNow_of_otherHead (by simp [h.entries, h.peer]))

theorem removed {s : State} {n : Nat} {tail : List Nat} (h : s.PeerHeads n tail) :
    s.changeJoin (removeNumber n) = (s.withJoin tail (s.headTimerFor tail.head?)).signalToken := by
  have rest : removeNumber n s.claims.join.entries = tail := by
    rw [h.entries, ← removeNumber_of_absent h.once]
    simp [removeNumber]
  rw [State.changeJoin, rest, setJoinEntries_of_newHead]
  rw [h.entries]
  exact fun hn => h.once (List.mem_of_mem_head? hn)

/-- Behind another head than the own number nothing more happens. -/
theorem removed_of_otherHead {s : State} {n : Nat} {tail : List Nat} (h : s.PeerHeads n tail) (hs : s.SignalsCurrent)
    (ho : tail.head? ≠ some s.ownNumber) : s.changeJoin (removeNumber n) = s.withJoin tail (s.headTimerFor tail.head?) :=
  h.removed.trans (signalToken_of_otherHead (h.tokenFree hs) ho)

/-- The last entry gone, the permit is judged without it (R153). -/
theorem emptied {s : State} {n : Nat} (h : s.PeerHeads n []) (hs : s.Steady) (hc : s.SignalsCurrent) :
    (s.changeJoin (removeNumber n)).finish = .next { s.withJoin [] none with
      grid := { s.grid with permit :=
        s.grid.state == .up && s.svc.mode == .active && s.fire.state == .normal && !s.peers.containerFire
          && s.conn.state != .welded && !s.grid.breakerHold } } := by
  rw [h.removed_of_otherHead hc nofun]
  exact finish_of_permit rfl (hs.judged _ (by simp [State.permitNow, State.withJoin]))

/-- A remaining list leaves the permit withheld. -/
theorem steady {s : State} {n : Nat} {tail : List Nat} (h : s.PeerHeads n tail) (hs : s.Steady) (ht : tail ≠ []) (timer : Timer) :
    (s.withJoin tail timer).Steady :=
  hs.setClaims _ s.conn s.link (by simp [h.entries, ht])

/-- The next peer starts its timer. -/
theorem passed {s : State} {n m : Nat} {rest : List Nat} (h : s.PeerHeads n (m :: rest)) (hs : s.Steady) (hc : s.SignalsCurrent)
    (hm : m ≠ s.ownNumber) :
    (s.changeJoin (removeNumber n)).finish = .next (s.withJoin (m :: rest) (some (s.prechMaxMs + 3000))) := by
  rw [h.removed_of_otherHead hc (by simpa using hm), List.head?_cons, headTimerFor_of_peer hm]
  exact finish_of_steady (h.steady hs nofun _)

/-- The own number starts its timer, and without a LISTED claim takes no token. -/
theorem passedUnlisted {s : State} {n : Nat} {rest : List Nat} (h : s.PeerHeads n (s.ownNumber :: rest)) (hs : s.Steady)
    (hc : s.SignalsCurrent) (ho : s.claims.join.own ≠ .listed) :
    (s.changeJoin (removeNumber n)).finish = .next (s.withJoin (s.ownNumber :: rest) (some (s.prechMaxMs + 2000))) := by
  have free : (s.withJoin (s.ownNumber :: rest) (some (s.prechMaxMs + 2000))).tokenNow = false := by
    simp [State.tokenNow, State.withJoin, ho]
  rw [h.removed, List.head?_cons, headTimerFor_own, signalToken_of_current (free.trans (h.tokenFree hc).symm)]
  exact finish_of_steady (h.steady hs nofun _)

/-- The own LISTED claim takes the token (R77). -/
theorem passedListed {s : State} {n : Nat} {rest : List Nat} (h : s.PeerHeads n (s.ownNumber :: rest)) (hs : s.Steady)
    (hc : s.SignalsCurrent) (ho : s.claims.join.own = .listed) (hw : s.conn.state ≠ .waitToken) :
    (s.changeJoin (removeNumber n)).finish = .next { s with claims := { s.claims with
      join := { s.claims.join with entries := s.ownNumber :: rest }
      tokenHeld := true
      headTimer := some (s.prechMaxMs + 2000) } } := by
  rw [h.removed, List.head?_cons, headTimerFor_own, signalToken_gained (s := s.withJoin (s.ownNumber :: rest) _) (h.tokenFree hc) (tokenNow_withJoin_own s rest _ ho) hw]
  exact finish_of_steady (hs.setClaims _ s.conn s.link (by simp [State.withJoin, h.entries]))

/-- In WAIT_TOKEN the token starts the join check (R132). -/
theorem passedWaiting {s : State} {n : Nat} {rest : List Nat} (h : s.PeerHeads n (s.ownNumber :: rest)) (hs : s.Steady)
    (hc : s.SignalsCurrent) (ho : s.claims.join.own = .listed) (hw : s.conn.state = .waitToken) (hroom : s.Room) :
    (s.changeJoin (removeNumber n)).finish = .next (State.queued { s with
      claims := { s.claims with
        join := { s.claims.join with entries := s.ownNumber :: rest }
        tokenHeld := true
        headTimer := some (s.prechMaxMs + 2000) }
      conn := { s.conn with check := .callPending false } } (censusCall 2 0 .joinCheckCall)) := by
  rw [h.removed, List.head?_cons, headTimerFor_own,
    signalToken_gained_waiting (s := s.withJoin (s.ownNumber :: rest) _) (h.tokenFree hc) (tokenNow_withJoin_own s rest _ ho) hw hroom]
  exact finish_of_steady (hs.setClaims _ _ _ (by simp [State.withJoin, h.entries]))

end State.PeerHeads

/-! ### The join frames of a peer (R69) -/

theorem heard_signalsCurrent {s : State} (h : s.SignalsCurrent) : s.heard.SignalsCurrent := h.of_read rfl

theorem exec_joinClaimArrival_of_peer {s : State} {sender : BitVec 5} (h : s.Hears) (hp : s.isPeer sender.toNat = true) :
    exec (.joinClaimArrival sender []) s = (s.heard.changeJoin (appendAbsent sender.toNat)).finish := by
  change (s.receive _).finish = _
  rw [receive_of_hears _ h]
  exact congrArg State.finish (if_pos hp)

theorem exec_joinDoneArrival_of_peer {s : State} {sender : BitVec 5} (result : Byte) (h : s.Hears)
    (hp : s.isPeer sender.toNat = true) :
    exec (.joinDoneArrival sender [result]) s = (s.heard.changeJoin (removeNumber sender.toNat)).finish := by
  change (s.receive _).finish = _
  rw [receive_of_hears _ h]
  exact congrArg State.finish (if_pos hp)

theorem appendAbsent_of_absent {n : Nat} {l : List Nat} (h : n ∉ l) : appendAbsent n l = l ++ [n] := by
  rw [appendAbsent, if_neg (by simpa using h)]

theorem appendAbsent_of_present {n : Nat} {l : List Nat} (h : n ∈ l) : appendAbsent n l = l := by
  rw [appendAbsent, if_pos (by simpa using h)]

/-- A list that stays as it was, in a steady state with its token signalled, changes nothing. -/
theorem changeJoin_unchanged {s : State} {f : List Nat → List Nat} (hs : s.Steady) (hc : s.SignalsCurrent)
    (h : f s.claims.join.entries = s.claims.join.entries) : (s.changeJoin f).finish = .next s := by
  rw [changeJoin_of_sameHead hc (by rw [h]), h]
  exact finish_of_steady hs

/-- A number appended at the tail withholds the permit, and heads an empty list (R69, R78, R153). -/
theorem changeJoin_appended {s : State} {n : Nat} (hs : s.Steady) (hc : s.SignalsCurrent) (hn : n ∉ s.claims.join.entries)
    (hp : n ≠ s.ownNumber) :
    (s.changeJoin (appendAbsent n)).finish = .next { s with
      claims := { s.claims with
        join := { s.claims.join with entries := s.claims.join.entries ++ [n] }
        headTimer := if s.claims.join.entries = [] then some (s.prechMaxMs + 3000) else s.claims.headTimer }
      grid := { s.grid with permit := false } } := by
  have appended : s.changeJoin (appendAbsent n) = s.withJoin (s.claims.join.entries ++ [n])
      (if s.claims.join.entries = [] then some (s.prechMaxMs + 3000) else s.claims.headTimer) := by
    by_cases he : s.claims.join.entries = []
    · have free : s.claims.tokenHeld = false := hc.token.trans (tokenNow_of_otherHead (by simp [he]))
      rw [State.changeJoin, appendAbsent_of_absent hn, if_pos he, setJoinEntries_of_newHead (by simp [he]), he, List.nil_append,
        List.head?_cons, headTimerFor_of_peer hp]
      exact signalToken_of_otherHead free fun hn => hp (Option.some.inj hn)
    · rw [← appendAbsent_of_absent hn, if_neg he]
      refine changeJoin_of_sameHead hc ?_
      rw [appendAbsent_of_absent hn, List.head?_append_of_ne_nil _ he]
  rw [appended]
  exact finish_of_permit rfl (hs.judged _ (by simp [State.permitNow]))

/-- A number behind the head removed leaves head, timer, token and permit (R69). -/
theorem changeJoin_removedBehind {s : State} {n m : Nat} {rest : List Nat} (hs : s.Steady) (hc : s.SignalsCurrent)
    (he : s.claims.join.entries = m :: rest) (hm : m ≠ n) :
    (s.changeJoin (removeNumber n)).finish = .next { s with
      claims := { s.claims with join := { s.claims.join with entries := m :: rest.filter (fun x => x != n) } } } := by
  have removed : removeNumber n s.claims.join.entries = m :: rest.filter (fun x => x != n) := by
    rw [he, removeNumber, List.filter_cons_of_pos (by simpa using hm)]
  rw [changeJoin_of_sameHead hc (by rw [removed, he]; rfl), removed]
  exact finish_of_steady (hs.setClaims _ s.conn s.link (by simp [he]))

/-- Settles O45: the frame is a change of the list, and the cases are those of its head. -/
theorem peerJoinFramesKeepTheList : Obligations.PeerJoinFramesKeepTheList := by
  intro s sender result hs hc hears hp
  dsimp only
  have steady := heard_steady hs
  have current := heard_signalsCurrent hc
  have peer := ne_ownNumber_of_peer hp
  rw [exec_joinClaimArrival_of_peer hears hp, exec_joinDoneArrival_of_peer result hears hp]
  refine ⟨fun hn => changeJoin_appended steady current hn peer,
    fun hn => changeJoin_unchanged steady current (appendAbsent_of_present hn),
    fun hn => changeJoin_unchanged steady current (removeNumber_of_absent hn),
    fun m rest he hm => changeJoin_removedBehind steady current he hm, fun he => ?_, fun m rest he hn hm => ?_,
    fun rest he hn ho hw hroom => ?_⟩
  · have heads : s.heard.PeerHeads sender.toNat [] := ⟨he, List.not_mem_nil, peer⟩
    exact heads.emptied steady current
  · have heads : s.heard.PeerHeads sender.toNat (m :: rest) := ⟨he, hn, peer⟩
    exact heads.passed steady current hm
  · have heads : s.heard.PeerHeads sender.toNat (s.ownNumber :: rest) :=
      ⟨he, fun hm => (List.mem_cons.mp hm).elim peer hn, peer⟩
    exact heads.passedWaiting steady current ho hw hroom

end Sys2Proof.Machine

namespace Sys2Proof.Machine

open Sys2Proof

/-! ### The heater list and the own slot (R69, R81, R82, R94) -/

/-- A number appended at the tail brings no other number among the first L. -/
theorem mem_take_append_iff {a n k : Nat} {l : List Nat} (h : n ≠ a) : a ∈ (l ++ [n]).take k ↔ a ∈ l.take k := by
  rw [List.take_append, List.mem_append]
  exact or_iff_left fun ha => h (List.mem_singleton.mp (List.mem_of_mem_take ha)).symm

/-- A number that stays among those removed around it stands no further back. -/
theorem mem_take_filter {a : Nat} {p : Nat → Bool} (hp : p a = true) {l : List Nat} {k : Nat} (h : a ∈ l.take k) :
    a ∈ (l.filter p).take k := by
  induction l generalizing k with
  | nil => exact h
  | cons x xs ih =>
    cases k with
    | zero => exact absurd h List.not_mem_nil
    | succ k =>
      by_cases hx : p x = true
      · rw [List.filter_cons_of_pos hx, List.take_succ_cons]
        rcases List.mem_cons.mp h with rfl | h
        · exact List.mem_cons_self
        · exact List.mem_cons_of_mem _ (ih h)
      · rw [List.filter_cons_of_neg hx]
        rcases List.mem_cons.mp h with rfl | h
        · exact absurd hp hx
        · exact (List.take_subset_take_left _ k.le_succ) (ih h)

theorem slotNow_iff (s : State) :
    s.slotNow = true ↔ s.ownNumber ∈ s.claims.heat.entries.take s.claims.limit ∧ s.claims.heat.own = .listed := by
  simp [State.slotNow]

/-- A list that leaves the own entry's standing among the first L leaves the slot (R81). -/
theorem slotNow_of_standing {s : State} {l : List Nat}
    (h : s.claims.heat.own = .listed →
      (s.ownNumber ∈ l.take s.claims.limit ↔ s.ownNumber ∈ s.claims.heat.entries.take s.claims.limit)) :
    (s.setHeatEntries l).slotNow = s.slotNow := by
  rw [Bool.eq_iff_iff, slotNow_iff, slotNow_iff]
  exact ⟨fun ⟨hm, ho⟩ => ⟨(h ho).mp hm, ho⟩, fun ⟨hm, ho⟩ => ⟨(h ho).mpr hm, ho⟩⟩

/-- No rotation is due without the slot, without the hold time served, or with a list within L (R82). -/
theorem rotationDue_eq_false {s : State}
    (h : s.claims.slotHeld = false ∨ s.claims.hold ≠ .served ∨ s.claims.heat.entries.length ≤ s.claims.limit) :
    s.rotationDue = false := by
  rcases h with h | h | h <;> simp [State.rotationDue, h]

/-- A change of claims and heater outputs with the join list kept leaves a steady state steady. -/
theorem State.Steady.setHeater {s : State} (h : s.Steady) (c : ClaimUnit) (st : ThermalState) (heater valve : Bool) (l : Link)
    (hc : c.join.entries = s.claims.join.entries := by rfl) :
    State.Steady { s with
      claims := c
      thermal := { s.thermal with state := st, heater := heater, valve := valve }
      link := l } where
  permit := by
    rw [State.permitNow, hc]
    exact h.permit
  containerLevel := h.containerLevel
  pump1 := h.pump1
  pump2 := h.pump2
  chillerRun := h.chillerRun
  forced := h.forced
  noDue := h.noDue

/-- The list changes alone where the own entry's standing does, and no rotation is due. -/
theorem changeHeat_of_standing {s : State} {f : List Nat → List Nat} (hs : s.Steady) (hc : s.SignalsCurrent)
    (hl : s.claims.heat.own = .listed → (s.ownNumber ∈ (f s.claims.heat.entries).take s.claims.limit
      ↔ s.ownNumber ∈ s.claims.heat.entries.take s.claims.limit))
    (hr : (s.setHeatEntries (f s.claims.heat.entries)).rotationDue = false) :
    (s.changeHeat f).finish = .next (s.setHeatEntries (f s.claims.heat.entries)) := by
  rw [State.changeHeat, evalSlot_of_current ((slotNow_of_standing hl).trans hc.slot.symm) hr]
  exact finish_of_steady (hs.setClaims _ s.conn s.link)

/-- The slot given up by a rotation: HEAT_RELEASE queued, HEATING left, and the hold timer stopped (R82, R94). -/
theorem evalSlot_of_rotation {s : State} (hnow : s.slotNow = true) (hheld : s.claims.slotHeld = true)
    (hserved : s.claims.hold = .served) (hlong : s.claims.limit < s.claims.heat.entries.length)
    (hheating : s.thermal.state = .heating) (hroom : s.Room) :
    s.evalSlot = State.queued { s with
      claims := { s.claims with
        heat := { s.claims.heat with own := .releaseQueued s.thermal.demand }
        slotHeld := false
        hold := .stopped }
      thermal := { s.thermal with state := .heatWait, heater := false, valve := false } } heatReleaseFrame := by
  have signalled : s.slotSignal = s := if_pos (hnow.trans hheld.symm)
  have due : s.rotationDue = true := by simp [State.rotationDue, hheld, hserved, hlong]
  have rotated : s.rotate = (s.setHeatOwn (.releaseQueued s.thermal.demand)).queued heatReleaseFrame := enqueue_of_room hroom
  have lost : s.rotate.slotNow = false := by
    rw [rotated]
    exact Bool.and_false _
  have held : s.rotate.claims.slotHeld = true := by
    rw [rotated]
    exact hheld
  have heating : s.rotate.thermal.state = .heating := by
    rw [rotated]
    exact hheating
  rw [State.evalSlot, signalled, if_pos due, State.slotSignal, lost, held, if_neg (by decide), if_neg (by decide)]
  dsimp only
  rw [if_pos heating, rotated]
  rfl

/-- The slot gained: the hold timer starts, and HEAT_WAIT becomes HEATING (R81, R82, R94). -/
theorem evalSlot_of_gain {s : State} {c : ConfigSet} (hconfig : s.svc.config = some c) (hnow : s.slotNow = true)
    (hheld : s.claims.slotHeld = false) :
    s.evalSlot =
      let t : State := { s with claims := { s.claims with slotHeld := true, hold := .running (c.heatHold * 60000) } }
      if s.thermal.state = .heatWait then t.setThermal .heating else t := by
  have signalled : s.slotSignal =
      let t : State := { s with claims := { s.claims with slotHeld := true, hold := .running (c.heatHold * 60000) } }
      if s.thermal.state = .heatWait then t.setThermal .heating else t := by
    rw [State.slotSignal, hnow, hheld, if_neg (by decide), if_pos rfl, hconfig]
  have running : s.slotSignal.claims.hold = .running (c.heatHold * 60000) := by
    rw [signalled]
    dsimp only
    split <;> rfl
  rw [State.evalSlot, if_neg (by simp [State.rotationDue, running]), signalled]

/-! ### The heater frames of a peer (R69) -/

theorem exec_heatClaimArrival_of_peer {s : State} {sender : BitVec 5} (h : s.Hears) (hp : s.isPeer sender.toNat = true) :
    exec (.heatClaimArrival sender []) s = (s.heard.changeHeat (appendAbsent sender.toNat)).finish := by
  change (s.receive _).finish = _
  rw [receive_of_hears _ h]
  exact congrArg State.finish (if_pos hp)

theorem exec_heatReleaseArrival_of_peer {s : State} {sender : BitVec 5} (h : s.Hears) (hp : s.isPeer sender.toNat = true) :
    exec (.heatReleaseArrival sender []) s = (s.heard.changeHeat (removeNumber sender.toNat)).finish := by
  change (s.receive _).finish = _
  rw [receive_of_hears _ h]
  exact congrArg State.finish (if_pos hp)

theorem changeHeat_appended {s : State} {n : Nat} (hs : s.Steady) (hc : s.SignalsCurrent) (hp : n ≠ s.ownNumber)
    (hn : n ∉ s.claims.heat.entries) (hr : s.claims.slotHeld = false ∨ s.claims.hold ≠ .served) :
    (s.changeHeat (appendAbsent n)).finish = .next (s.setHeatEntries (s.claims.heat.entries ++ [n])) := by
  rw [← appendAbsent_of_absent hn]
  refine changeHeat_of_standing hs hc (fun _ => ?_) (rotationDue_eq_false (hr.imp_right .inl))
  rw [appendAbsent_of_absent hn]
  exact mem_take_append_iff hp

/-- A claim behind a full list, with the hold time served, rotates the own entry (R82). -/
theorem changeHeat_rotated {s : State} {n : Nat} (hs : s.Steady) (hc : s.SignalsCurrent) (hp : n ≠ s.ownNumber)
    (hn : n ∉ s.claims.heat.entries) (hheld : s.claims.slotHeld = true) (hserved : s.claims.hold = .served)
    (hfull : s.claims.limit ≤ s.claims.heat.entries.length) (hheating : s.thermal.state = .heating) (hroom : s.Room) :
    (s.changeHeat (appendAbsent n)).finish = .next (State.queued { s with
      claims := { s.claims with
        heat := { s.claims.heat with entries := s.claims.heat.entries ++ [n], own := .releaseQueued s.thermal.demand }
        slotHeld := false
        hold := .stopped }
      thermal := { s.thermal with state := .heatWait, heater := false, valve := false } } heatReleaseFrame) := by
  have stands : (s.setHeatEntries (s.claims.heat.entries ++ [n])).slotNow = s.slotNow :=
    slotNow_of_standing fun _ => mem_take_append_iff hp
  have long : s.claims.limit < (s.claims.heat.entries ++ [n]).length := by
    rw [List.length_append]
    exact Nat.lt_succ_of_le hfull
  have rotated := evalSlot_of_rotation (s := s.setHeatEntries (s.claims.heat.entries ++ [n])) (stands.trans (hc.slot ▸ hheld)) hheld
    hserved long hheating hroom
  rw [State.changeHeat, appendAbsent_of_absent hn, rotated]
  exact finish_of_steady (hs.setHeater _ _ _ _ _)

/-- A list that stays as it was, with no rotation due, changes nothing. -/
theorem changeHeat_unchanged {s : State} {f : List Nat → List Nat} (hs : s.Steady) (hc : s.SignalsCurrent)
    (h : f s.claims.heat.entries = s.claims.heat.entries) (hr : s.rotationDue = false) : (s.changeHeat f).finish = .next s := by
  have same : s.setHeatEntries (f s.claims.heat.entries) = s := by rw [h]; rfl
  exact (changeHeat_of_standing hs hc (fun _ => by rw [h]) (by rw [same]; exact hr)).trans (by rw [same])

/-- The own entry LISTED keeps its standing behind a removal where it held its slot before, or is still behind position L. -/
theorem standing_of_removal {s : State} {n : Nat} (hp : n ≠ s.ownNumber)
    (h : s.slotNow = true ∨ s.ownNumber ∉ (removeNumber n s.claims.heat.entries).take s.claims.limit) :
    s.ownNumber ∈ (removeNumber n s.claims.heat.entries).take s.claims.limit
      ↔ s.ownNumber ∈ s.claims.heat.entries.take s.claims.limit := by
  have forward : s.ownNumber ∈ s.claims.heat.entries.take s.claims.limit →
      s.ownNumber ∈ (removeNumber n s.claims.heat.entries).take s.claims.limit := mem_take_filter (by simpa using hp.symm)
  refine ⟨fun hm => ?_, forward⟩
  rcases h with h | h
  · exact ((slotNow_iff s).mp h).1
  · exact absurd hm h

theorem changeHeat_removedUnlisted {s : State} {n : Nat} (hs : s.Steady) (hc : s.SignalsCurrent)
    (ho : s.claims.heat.own ≠ .listed) :
    (s.changeHeat (removeNumber n)).finish = .next (s.setHeatEntries (removeNumber n s.claims.heat.entries)) := by
  have free : s.claims.slotHeld = false := hc.slot.trans (by simp [State.slotNow, ho])
  exact changeHeat_of_standing hs hc (fun hl => absurd hl ho) (rotationDue_eq_false (.inl free))

theorem changeHeat_removedStanding {s : State} {n : Nat} (hs : s.Steady) (hc : s.SignalsCurrent) (hp : n ≠ s.ownNumber)
    (h : s.claims.slotHeld = true
        ∧ (s.claims.hold ≠ .served ∨ (removeNumber n s.claims.heat.entries).length ≤ s.claims.limit)
      ∨ s.ownNumber ∉ (removeNumber n s.claims.heat.entries).take s.claims.limit) :
    (s.changeHeat (removeNumber n)).finish = .next (s.setHeatEntries (removeNumber n s.claims.heat.entries)) := by
  have stands := standing_of_removal hp (h.imp_left fun hh => hc.slot ▸ hh.1)
  refine changeHeat_of_standing hs hc (fun _ => stands) (rotationDue_eq_false ?_)
  rcases h with ⟨-, hr⟩ | hbehind
  · exact .inr hr
  · refine .inl (hc.slot.trans (Bool.eq_false_iff.mpr fun hn => ?_))
    exact hbehind (stands.mpr ((slotNow_iff s).mp hn).1)

/-- Settles O46: the frame is a change of the list, and the cases are those of the own slot behind it. -/
theorem peerHeatFramesKeepTheList : Obligations.PeerHeatFramesKeepTheList := by
  intro s sender hs hc hears hp
  dsimp only
  have steady := heard_steady hs
  have current := heard_signalsCurrent hc
  have peer := ne_ownNumber_of_peer hp
  rw [exec_heatClaimArrival_of_peer hears hp, exec_heatReleaseArrival_of_peer hears hp]
  refine ⟨fun hn hr => changeHeat_appended steady current peer hn hr,
    fun hn hheld hserved hfull hheating hroom => changeHeat_rotated steady current peer hn hheld hserved hfull hheating hroom,
    fun hn hr => changeHeat_unchanged steady current (appendAbsent_of_present hn) hr,
    fun ho => changeHeat_removedUnlisted steady current ho, fun _ h => changeHeat_removedStanding steady current peer h,
    fun c hconfig ho hheld hm => ?_⟩
  have gained := evalSlot_of_gain (s := s.heard.setHeatEntries (removeNumber sender.toNat s.claims.heat.entries)) hconfig
    ((slotNow_iff _).mpr ⟨hm, ho⟩) hheld
  refine ⟨fun hw => ?_, fun hw => ?_⟩
  · rw [State.changeHeat]
    refine (congrArg State.finish (gained.trans (if_pos hw))).trans ?_
    exact finish_of_steady (steady.setHeater _ _ _ _ _)
  · rw [State.changeHeat]
    refine (congrArg State.finish (gained.trans (if_neg hw))).trans ?_
    exact finish_of_steady (steady.setClaims _ s.conn _)

end Sys2Proof.Machine

namespace Sys2Proof.Machine

open Sys2Proof

/-! ### The hold timer (R82) -/

theorem holdExpires_of_running {s : State} {ms : Nat} (h : s.claims.hold = .running ms) :
    s.holdExpires = State.evalSlot { s with claims := { s.claims with hold := .served } } := by
  rw [State.holdExpires, h]

theorem exec_holdTimerExpiry_of_short {s : State} {ms : Nat} (hs : s.Steady) (hc : s.SignalsCurrent)
    (h : s.claims.hold = .running ms) (hshort : s.claims.heat.entries.length ≤ s.claims.limit) :
    exec .holdTimerExpiry s = .next { s with claims := { s.claims with hold := .served } } := by
  have kept : State.evalSlot { s with claims := { s.claims with hold := .served } } = _ :=
    evalSlot_of_current hc.slot.symm (rotationDue_eq_false (.inr (.inr hshort)))
  exact (congrArg State.finish ((holdExpires_of_running h).trans kept)).trans (finish_of_steady (hs.setClaims _ s.conn s.link))

theorem exec_holdTimerExpiry_of_long {s : State} {ms : Nat} (hs : s.Steady) (hc : s.SignalsCurrent)
    (h : s.claims.hold = .running ms) (hlong : s.claims.limit < s.claims.heat.entries.length) (hheld : s.claims.slotHeld = true)
    (hheating : s.thermal.state = .heating) (hroom : s.Room) :
    exec .holdTimerExpiry s = .next (State.queued { s with
      claims := { s.claims with
        heat := { s.claims.heat with own := .releaseQueued s.thermal.demand }
        slotHeld := false
        hold := .stopped }
      thermal := { s.thermal with state := .heatWait, heater := false, valve := false } } heatReleaseFrame) := by
  have rotated := evalSlot_of_rotation (s := { s with claims := { s.claims with hold := .served } }) (hc.slot ▸ hheld) hheld rfl
    hlong hheating hroom
  exact (congrArg State.finish ((holdExpires_of_running h).trans rotated)).trans (finish_of_steady (hs.setHeater _ _ _ _ _))

theorem exec_holdTimerExpiry_of_idle {s : State} (hs : s.Steady) (h : s.claims.hold = .stopped ∨ s.claims.hold = .served) :
    exec .holdTimerExpiry s = .next s := by
  have idle : s.holdExpires = s := by rcases h with h | h <;> rw [State.holdExpires, h]
  exact (congrArg State.finish idle).trans (finish_of_steady hs)

/-! ### The head timer (R78) -/

/-- The head timer stopped. -/
def State.headStopped (s : State) : State := { s with claims := { s.claims with headTimer := none } }

theorem State.Steady.headStopped {s : State} (h : s.Steady) : s.headStopped.Steady := h.setClaims _ s.conn s.link

theorem State.SignalsCurrent.headStopped {s : State} (h : s.SignalsCurrent) : s.headStopped.SignalsCurrent := h.of_read rfl

theorem exec_headTimerExpiry_of_stopped {s : State} (hs : s.Steady) (h : s.claims.headTimer = none) :
    exec .headTimerExpiry s = .next s := by
  have idle : s.headExpires = s := by rw [State.headExpires, h]
  exact (congrArg State.finish idle).trans (finish_of_steady hs)

/-- The running timer takes what the head is: a peer is removed, the own number LISTED gives up. -/
theorem exec_headTimerExpiry_of_head {s : State} {n : Nat} (ht : s.claims.headTimer ≠ none)
    (hh : s.claims.join.entries.head? = some n) :
    exec .headTimerExpiry s =
      (if n = s.ownNumber then (if s.claims.join.own = .listed then s.headStopped.joinReleaseByOther true else s.headStopped)
        else s.headStopped.changeJoin (removeNumber n)).finish := by
  obtain ⟨ms, hms⟩ := Option.ne_none_iff_exists'.mp ht
  change s.headExpires.finish = _
  rw [State.headExpires, hms, hh]
  rfl

theorem State.PeerHeads.headStopped {s : State} {n : Nat} {tail : List Nat} (h : s.PeerHeads n tail) :
    s.headStopped.PeerHeads n tail := ⟨h.entries, h.once, h.peer⟩

theorem State.PeerHeads.exec_headTimerExpiry {s : State} {n : Nat} {tail : List Nat} (h : s.PeerHeads n tail)
    (ht : s.claims.headTimer ≠ none) : exec .headTimerExpiry s = (s.headStopped.changeJoin (removeNumber n)).finish := by
  rw [exec_headTimerExpiry_of_head ht (by rw [h.entries, List.head?_cons]), if_neg h.peer]

theorem exec_headTimerExpiry_of_released {s : State} (hs : s.Steady) (ht : s.claims.headTimer ≠ none)
    (hh : s.claims.join.entries.head? = some s.ownNumber) (ho : s.claims.join.own ≠ .listed) :
    exec .headTimerExpiry s = .next s.headStopped := by
  rw [exec_headTimerExpiry_of_head ht hh, if_pos rfl, if_neg ho]
  exact finish_of_steady hs.headStopped

/-! ### The own number gives up (R78, R131, R135 to R137) -/

/-- JOIN_DONE FAILED queued by the claim unit itself, the token as signalled (R72). -/
def State.givenUp (s : State) : State :=
  State.queued { s with claims := { s.claims with
    join := { s.claims.join with own := .releaseQueued false }
    doneResult := .failed } } (joinDoneFrame .failed)

theorem joinRelease_of_listed {s : State} (ho : s.claims.join.own = .listed) (hroom : s.Room) :
    s.joinRelease .failed = s.givenUp := by
  rw [State.joinRelease, ho]
  exact queueJoinDone_of_room .failed hroom

theorem givenUp_tokenNow (s : State) : s.givenUp.tokenNow = false := Bool.and_false _

/-- Without the token as it stands, the signal takes it. -/
theorem syncToken_of_free {s : State} (h : s.tokenNow = false) :
    s.syncToken = { s with claims := { s.claims with tokenHeld := false } } := by
  rw [State.syncToken, h]

/-- A precharge failure with the negative contact still closed opens and waits, behind a claim that is given up already (R137,
R138). -/
theorem prechargeFailure_of_closed {s : State} (hr : s.svc.restart = .none) (ha : s.lines.auxNeg = true)
    (ho : s.claims.join.own = .releaseQueued false) :
    s.prechargeFailure = State.syncToken { s with conn := { s.conn with
      state := .opening
      negDrive := false
      preDrive := false
      posDrive := false
      prechTimer := none
      leaveTimer := none
      window := some .opening
      prechFail := true
      failCount := s.conn.failCount + 1
      failHold := some 60000
      dest := some (if s.conn.failCount + 1 = 3 then .lockout else .openRack) } } := by
  have released : ∀ t : State, t.claims.join.own = .releaseQueued false → t.seqRelease .failed = t.syncToken := fun t ht => by
    have same : t.joinRelease .failed = t := by
      rw [State.joinRelease, ht]
      change t.setJoinOwn (.releaseQueued false) = t
      rw [← ht]
      rfl
    rw [State.seqRelease, same]
  rw [State.prechargeFailure, State.enterOpening]
  dsimp only
  rw [setConn_of_none .opening (by exact hr), if_neg (by simp [State.windowMet, ha])]
  exact released _ ho

/-- In PRECHARGE and CLOSING the give-up is a precharge failure (R135, R136). -/
theorem joinReleaseByOther_of_working {s : State} (hheld : s.claims.tokenHeld = true) (ho : s.claims.join.own = .listed)
    (hw : s.conn.state = .precharge ∨ s.conn.state = .closing) (hr : s.svc.restart = .none) (ha : s.lines.auxNeg = true)
    (hroom : s.Room) : s.joinReleaseByOther true = s.openedByFailure := by
  have working : s.givenUp.conn.state = .precharge ∨ s.givenUp.conn.state = .closing := hw
  have idle : s.givenUp.conn.state ≠ .waitToken := fun hs => by rcases working with hw | hw <;> rw [hw] at hs <;> cases hs
  have failed : s.givenUp.syncToken.prechargeFailure = s.openedByFailure := by
    rw [prechargeFailure_of_closed (s := s.givenUp.syncToken) hr ha rfl]
    exact syncToken_of_free (Bool.and_false _)
  rw [State.joinReleaseByOther, joinRelease_of_listed ho hroom, if_neg idle, if_pos ⟨hheld, givenUp_tokenNow s⟩,
    State.tokenLost, if_pos (by exact working), if_pos rfl, failed]

/-- An opening from PRECHARGE or CLOSING leaves a steady state steady. -/
theorem openedByFailure_steady {s : State} (h : s.Steady) (hw : s.conn.state = .precharge ∨ s.conn.state = .closing) :
    s.openedByFailure.Steady :=
  h.setClaims _ _ _ (hw := by rcases hw with hw | hw <;> rw [hw] <;> rfl) (hf := fun _ => rfl)

theorem exec_headTimerExpiry_working {s : State} (hs : s.Steady) (hc : s.SignalsCurrent) (ht : s.claims.headTimer ≠ none)
    (hh : s.claims.join.entries.head? = some s.ownNumber) (ho : s.claims.join.own = .listed) (hroom : s.Room)
    (hr : s.svc.restart = .none) (hw : s.conn.state = .precharge ∨ s.conn.state = .closing) (ha : s.lines.auxNeg = true) :
    exec .headTimerExpiry s = .next s.headStopped.openedByFailure := by
  rw [exec_headTimerExpiry_of_head ht hh, if_pos rfl, if_pos ho,
    joinReleaseByOther_of_working (s := s.headStopped) (hc.joining hw) ho hw hr ha hroom]
  exact finish_of_steady (openedByFailure_steady hs.headStopped hw)

/-- In WAIT_TOKEN the give-up is a return to OPEN (R131). -/
theorem joinReleaseByOther_of_waiting {s : State} (g : Bool) (ho : s.claims.join.own = .listed) (hw : s.conn.state = .waitToken)
    (hr : s.svc.restart = .none) (hroom : s.Room) :
    s.joinReleaseByOther g = { s.givenUp.abandonCheck with
      claims := { s.givenUp.claims with tokenHeld := false }
      conn := { s.conn with state := .openRack, check := .none } } := by
  have waiting : s.givenUp.conn.state = .waitToken := hw
  rw [State.joinReleaseByOther, joinRelease_of_listed ho hroom, if_pos waiting, if_neg (by exact Bool.false_ne_true),
    State.leaveWaitToken, setConn_of_none .openRack (by exact hr)]
  exact syncToken_of_free (Bool.and_false _)

theorem exec_headTimerExpiry_waiting {s : State} (hs : s.Steady) (ht : s.claims.headTimer ≠ none)
    (hh : s.claims.join.entries.head? = some s.ownNumber) (ho : s.claims.join.own = .listed) (hroom : s.Room)
    (hr : s.svc.restart = .none) (hw : s.conn.state = .waitToken) :
    ∃ t, exec .headTimerExpiry s = .next t
      ∧ t.conn = { s.conn with state := .openRack, check := .none }
      ∧ t.claims = { s.claims with
        join := { s.claims.join with own := .releaseQueued false }
        doneResult := .failed, tokenHeld := false, headTimer := none }
      ∧ joinDoneFrame .failed ∈ t.link.queue
      ∧ t.fire = s.fire ∧ t.thermal = s.thermal ∧ t.grid = s.grid ∧ t.svc = s.svc ∧ t.peers = s.peers := by
  have queued : joinDoneFrame .failed ∈ s.headStopped.givenUp.abandonCheck.link.queue :=
    mem_retag_of_plain (mem_insertByClass.mpr (.inl rfl)) rfl nofun
  rw [exec_headTimerExpiry_of_head ht hh, if_pos rfl, if_pos ho,
    joinReleaseByOther_of_waiting (s := s.headStopped) true ho hw hr hroom]
  refine ⟨_, finish_of_steady ?_, rfl, rfl, queued, rfl, rfl, rfl, rfl, rfl⟩
  exact hs.setClaims _ _ _ (hw := by rw [hw]; rfl) (hf := fun _ => rfl)

/-- Settles O47: the hold timer's cases are those of the heater list's length, the head timer's those of the head and, where the
own number gives up, of the connection state. -/
theorem claimTimersExpire : Obligations.ClaimTimersExpire := by
  intro s hs hc
  have steady := hs.headStopped
  have current := hc.headStopped
  refine ⟨⟨fun ms h hshort => exec_holdTimerExpiry_of_short hs hc h hshort,
    fun ms h hlong hheld hheating hroom => exec_holdTimerExpiry_of_long hs hc h hlong hheld hheating hroom,
    exec_holdTimerExpiry_of_idle hs⟩, exec_headTimerExpiry_of_stopped hs, fun ht => ⟨fun n he hn => ?_,
    fun n m rest he hn hp hm => ?_, fun n rest he hn => ?_, exec_headTimerExpiry_of_released hs ht,
    fun hh ho hroom hr => ⟨exec_headTimerExpiry_working hs hc ht hh ho hroom hr,
      exec_headTimerExpiry_waiting hs ht hh ho hroom hr⟩⟩⟩
  · have heads : s.PeerHeads n [] := ⟨he, List.not_mem_nil, hn⟩
    rw [heads.exec_headTimerExpiry ht]
    exact heads.headStopped.emptied steady current
  · have heads : s.PeerHeads n (m :: rest) := ⟨he, hn, hp⟩
    rw [heads.exec_headTimerExpiry ht]
    exact heads.headStopped.passed steady current hm
  · have heads : s.PeerHeads n (s.ownNumber :: rest) := ⟨he, hn, fun h => hn (h ▸ List.mem_cons_self)⟩
    have stopped : s.headStopped.PeerHeads n (s.headStopped.ownNumber :: rest) := heads.headStopped
    rw [heads.exec_headTimerExpiry ht]
    exact ⟨stopped.passedUnlisted steady current, stopped.passedListed steady current, stopped.passedWaiting steady current⟩

end Sys2Proof.Machine

namespace Sys2Proof.Machine

open Sys2Proof

/-! ### The thermal table and its parts (R87 to R90, R98, R99) -/

/-- HEAT_WAIT and HEATING taken as one: between them the slot alone decides (R94). -/
def stage : ThermalState → ThermalState
  | .heating => .heatWait
  | .heatWait => .heatWait
  | .idle => .idle
  | .cooling => .cooling
  | .inhibited => .inhibited

theorem stage_eq_idle {st : ThermalState} : stage st = .idle ↔ st = .idle := by cases st <;> simp [stage]

theorem stage_eq_cooling {st : ThermalState} : stage st = .cooling ↔ st = .cooling := by cases st <;> simp [stage]

theorem stage_eq_inhibited {st : ThermalState} : stage st = .inhibited ↔ st = .inhibited := by cases st <;> simp [stage]

theorem stage_eq_heatWait {st : ThermalState} : stage st = .heatWait ↔ st = .heatWait ∨ st = .heating := by
  cases st <;> simp [stage]

/-- Heater and valve follow the state, demand stands in HEAT_WAIT and HEATING, HEATING alone under the slot as signalled, and an own
heater claim that is not given up has its demand (R87, R94). -/
structure State.HeaterCore (s : State) : Prop where
  heater : s.thermal.heater = (s.thermal.state == .heating)
  valve : s.thermal.valve = (s.thermal.state == .cooling || s.thermal.state == .inhibited)
  demand : s.thermal.demand = true ↔ s.thermal.state = .heatWait ∨ s.thermal.state = .heating
  slot : s.thermal.state = .heating → s.claims.slotHeld = true
  noSlot : s.thermal.state = .heatWait → s.claims.slotHeld = false
  claim : s.claims.heat.own.released ≠ s.claims.heat.own → s.thermal.demand = true

/-- The heat-soak and the recovery timer run under the flag and the conditions as last judged (R98, R99). -/
structure State.TimersRun (s : State) : Prop where
  soakTimer : s.thermal.soakTimer.isSome = (!s.thermal.degraded && s.thermal.soakCond)
  recoveryTimer : s.thermal.recoveryTimer.isSome = (s.thermal.degraded && s.thermal.recoveryCond)

/-- The part of the table that the heater's slot and its claim decide. -/
structure State.HeaterReady (s : State) : Prop where
  core : s.HeaterCore
  timers : s.TimersRun
  slot : s.SlotCurrent

/-- The own level fits the state but for INHIBITED, LOADING is IDLE, and the scanning modes have a configuration set (R87, R102). -/
structure State.StageFits (s : State) : Prop where
  loading : s.svc.mode = .loading → stage s.thermal.state = .idle
  cooling : stage s.thermal.state = .cooling → 1 ≤ s.thermal.level ∧ s.thermal.level ≤ 3
  others : stage s.thermal.state = .idle ∨ stage s.thermal.state = .heatWait → s.thermal.level = 0
  configSet : s.svc.config.isSome = scanningMode s.svc.mode

/-- The table but for the inhibit: what holds ahead of every review of the thermal controller. -/
structure State.HeaterSound (s : State) : Prop where
  ready : s.HeaterReady
  fits : s.StageFits

/-- INHIBITED is held exactly under the inhibit, at its level (R87, R89). -/
structure State.InhibitStands (s : State) : Prop where
  inhibited : s.svc.mode ≠ .loading → (stage s.thermal.state = .inhibited ↔ s.thermalInhibit = true)
  level : stage s.thermal.state = .inhibited → s.thermal.level = s.inhibitLevel

/-- A claim that is given up neither stands in the list nor is on its way there (R72). -/
theorem released_ne_iff {o : OwnClaim} :
    o.released ≠ o ↔ o = .claimQueued false ∨ o = .listed ∨ o = .releaseQueued true := by
  cases o with
  | claimQueued mark => cases mark <;> simp [OwnClaim.released]
  | releaseQueued mark => cases mark <;> simp [OwnClaim.released]
  | _ => simp [OwnClaim.released]

theorem thermalTable_iff {s : State} : s.ThermalTable ↔ s.HeaterSound ∧ s.InhibitStands := by
  constructor
  · intro h
    have core : s.HeaterCore := ⟨h.heater, h.valve, h.demand, h.slot, h.noSlot, fun ho => h.claim (released_ne_iff.mp ho)⟩
    have fits : s.StageFits := ⟨fun hm => stage_eq_idle.mpr (h.loading hm), fun hst => h.cooling (stage_eq_cooling.mp hst),
      fun hst => h.others (hst.imp stage_eq_idle.mp stage_eq_heatWait.mp), h.configSet⟩
    exact ⟨⟨⟨core, ⟨h.soakTimer, h.recoveryTimer⟩, h.slotCurrent⟩, fits⟩,
      fun hm => stage_eq_inhibited.trans (h.inhibited hm), fun hst => h.inhibitedLevel (stage_eq_inhibited.mp hst)⟩
  · rintro ⟨⟨⟨core, timers, slot⟩, fits⟩, inhibited, level⟩
    exact {
      heater := core.heater
      valve := core.valve
      inhibited := fun hm => stage_eq_inhibited.symm.trans (inhibited hm)
      loading := fun hm => stage_eq_idle.mp (fits.loading hm)
      inhibitedLevel := fun hst => level (stage_eq_inhibited.mpr hst)
      cooling := fun hst => fits.cooling (stage_eq_cooling.mpr hst)
      others := fun hst => fits.others (hst.imp stage_eq_idle.mpr stage_eq_heatWait.mpr)
      demand := core.demand
      slot := core.slot
      noSlot := core.noSlot
      soakTimer := timers.soakTimer
      recoveryTimer := timers.recoveryTimer
      slotCurrent := slot
      claim := fun ho => core.claim (released_ne_iff.mpr ho)
      configSet := fits.configSet }

/-! What the parts read of a state. -/

def State.coreRead (s : State) : (ThermalState × Bool × Bool × Bool) × Bool × Bool :=
  ((s.thermal.state, s.thermal.demand, s.thermal.heater, s.thermal.valve), s.claims.slotHeld,
    s.claims.heat.own.released == s.claims.heat.own)

def State.timersRead (s : State) : Bool × Bool × Bool × Timer × Timer :=
  (s.thermal.degraded, s.thermal.soakCond, s.thermal.recoveryCond, s.thermal.soakTimer, s.thermal.recoveryTimer)

def State.stageRead (s : State) : ThermalState × Nat × Option ConfigSet × Mode :=
  (stage s.thermal.state, s.thermal.level, s.svc.config, s.svc.mode)

def State.inhibitRead (s : State) : Mode × Bool × Bool := (s.svc.mode, fireAlarmed s.fire.state, s.peers.containerFire)

/-- All of it: the slot as judged and as signalled, the heater, the timers, the stage, and the causes of the inhibit. -/
def State.tableRead (s : State) : (List Nat × Bool × Nat × Bool × StrapPins) × ((ThermalState × Bool × Bool × Bool) × Bool × Bool)
    × (Bool × Bool × Bool × Timer × Timer) × (ThermalState × Nat × Option ConfigSet × Mode) × Mode × Bool × Bool :=
  (s.slotRead, s.coreRead, s.timersRead, s.stageRead, s.inhibitRead)

theorem State.HeaterCore.of_read {s t : State} (h : s.HeaterCore) (hr : t.coreRead = s.coreRead) : t.HeaterCore := by
  simp only [coreRead, Prod.mk.injEq] at hr
  obtain ⟨⟨hstate, hdemand, hheater, hvalve⟩, hheld, hclaim⟩ := hr
  exact {
    heater := by rw [hheater, hstate, h.heater]
    valve := by rw [hvalve, hstate, h.valve]
    demand := by rw [hdemand, hstate, h.demand]
    slot := by rw [hstate, hheld]; exact h.slot
    noSlot := by rw [hstate, hheld]; exact h.noSlot
    claim := fun ho => by
      rw [hdemand]
      exact h.claim (by simpa [hclaim] using beq_eq_false_iff_ne.mpr ho) }

theorem State.TimersRun.of_read {s t : State} (h : s.TimersRun) (hr : t.timersRead = s.timersRead) : t.TimersRun := by
  simp only [timersRead, Prod.mk.injEq] at hr
  obtain ⟨hdegraded, hsoak, hrecovery, hsoakTimer, hrecoveryTimer⟩ := hr
  exact ⟨by rw [hdegraded, hsoak, hsoakTimer, h.soakTimer], by rw [hdegraded, hrecovery, hrecoveryTimer, h.recoveryTimer]⟩

theorem State.StageFits.of_read {s t : State} (h : s.StageFits) (hr : t.stageRead = s.stageRead) : t.StageFits := by
  simp only [stageRead, Prod.mk.injEq] at hr
  obtain ⟨hstage, hlevel, hconfig, hmode⟩ := hr
  constructor
  · rw [hmode, hstage]; exact h.loading
  · rw [hstage, hlevel]; exact h.cooling
  · rw [hstage, hlevel]; exact h.others
  · rw [hconfig, hmode]; exact h.configSet

theorem State.HeaterReady.of_read {s t : State} (h : s.HeaterReady)
    (hr : (t.slotRead, t.coreRead, t.timersRead) = (s.slotRead, s.coreRead, s.timersRead)) : t.HeaterReady :=
  ⟨h.core.of_read (congrArg (·.2.1) hr), h.timers.of_read (congrArg (·.2.2) hr),
    State.SlotCurrent.of_read h.slot (congrArg Prod.fst hr)⟩

theorem thermalInhibit_of_read {s t : State} (hr : t.inhibitRead = s.inhibitRead) : t.thermalInhibit = s.thermalInhibit := by
  simp only [State.inhibitRead, Prod.mk.injEq] at hr
  obtain ⟨hmode, halarm, hflag⟩ := hr
  rw [State.thermalInhibit, hmode, halarm, hflag, ← State.thermalInhibit]

theorem inhibitLevel_of_read {s t : State} (hr : t.inhibitRead = s.inhibitRead) : t.inhibitLevel = s.inhibitLevel := by
  simp only [State.inhibitRead, Prod.mk.injEq] at hr
  obtain ⟨-, halarm, hflag⟩ := hr
  rw [State.inhibitLevel, halarm, hflag, ← State.inhibitLevel]

theorem State.InhibitStands.of_read {s t : State} (h : s.InhibitStands) (hstage : t.stageRead = s.stageRead)
    (hr : t.inhibitRead = s.inhibitRead) : t.InhibitStands := by
  have hmode : t.svc.mode = s.svc.mode := congrArg Prod.fst hr
  have hst : stage t.thermal.state = stage s.thermal.state := congrArg Prod.fst hstage
  have hlevel : t.thermal.level = s.thermal.level := congrArg (·.2.1) hstage
  constructor
  · rw [hmode, hst, thermalInhibit_of_read hr]; exact h.inhibited
  · rw [hst, hlevel, inhibitLevel_of_read hr]; exact h.level

/-- The operations on claims, queue, sequencer and heater leave the causes of the inhibit. -/
theorem inhibitRead_of_kept {s t : State} (h : s.KeepsProtection t) : t.inhibitRead = s.inhibitRead := by
  rw [State.inhibitRead, h.svc, h.fire, h.peers]
  rfl

/-- They leave the stage where they leave it and the level. -/
theorem stageRead_of_kept {s t : State} (h : s.KeepsProtection t) (hstage : stage t.thermal.state = stage s.thermal.state)
    (hlevel : t.thermal.level = s.thermal.level) : t.stageRead = s.stageRead := by
  rw [State.stageRead, hstage, hlevel, h.svc]
  rfl

/-! ### The table, operation by operation -/

/-- The two parts of the table, which the operations of every block keep. -/
structure State.KeepsTable (s t : State) : Prop where
  sound : s.HeaterSound → t.HeaterSound
  stands : s.HeaterSound → s.InhibitStands → t.InhibitStands

namespace State.KeepsTable

theorem refl (s : State) : s.KeepsTable s := ⟨id, fun _ => id⟩

theorem trans {s t u : State} (h : s.KeepsTable t) (k : t.KeepsTable u) : s.KeepsTable u :=
  ⟨k.sound ∘ h.sound, fun hs hi => k.stands (h.sound hs) (h.stands hs hi)⟩

theorem ite {s t u : State} {P : Prop} [Decidable P] (h : s.KeepsTable t) (k : s.KeepsTable u) :
    s.KeepsTable (if P then t else u) := by
  split
  · exact h
  · exact k

theorem table {s t : State} (h : s.KeepsTable t) (hs : s.ThermalTable) : t.ThermalTable := by
  obtain ⟨hsound, hstands⟩ := thermalTable_iff.mp hs
  exact thermalTable_iff.mpr ⟨h.sound hsound, h.stands hsound hstands⟩

/-- An operation of the heater that leaves the stage, the level and the causes of the inhibit. -/
theorem of_stage {s t : State} (ready : s.HeaterReady → t.HeaterReady) (hstage : t.stageRead = s.stageRead)
    (hinhibit : t.inhibitRead = s.inhibitRead) : s.KeepsTable t where
  sound := fun hs => ⟨ready hs.ready, hs.fits.of_read hstage⟩
  stands := fun _ hi => hi.of_read hstage hinhibit

/-- An operation that leaves all that the table reads. -/
theorem of_read {s t : State} (h : t.tableRead = s.tableRead) : s.KeepsTable t := by
  have hstage : t.stageRead = s.stageRead := congrArg (·.2.2.2.1) h
  have hinhibit : t.inhibitRead = s.inhibitRead := congrArg (·.2.2.2.2) h
  exact .of_stage (fun hr => hr.of_read (congrArg (fun x => (x.1, x.2.1, x.2.2.1)) h)) hstage hinhibit

/-- An operation behind a change of what the table does not read. -/
theorem after {s t u : State} (k : t.KeepsTable u) (h : t.tableRead = s.tableRead) : s.KeepsTable u := (of_read h).trans k

end State.KeepsTable

/-! ### The queue, the restart, the balance set -/

/-- A claim that is given up stays so at the loss of its frame, and one that is not stays owed (R73). -/
theorem ClaimList.lost_released (l : ClaimList) : (l.lost.own.released == l.lost.own) = (l.own.released == l.own) := by
  unfold ClaimList.lost
  split <;> simp_all [OwnClaim.released]

/-- What the queueing operations leave of the table, where they leave the slot's standing and the claim. -/
theorem tableRead_of_queueing {s t : State} (h : s.KeepsAllButQueueing t) (hslot : t.slotRead = s.slotRead)
    (hclaim : (t.claims.heat.own.released == t.claims.heat.own) = (s.claims.heat.own.released == s.claims.heat.own)) :
    t.tableRead = s.tableRead := by
  obtain ⟨x, hfire⟩ := h.fire
  obtain ⟨y, z, hsvc⟩ := h.svc
  rw [State.tableRead, hslot, State.coreRead, hclaim, State.timersRead, State.stageRead, State.inhibitRead, h.thermal, h.slotHeld,
    h.peers, hfire, hsvc]
  rfl

theorem reportLoss_tableRead (s : State) (e : Entry) : (s.reportLoss e).tableRead = s.tableRead := by
  refine tableRead_of_queueing (s.reportLoss_keeps e) (congrArg (·.2.1) (reportLoss_signalsRead s e)) ?_
  have due : s.dueRestart.claims = s.claims := by
    unfold State.dueRestart
    split <;> rfl
  unfold State.reportLoss
  split
  · split
    · rfl
    · exact ClaimList.lost_released _
  · split
    case h_2 => split <;> rfl
    all_goals rfl
  · split
    case h_1 => rw [due]
    all_goals rfl
  all_goals rfl

theorem enqueue_tableRead (s : State) (e : Entry) : (s.enqueue e).tableRead = s.tableRead := by
  unfold State.enqueue
  split
  · rfl
  · split
    · exact reportLoss_tableRead s.congest e
    · split <;> exact reportLoss_tableRead _ _

theorem State.enqueue_tableKept (s : State) (e : Entry) : s.KeepsTable (s.enqueue e) := .of_read (enqueue_tableRead s e)

theorem State.reply_tableKept (s : State) (kind : Byte) (result : ReplyResult) (data : List Byte) :
    s.KeepsTable (s.reply kind result data) := s.enqueue_tableKept _

theorem State.enqueueAnnounce_tableKept (s : State) : s.KeepsTable s.enqueueAnnounce :=
  .ite (.of_read rfl) (s.enqueue_tableKept _)

theorem State.cancelRestart_tableKept (s : State) : s.KeepsTable s.cancelRestart := .ite (.of_read rfl) (.refl s)

/-- A fire state on the same side of ALARM. -/
theorem State.setFire_tableKept {s : State} {st : FireState} (h : fireAlarmed st = fireAlarmed s.fire.state) :
    s.KeepsTable (s.setFire st) :=
  .after (State.cancelRestart_tableKept _)
    (congrArg (fun a => (s.slotRead, s.coreRead, s.timersRead, s.stageRead, s.svc.mode, a, s.peers.containerFire)) h)

theorem State.setMembers_tableKept (s : State) (m : List (Nat × Nat)) : s.KeepsTable (s.setMembers m) :=
  .ite (.refl s) (.of_read rfl)

theorem State.emptyBalance_tableKept (s : State) : s.KeepsTable s.emptyBalance := s.setMembers_tableKept []

/-! ### The own join claim and the sequencer -/

theorem State.joinClaim_tableKept (s : State) : s.KeepsTable s.joinClaim := by
  refine .ite ?_ (.refl s)
  split
  · exact .after (State.enqueue_tableKept _ _) rfl
  · exact .of_read rfl
  · exact .refl s
  · exact .of_read rfl

theorem State.joinRelease_tableKept (s : State) (r : JoinResult) : s.KeepsTable (s.joinRelease r) := by
  unfold State.joinRelease
  split
  case h_3 => exact .after (State.enqueue_tableKept _ _) rfl
  all_goals exact .of_read rfl

theorem State.seqRelease_tableKept (s : State) (r : JoinResult) : s.KeepsTable (s.seqRelease r) :=
  (s.joinRelease_tableKept r).trans (.of_read rfl)

theorem State.setConn_tableKept (s : State) (st : ConnState) : s.KeepsTable (s.setConn st) :=
  .after (State.cancelRestart_tableKept _) rfl

/-- A change of the sequencer with its state. -/
theorem State.KeepsTable.setConn (s : State) (x : Connection) (st : ConnState) :
    s.KeepsTable (({ s with conn := x } : State).setConn st) := .after (State.setConn_tableKept _ st) rfl

theorem State.leaveWaitToken_tableKept (s : State) (st : ConnState) : s.KeepsTable (s.leaveWaitToken st) :=
  .after (t := s.abandonCheck) (State.setConn_tableKept _ st) rfl

theorem State.enterWelded_tableKept (s : State) : s.KeepsTable s.enterWelded := .setConn s _ _

theorem State.finishOpening_tableKept (s : State) : s.KeepsTable s.finishOpening := .setConn s _ _

theorem State.enterOpening_tableKept (s : State) (d : ConnState) : s.KeepsTable (s.enterOpening d) :=
  .ite ((State.KeepsTable.setConn s _ _).trans (State.finishOpening_tableKept _)) (.setConn s _ _)

theorem State.forcedLeave_tableKept (s : State) : s.KeepsTable s.forcedLeave := by
  have opened : ∀ d, s.KeepsTable ((s.enterOpening d).seqRelease .failed) := fun d =>
    (s.enterOpening_tableKept d).trans (State.seqRelease_tableKept _ _)
  unfold State.forcedLeave
  split
  case h_1 | h_2 | h_3 | h_4 => exact opened _
  case h_5 => exact (s.leaveWaitToken_tableKept _).trans (State.seqRelease_tableKept _ _)
  all_goals exact .refl s

theorem State.reviewForced_tableKept (s : State) : s.KeepsTable s.reviewForced := .ite s.forcedLeave_tableKept (.refl s)

theorem State.prechargeFailure_tableKept (s : State) : s.KeepsTable s.prechargeFailure :=
  .after (t := { s with conn := { s.conn with prechFail := true, failCount := s.conn.failCount + 1, failHold := some 60000 } })
    ((State.enterOpening_tableKept _ _).trans (State.seqRelease_tableKept _ _)) rfl

theorem State.enterJoined_tableKept (s : State) : s.KeepsTable s.enterJoined :=
  (State.KeepsTable.setConn s _ _).trans (State.seqRelease_tableKept _ _)

theorem State.enterClosing_tableKept (s : State) : s.KeepsTable s.enterClosing :=
  .ite ((State.KeepsTable.setConn s _ _).trans (State.enterJoined_tableKept _)) (.setConn s _ _)

theorem State.enterPrecharge_tableKept (s : State) : s.KeepsTable s.enterPrecharge :=
  .ite ((State.KeepsTable.setConn s _ _).trans (.of_read rfl)) (.setConn s _ _)

theorem State.finishLeave_tableKept (s : State) : s.KeepsTable s.finishLeave := .setConn s _ _

theorem State.leaveStep3_tableKept (s : State) : s.KeepsTable s.leaveStep3 :=
  .ite (.after (State.finishLeave_tableKept _) rfl) (.of_read rfl)

theorem State.leaveStep2_tableKept (s : State) : s.KeepsTable s.leaveStep2 :=
  .ite (.after (State.leaveStep3_tableKept _) rfl) (.of_read rfl)

theorem State.enterLeaving_tableKept (s : State) (c : ConfigSet) : s.KeepsTable (s.enterLeaving c) :=
  .ite ((State.KeepsTable.setConn s _ _).trans (State.leaveStep2_tableKept _)) (.setConn s _ _)

theorem State.windowSuccess_tableKept (s : State) (w : WindowUse) : s.KeepsTable (s.windowSuccess w) := by
  cases w with
  | proving => exact .of_read rfl
  | negClose => exact .of_read rfl
  | posClose => exact s.enterJoined_tableKept
  | opening => exact s.finishOpening_tableKept
  | leavePos => exact s.leaveStep3_tableKept
  | leaveNeg => exact s.finishLeave_tableKept

theorem State.windowFailure_tableKept (s : State) (w : WindowUse) : s.KeepsTable (s.windowFailure w) := by
  cases w with
  | proving => exact .after (State.enterWelded_tableKept _) rfl
  | negClose => exact s.prechargeFailure_tableKept
  | posClose => exact s.prechargeFailure_tableKept
  | opening => exact .after (State.enterWelded_tableKept _) rfl
  | leavePos => exact s.enterWelded_tableKept
  | leaveNeg => exact s.enterWelded_tableKept

theorem State.testWindow_tableKept (s : State) : s.KeepsTable s.testWindow := by
  unfold State.testWindow
  split
  · exact .refl s
  · exact .ite (s.windowSuccess_tableKept _) (.refl s)

/-! ### The token -/

theorem State.tokenLost_tableKept (s : State) (g : Bool) : s.KeepsTable (s.tokenLost g) :=
  .after (t := s.syncToken) (.ite
    (.ite (State.prechargeFailure_tableKept _) (State.forcedLeave_tableKept _))
    (.ite (.of_read rfl) (.refl _))) rfl

theorem State.joinReleaseByOther_tableKept (s : State) (g : Bool) : s.KeepsTable (s.joinReleaseByOther g) :=
  (s.joinRelease_tableKept .failed).trans (.ite
    (.ite (.refl _) ((State.leaveWaitToken_tableKept _ _).trans (.of_read rfl)))
    (.ite (State.tokenLost_tableKept _ _) (.refl _)))

theorem State.startCheck_tableKept (s : State) : s.KeepsTable s.startCheck := .after (State.enqueue_tableKept _ _) rfl

theorem State.signalToken_tableKept (s : State) : s.KeepsTable s.signalToken :=
  .ite (.refl s) (.ite (.ite (.after (State.startCheck_tableKept _) rfl) (.of_read rfl)) (s.tokenLost_tableKept _))

theorem State.changeJoin_tableKept (s : State) (f : List Nat → List Nat) : s.KeepsTable (s.changeJoin f) :=
  .after (State.signalToken_tableKept _) rfl

end Sys2Proof.Machine


namespace Sys2Proof.Machine

open Sys2Proof

/-! ### The slot and the own heater claim (R71, R72, R81, R82, R94) -/

/-- What the slot decides of the thermal controller: its state and the two drives (R94). -/
theorem slotSignal_thermal (s : State) : s.slotSignal.thermal = { s.thermal with
    state := s.slotSignal.thermal.state, heater := s.slotSignal.thermal.heater, valve := s.slotSignal.thermal.valve } := by
  unfold State.slotSignal
  split
  · rfl
  · split <;> dsimp only <;> split <;> rfl

/-- HEAT_WAIT and HEATING change places at the signal, and no other state is left (R94). -/
theorem slotSignal_stage (s : State) : stage s.slotSignal.thermal.state = stage s.thermal.state := by
  unfold State.slotSignal
  split
  · rfl
  · split <;> dsimp only <;> split
    case _ h => exact (congrArg stage h).symm
    case _ => rfl
    case _ h => exact (congrArg stage h).symm
    case _ => rfl

theorem evalSlot_thermal (s : State) : s.evalSlot.thermal = { s.thermal with
    state := s.evalSlot.thermal.state, heater := s.evalSlot.thermal.heater, valve := s.evalSlot.thermal.valve } := by
  have rotated : s.slotSignal.rotate.thermal = s.slotSignal.thermal := (State.enqueue_keeps _ _).thermal
  unfold State.evalSlot
  split
  · rw [slotSignal_thermal s.slotSignal.rotate, rotated, slotSignal_thermal s]
  · exact slotSignal_thermal s

theorem evalSlot_stage (s : State) : stage s.evalSlot.thermal.state = stage s.thermal.state := by
  have rotated : s.slotSignal.rotate.thermal = s.slotSignal.thermal := (State.enqueue_keeps _ _).thermal
  unfold State.evalSlot
  split
  · rw [slotSignal_stage, rotated, slotSignal_stage]
  · exact slotSignal_stage s

theorem evalSlot_stageRead (s : State) : s.evalSlot.stageRead = s.stageRead :=
  stageRead_of_kept s.evalSlot_safe.toKeepsProtection (evalSlot_stage s) (evalSlot_level s)

theorem evalSlot_timersRead (s : State) : s.evalSlot.timersRead = s.timersRead := by
  rw [State.timersRead, evalSlot_thermal]
  rfl

/-- The slot gained finds HEAT_WAIT, since the claim that stands has its demand; the slot lost leaves HEATING (R94). -/
theorem slotSignal_core {s : State} (h : s.HeaterCore) : s.slotSignal.HeaterCore := by
  unfold State.slotSignal
  split
  · exact h
  · next hne =>
    split
    · next hnow =>
      have free : s.claims.slotHeld = false := by
        rw [hnow] at hne
        exact Bool.eq_false_iff.mpr (Ne.symm hne)
      have listed : s.claims.heat.own = .listed := ((slotNow_iff s).mp hnow).2
      have demand : s.thermal.demand = true := h.claim (by rw [listed]; exact nofun)
      have waits : s.thermal.state = .heatWait :=
        (h.demand.mp demand).resolve_right fun hst => by simp [h.slot hst] at free
      dsimp only
      rw [if_pos waits]
      exact ⟨rfl, rfl, iff_of_true demand (.inr rfl), fun _ => rfl, nofun, fun _ => demand⟩
    · dsimp only
      split
      · next hst =>
        exact ⟨rfl, rfl, iff_of_true (h.demand.mpr (.inr hst)) (.inl rfl), nofun, fun _ => rfl,
          fun _ => h.demand.mpr (.inr hst)⟩
      · next hst => exact ⟨h.heater, h.valve, h.demand, fun hs => absurd hs hst, fun _ => rfl, h.claim⟩

/-- Another own claim state, not given up only where there is demand. -/
theorem State.HeaterCore.setHeatOwn {s : State} {o : OwnClaim} (h : s.HeaterCore) (ho : o.released ≠ o → s.thermal.demand = true) :
    (s.setHeatOwn o).HeaterCore := ⟨h.heater, h.valve, h.demand, h.slot, h.noSlot, ho⟩

theorem enqueue_core {s : State} (e : Entry) (h : s.HeaterCore) : (s.enqueue e).HeaterCore :=
  h.of_read (congrArg (·.2.1) (enqueue_tableRead s e))

/-- Rotation claims again exactly under demand (R82). -/
theorem rotate_core {s : State} (h : s.HeaterCore) : s.rotate.HeaterCore := by
  refine enqueue_core heatReleaseFrame (h.setHeatOwn fun ho => ?_)
  cases hd : s.thermal.demand with
  | true => rfl
  | false => exact absurd rfl (hd ▸ ho)

theorem evalSlot_core {s : State} (h : s.HeaterCore) : s.evalSlot.HeaterCore := by
  unfold State.evalSlot
  split
  · exact slotSignal_core (rotate_core (slotSignal_core h))
  · exact slotSignal_core h

/-- Behind the evaluation the slot is as signalled, whatever has changed of list and limit ahead of it (R81). -/
theorem evalSlot_ready {s : State} (core : s.HeaterCore) (timers : s.TimersRun) : s.evalSlot.HeaterReady :=
  ⟨evalSlot_core core, timers.of_read (evalSlot_timersRead s), evalSlot_slot s⟩

theorem evalSlot_sound {s : State} (core : s.HeaterCore) (timers : s.TimersRun) (fits : s.StageFits) : s.evalSlot.HeaterSound :=
  ⟨evalSlot_ready core timers, fits.of_read (evalSlot_stageRead s)⟩

/-- What the table reads but for the slot as judged. -/
def State.evaluationRead (s : State) : ((ThermalState × Bool × Bool × Bool) × Bool × Bool)
    × (Bool × Bool × Bool × Timer × Timer) × (ThermalState × Nat × Option ConfigSet × Mode) × Mode × Bool × Bool :=
  (s.coreRead, s.timersRead, s.stageRead, s.inhibitRead)

/-- An evaluation of the slots behind a change of the slot's own business. -/
theorem State.KeepsTable.evaluated {s t : State} (h : t.evaluationRead = s.evaluationRead) : s.KeepsTable t.evalSlot :=
  .of_stage
    (fun hr => evalSlot_ready (hr.core.of_read (congrArg Prod.fst h)) (hr.timers.of_read (congrArg (·.2.1) h)))
    ((evalSlot_stageRead t).trans (congrArg (·.2.2.1) h))
    ((inhibitRead_of_kept t.evalSlot_safe.toKeepsProtection).trans (congrArg (·.2.2.2) h))

theorem State.changeHeat_tableKept (s : State) (f : List Nat → List Nat) : s.KeepsTable (s.changeHeat f) := .evaluated rfl

theorem State.setLimit_tableKept (s : State) (l : Nat) : s.KeepsTable (s.setLimit l) := .evaluated rfl

/-- Claims that differ in being given up alone leave the rest of what the evaluation reads. -/
theorem evaluationRead_setHeatOwn {s : State} {o : OwnClaim}
    (h : (o.released == o) = (s.claims.heat.own.released == s.claims.heat.own)) :
    (s.setHeatOwn o).evaluationRead = s.evaluationRead :=
  congrArg (fun x => (((s.thermal.state, s.thermal.demand, s.thermal.heater, s.thermal.valve), s.claims.slotHeld, x), s.timersRead,
    s.stageRead, s.inhibitRead)) h

theorem evaluationRead_enqueue (s : State) (e : Entry) : (s.enqueue e).evaluationRead = s.evaluationRead :=
  congrArg Prod.snd (enqueue_tableRead s e)

theorem slotRead_setHeatOwn {s : State} {o : OwnClaim} (h : o.flag = s.claims.heat.own.flag) :
    (s.setHeatOwn o).slotRead = s.slotRead :=
  congrArg (fun x => (s.claims.heat.entries, x, s.claims.limit, s.claims.slotHeld, s.svc.straps)) h

/-- Another own claim state that keeps its standing in the list, not given up only where there is demand. -/
theorem State.HeaterReady.setHeatOwn {s : State} {o : OwnClaim} (h : s.HeaterReady) (hflag : o.flag = s.claims.heat.own.flag)
    (ho : o.released ≠ o → s.thermal.demand = true) : (s.setHeatOwn o).HeaterReady where
  core := h.core.setHeatOwn ho
  timers := h.timers.of_read rfl
  slot := State.SlotCurrent.of_read h.slot (slotRead_setHeatOwn hflag)

theorem enqueue_ready {s : State} (e : Entry) (h : s.HeaterReady) : (s.enqueue e).HeaterReady :=
  h.of_read (congrArg (fun x => (x.1, x.2.1, x.2.2.1)) (enqueue_tableRead s e))

/-- A claim is asked for under demand (R71, R94). -/
theorem heatClaim_ready {s : State} (h : s.HeaterReady) (hd : s.thermal.demand = true) : s.heatClaim.HeaterReady := by
  unfold State.heatClaim
  split
  · split
    · next ho => exact enqueue_ready _ (h.setHeatOwn (by rw [ho]; rfl) fun _ => hd)
    · next ho => exact h.setHeatOwn (by rw [ho]; rfl) fun _ => hd
    · exact h
    · next ho => exact h.setHeatOwn (by rw [ho]; rfl) fun _ => hd
  · exact h

theorem heatClaim_thermal (s : State) : s.heatClaim.thermal = s.thermal := by
  unfold State.heatClaim
  split
  · split
    case h_1 => exact (State.enqueue_keeps _ _).thermal
    all_goals rfl
  · rfl

theorem heatClaim_stageRead (s : State) : s.heatClaim.stageRead = s.stageRead := by
  refine stageRead_of_kept s.heatClaim_safe.toKeepsProtection ?_ ?_ <;> rw [heatClaim_thermal]

/-- A release request leaves no claim that stands (R72). -/
theorem State.heatRelease_tableKept (s : State) : s.KeepsTable s.heatRelease := by
  have inhibit := inhibitRead_of_kept s.heatRelease_safe.toKeepsProtection
  unfold State.heatRelease at inhibit ⊢
  split at inhibit
  · exact .refl s
  · next ho => exact .of_stage (fun h => h.setHeatOwn (by rw [ho]; rfl) fun hn => absurd rfl hn) rfl inhibit
  · refine .of_stage (fun h => ?_) ?_ inhibit
    · have given : (s.setHeatOwn (.releaseQueued false)).HeaterCore := h.core.setHeatOwn fun hn => absurd rfl hn
      refine evalSlot_ready (enqueue_core _ given) (h.timers.of_read ?_)
      exact congrArg (·.2.2.1) (enqueue_tableRead (s.setHeatOwn (.releaseQueued false)) _)
    · refine (evalSlot_stageRead _).trans ?_
      exact congrArg (·.2.2.2.1) (enqueue_tableRead (s.setHeatOwn (.releaseQueued false)) _)
  · next ho => exact .of_stage (fun h => h.setHeatOwn (by rw [ho]; rfl) fun hn => absurd rfl hn) rfl inhibit

/-! ### Timers and level (R91, R98, R99) -/

theorem runWhile_isSome (cond : Bool) (length : Nat) (t : Timer) : (runWhile cond length t).isSome = cond := by
  cases cond <;> rfl

/-- Each judgement of a condition, and each change of the flag, leaves both timers following. -/
theorem runThermalTimers_run (s : State) : s.runThermalTimers.TimersRun := ⟨runWhile_isSome _ _ _, runWhile_isSome _ _ _⟩

theorem judgeSoak_run {s : State} (h : s.TimersRun) : s.judgeSoak.TimersRun := by
  unfold State.judgeSoak
  split
  · exact runThermalTimers_run _
  · exact h

theorem judgeRecovery_run {s : State} (h : s.TimersRun) : s.judgeRecovery.TimersRun := by
  unfold State.judgeRecovery
  split
  · exact runThermalTimers_run _
  · exact h

/-- What the judgements of the timers' conditions leave of the table. -/
def State.heaterRead (s : State) : (List Nat × Bool × Nat × Bool × StrapPins) × ((ThermalState × Bool × Bool × Bool) × Bool × Bool)
    × (ThermalState × Nat × Option ConfigSet × Mode) × Mode × Bool × Bool := (s.slotRead, s.coreRead, s.stageRead, s.inhibitRead)

theorem State.KeepsTable.of_timers {s t : State} (timers : s.TimersRun → t.TimersRun) (h : t.heaterRead = s.heaterRead) :
    s.KeepsTable t :=
  .of_stage (fun hr => ⟨hr.core.of_read (congrArg (·.2.1) h), timers hr.timers, SlotCurrent.of_read hr.slot (congrArg Prod.fst h)⟩)
    (congrArg (·.2.2.1) h) (congrArg (·.2.2.2) h)

theorem judgeSoak_heaterRead (s : State) : s.judgeSoak.heaterRead = s.heaterRead := by
  unfold State.judgeSoak
  split <;> rfl

theorem judgeRecovery_heaterRead (s : State) : s.judgeRecovery.heaterRead = s.heaterRead := by
  unfold State.judgeRecovery
  split <;> rfl

theorem State.judgeSoak_tableKept (s : State) : s.KeepsTable s.judgeSoak := .of_timers judgeSoak_run (judgeSoak_heaterRead s)

theorem State.judgeRecovery_tableKept (s : State) : s.KeepsTable s.judgeRecovery :=
  .of_timers judgeRecovery_run (judgeRecovery_heaterRead s)

theorem State.setDegraded_tableKept (s : State) (b : Bool) : s.KeepsTable (s.setDegraded b) :=
  .of_timers (fun _ => runThermalTimers_run _) rfl

/-- The own level, ahead of what its change brings about. -/
def State.levelled (s : State) (k : Nat) : State := { s with thermal := { s.thermal with level := k } }

theorem State.SameForHeater.refl (s : State) : s.SameForHeater s := ⟨rfl, .refl _⟩

/-- A change of the own level, but for the balance set that a rise to 3 drops (R46, R98). -/
theorem setLevel_same {s : State} {k : Nat} (hk : k ≠ s.thermal.level) : (s.levelled k).judgeSoak.SameForHeater (s.setLevel k) := by
  have dropped : (s.levelled k).SameForHeater (if k = 3 then (s.levelled k).emptyBalance else s.levelled k) := by
    split
    · exact .setMembers _ []
    · exact .refl _
  rw [State.setLevel, if_neg hk]
  exact .of_ignores judgeSoak_ignores dropped

theorem setLevel_of_level {s : State} {k : Nat} (hk : k = s.thermal.level) : s.setLevel k = s := if_pos hk

theorem setLevel_thermal (s : State) (k : Nat) :
    (s.setLevel k).thermal = if k = s.thermal.level then s.thermal else (s.levelled k).judgeSoak.thermal := by
  split
  · next hk => rw [setLevel_of_level hk]
  · next hk => exact (setLevel_same hk).thermal

/-- The claim unit and the queue do not see the own level. -/
theorem setLevel_claims (s : State) (k : Nat) : (s.setLevel k).claims = s.claims ∧ (s.setLevel k).link = s.link := by
  by_cases hk : k = s.thermal.level
  · rw [setLevel_of_level hk]
    exact ⟨rfl, rfl⟩
  · have judged : (s.levelled k).judgeSoak.claims = s.claims ∧ (s.levelled k).judgeSoak.link = s.link := by
      unfold State.judgeSoak
      split <;> exact ⟨rfl, rfl⟩
    rw [(setLevel_same hk).claims, (setLevel_same hk).link]
    exact judged

theorem setLevel_coreRead (s : State) (k : Nat) : (s.setLevel k).coreRead = s.coreRead := by
  have judged : (s.levelled k).judgeSoak.coreRead = s.coreRead := congrArg (·.2.1) (judgeSoak_heaterRead (s.levelled k))
  have rest : (s.levelled k).judgeSoak.claims = s.claims := by
    unfold State.judgeSoak
    split <;> rfl
  rw [State.coreRead, setLevel_thermal, (setLevel_claims s k).1]
  split
  · rfl
  · rw [← rest]
    exact judged

theorem setLevel_run {s : State} (h : s.TimersRun) (k : Nat) : (s.setLevel k).TimersRun := by
  by_cases hk : k = s.thermal.level
  · rw [setLevel_of_level hk]
    exact h
  · refine (judgeSoak_run (s := s.levelled k) (h.of_read rfl)).of_read ?_
    rw [State.timersRead, (setLevel_same hk).thermal]
    rfl

theorem setLevel_slotRead (s : State) (k : Nat) : (s.setLevel k).slotRead = s.slotRead := by
  rw [State.slotRead, (setLevel_claims s k).1, (s.setLevel_readings k).straps]
  rfl

theorem setLevel_ready {s : State} (h : s.HeaterReady) (k : Nat) : (s.setLevel k).HeaterReady :=
  ⟨h.core.of_read (setLevel_coreRead s k), setLevel_run h.timers k, State.SlotCurrent.of_read h.slot (setLevel_slotRead s k)⟩

/-! ### Demand (R88, R92 to R94) -/

/-- No heating demand, and no own claim that stands or is on its way. -/
structure State.Undemanding (s : State) : Prop where
  demand : s.thermal.demand = false
  claim : s.claims.heat.own.released = s.claims.heat.own
  timers : s.TimersRun
  slot : s.SlotCurrent

theorem State.HeaterReady.undemanding {s : State} (h : s.HeaterReady) (hd : s.thermal.demand = false) : s.Undemanding where
  demand := hd
  claim := by_contra fun ho => by simp [h.core.claim ho] at hd
  timers := h.timers
  slot := h.slot

/-- A claim that is given up holds no slot (R81). -/
theorem State.Undemanding.free {s : State} (h : s.Undemanding) : s.claims.slotHeld = false := by
  have lost : s.slotNow = false := Bool.eq_false_iff.mpr fun hn =>
    OwnClaim.ne_listed_of_released h.claim ((slotNow_iff s).mp hn).2
  exact h.slot.trans lost

/-- Without demand every state but HEAT_WAIT and HEATING may be taken, with its drives (R87). -/
theorem State.Undemanding.rests {s : State} (h : s.Undemanding) {st : ThermalState} (hw : st ≠ .heatWait) (hh : st ≠ .heating) :
    (s.setThermal st).HeaterReady where
  core := ⟨rfl, rfl, iff_of_false (by simp [h.demand]) (not_or.mpr ⟨hw, hh⟩), fun hst => absurd hst hh,
    fun hst => absurd hst hw, fun ho => absurd h.claim ho⟩
  timers := h.timers.of_read rfl
  slot := State.SlotCurrent.of_read h.slot rfl

theorem setLevel_undemanding {s : State} (h : s.Undemanding) (k : Nat) : (s.setLevel k).Undemanding where
  demand := (congrArg (·.1.2.1) (setLevel_coreRead s k)).trans h.demand
  claim := by rw [(setLevel_claims s k).1]; exact h.claim
  timers := setLevel_run h.timers k
  slot := State.SlotCurrent.of_read h.slot (setLevel_slotRead s k)

/-- A release request without demand, whatever the state that it leaves behind (R72). -/
theorem heatRelease_undemanding {s : State} (hd : s.thermal.demand = false) (timers : s.TimersRun) (slot : s.SlotCurrent) :
    s.heatRelease.Undemanding := by
  unfold State.heatRelease
  split
  · next ho => exact ⟨hd, by rw [ho]; rfl, timers, slot⟩
  · next ho => exact ⟨hd, rfl, timers.of_read rfl, State.SlotCurrent.of_read slot (slotRead_setHeatOwn (by rw [ho]; rfl))⟩
  · have queued := enqueue_tableRead (s.setHeatOwn (.releaseQueued false)) heatReleaseFrame
    refine ⟨?_, ?_, timers.of_read ((evalSlot_timersRead _).trans (congrArg (·.2.2.1) queued)), evalSlot_slot _⟩
    · rw [evalSlot_thermal, (State.enqueue_keeps _ _).thermal]
      exact hd
    · have given := eq_of_beq (congrArg (·.2.1.2.2) queued :)
      rw [evalSlot_of_unlisted (OwnClaim.ne_listed_of_released given), (slotSignal_rest _).2.2]
      exact given
  · next ho => exact ⟨hd, rfl, timers.of_read rfl, State.SlotCurrent.of_read slot (slotRead_setHeatOwn (by rw [ho]; rfl))⟩

/-- Where the thermal controller is ready, its demand ends with the claim given up (R72, R88, R92, R94). -/
theorem endDemand_undemanding {s : State} (h : s.HeaterReady) : s.endDemand.Undemanding := by
  unfold State.endDemand
  split
  · exact heatRelease_undemanding (s := s.setDemand false) rfl (h.timers.of_read rfl) (State.SlotCurrent.of_read h.slot rfl)
  · next hd => exact h.undemanding (Bool.eq_false_iff.mpr hd)

end Sys2Proof.Machine


namespace Sys2Proof.Machine

open Sys2Proof

/-! ### The thermal controller's review (R87 to R90) -/

/-- The mode has left LOADING, with a configuration set in the scanning modes alone (R175, R177). -/
structure State.Started (s : State) : Prop where
  mode : s.svc.mode ≠ .loading
  configSet : s.svc.config.isSome = scanningMode s.svc.mode

theorem State.Started.of_kept {s t : State} (h : s.Started) (k : s.KeepsProtection t) : t.Started := by
  constructor
  · rw [k.svc]; exact h.mode
  · rw [k.svc]; exact h.configSet

theorem State.HeaterSound.started {s : State} (h : s.HeaterSound) (hm : s.svc.mode ≠ .loading) : s.Started :=
  ⟨hm, h.fits.configSet⟩

/-- INHIBITED under the inhibit, brought to its level (R88, R89). -/
theorem setLevel_inhibited {s : State} (h : s.HeaterReady) (hs : s.Started) (hst : s.thermal.state = .inhibited)
    (hi : s.thermalInhibit = true) :
    (s.setLevel s.inhibitLevel).HeaterSound ∧ (s.setLevel s.inhibitLevel).InhibitStands := by
  obtain ⟨-, hstate, hlevel⟩ := setLevel_stateAndLevel s s.inhibitLevel
  have kept := (s.setLevel_safe s.inhibitLevel).toKeepsProtection
  have inhibit := inhibitRead_of_kept kept
  have started := hs.of_kept kept
  have state : stage (s.setLevel s.inhibitLevel).thermal.state = .inhibited := by rw [hstate, hst]; rfl
  refine ⟨⟨setLevel_ready h _, fun hm => absurd hm started.mode, ?_, ?_, started.configSet⟩, fun _ => ?_, fun _ => ?_⟩
  · rw [state]; exact nofun
  · rw [state]; exact nofun
  · rw [state, thermalInhibit_of_read inhibit]; exact iff_of_true rfl hi
  · rw [hlevel, inhibitLevel_of_read inhibit]

/-- Outside INHIBITED and without the inhibit (R87). -/
theorem State.InhibitStands.of_free {s : State} (hst : s.thermal.state ≠ .inhibited) (hi : s.thermalInhibit = false) :
    s.InhibitStands :=
  ⟨fun _ => iff_of_false (hst ∘ stage_eq_inhibited.mp) (by simp [hi]), fun h => absurd (stage_eq_inhibited.mp h) hst⟩

/-- Outside INHIBITED there is no inhibit, once LOADING has been left. -/
theorem State.InhibitStands.free {s : State} (h : s.InhibitStands) (hm : s.svc.mode ≠ .loading)
    (hst : s.thermal.state ≠ .inhibited) : s.thermalInhibit = false :=
  Bool.eq_false_iff.mpr fun hi => hst (stage_eq_inhibited.mp ((h.inhibited hm).mpr hi))

/-- Without demand: IDLE at level 0, COOLING at the levels above it (R87). -/
theorem rested_sound {s : State} (h : s.Undemanding) (hs : s.Started) {st : ThermalState}
    (hst : st = .idle ∧ s.thermal.level = 0 ∨ st = .cooling ∧ 1 ≤ s.thermal.level ∧ s.thermal.level ≤ 3) :
    (s.setThermal st).HeaterSound := by
  rcases hst with ⟨rfl, hl⟩ | ⟨rfl, hl⟩
  · exact ⟨h.rests nofun nofun, fun hm => absurd hm hs.mode, nofun, fun _ => hl, hs.configSet⟩
  · exact ⟨h.rests nofun nofun, fun hm => absurd hm hs.mode, fun _ => hl, fun hst => by simp [stage] at hst, hs.configSet⟩

/-- Demand begins: HEAT_WAIT at level 0, with the slot not held (R94). -/
theorem beginDemand_sound {s : State} (h : s.Undemanding) (hs : s.Started) (hl : s.thermal.level = 0) :
    s.beginDemand.HeaterSound := by
  have waits : ((s.setDemand true).setThermal .heatWait).HeaterReady := {
    core := ⟨rfl, rfl, iff_of_true rfl (.inl rfl), nofun, fun _ => h.free, fun _ => rfl⟩
    timers := h.timers.of_read rfl
    slot := State.SlotCurrent.of_read h.slot rfl }
  have fits : ((s.setDemand true).setThermal .heatWait).StageFits :=
    ⟨fun hm => absurd hm hs.mode, nofun, fun _ => hl, hs.configSet⟩
  exact ⟨heatClaim_ready waits rfl, fits.of_read (heatClaim_stageRead _)⟩

theorem beginDemand_thermal (s : State) : s.beginDemand.thermal = ((s.setDemand true).setThermal .heatWait).thermal :=
  heatClaim_thermal _

/-- Demand begins at level 0 alone (R93). -/
theorem demandBegins_level {s : State} {c : ConfigSet} {k : Nat} (h : s.demandBegins c k = true) : k = 0 := by
  simp only [State.demandBegins, Bool.and_eq_true, beq_iff_eq] at h
  exact h.1.1.1

/-- On leaving INHIBITED: IDLE or COOLING at the level of Tmax, ahead of the judgement of demand (R90). -/
def State.evaluatedAfresh (s : State) (c : ConfigSet) : State :=
  (s.setLevel (coolingLevel c 0 s.chain.tmax)).setThermal (if coolingLevel c 0 s.chain.tmax = 0 then .idle else .cooling)

theorem leaveInhibited_of_config {s : State} {c : ConfigSet} (hc : s.svc.config = some c) :
    s.leaveInhibited = if (s.evaluatedAfresh c).demandBegins c (coolingLevel c 0 s.chain.tmax)
      then (s.evaluatedAfresh c).beginDemand else s.evaluatedAfresh c := by
  rw [State.leaveInhibited, hc]
  rfl

theorem evaluatedAfresh_sound {s : State} (h : s.Undemanding) (hs : s.Started) (c : ConfigSet) :
    (s.evaluatedAfresh c).HeaterSound := by
  obtain ⟨-, -, hlevel⟩ := setLevel_stateAndLevel s (coolingLevel c 0 s.chain.tmax)
  refine rested_sound (setLevel_undemanding h _) (hs.of_kept (s.setLevel_safe _).toKeepsProtection) ?_
  rw [hlevel]
  have := coolingLevel_le c 0 s.chain.tmax
  split
  · next hk => exact .inl ⟨rfl, hk⟩
  · next hk => exact .inr ⟨rfl, Nat.one_le_iff_ne_zero.mpr hk, this⟩

theorem evaluatedAfresh_state (s : State) (c : ConfigSet) : (s.evaluatedAfresh c).thermal.state ≠ .inhibited := by
  change (if _ then ThermalState.idle else .cooling) ≠ _
  split <;> nofun

theorem leaveInhibited_sound {s : State} (h : s.Undemanding) (hs : s.Started) {c : ConfigSet} (hc : s.svc.config = some c) :
    s.leaveInhibited.HeaterSound ∧ s.leaveInhibited.thermal.state ≠ .inhibited := by
  have sound := evaluatedAfresh_sound h hs c
  have level : (s.evaluatedAfresh c).thermal.level = coolingLevel c 0 s.chain.tmax := (setLevel_stateAndLevel s _).2.2
  have undemanding : (s.evaluatedAfresh c).Undemanding :=
    sound.ready.undemanding (setLevel_undemanding h (coolingLevel c 0 s.chain.tmax)).demand
  have started : (s.evaluatedAfresh c).Started := hs.of_kept
    ((s.setLevel_safe (coolingLevel c 0 s.chain.tmax)).trans (State.setThermal_safe _ _)).toKeepsProtection
  rw [leaveInhibited_of_config hc]
  split
  · next hb =>
    refine ⟨beginDemand_sound undemanding started (level.trans (demandBegins_level hb)), ?_⟩
    rw [beginDemand_thermal]
    exact nofun
  · exact ⟨sound, evaluatedAfresh_state s c⟩

/-- Demand stands in HEAT_WAIT and HEATING alone. -/
theorem State.HeaterCore.no_demand {s : State} (h : s.HeaterCore) (hst : stage s.thermal.state ≠ .heatWait) :
    s.thermal.demand = false := Bool.eq_false_iff.mpr fun hd => hst (stage_eq_heatWait.mpr (h.demand.mp hd))

/-- The review brings the table about, whatever has changed of the inhibit's causes ahead of it (R87 to R90). -/
theorem thermalReview_table {s : State} (h : s.HeaterSound) : s.thermalReview.HeaterSound ∧ s.thermalReview.InhibitStands := by
  unfold State.thermalReview
  split
  · next hm =>
    have idle := h.fits.loading hm
    exact ⟨h, fun hn => absurd hm hn, fun hst => by simp [idle] at hst⟩
  · next hm =>
    have started := h.started hm
    split
    · next hi =>
      split
      · next hst => exact setLevel_inhibited h.ready started hst hi
      · have kept := (s.endDemand_safe.trans (State.setThermal_safe _ .inhibited)).toKeepsProtection
        have ready := (endDemand_undemanding h.ready).rests (st := .inhibited) nofun nofun
        exact setLevel_inhibited ready (started.of_kept kept) rfl ((thermalInhibit_of_read (inhibitRead_of_kept kept)).trans hi)
    · next hi =>
      split
      · next hst =>
        have active : s.svc.mode = .active := by
          simp only [State.thermalInhibit, Bool.or_eq_true, bne_iff_ne, not_or, not_not] at hi
          exact hi.1.1
        obtain ⟨c, hc⟩ := Option.isSome_iff_exists.mp (started.configSet.trans (by rw [active]; rfl))
        have undemanding := h.ready.undemanding (h.ready.core.no_demand (by rw [hst]; exact nofun))
        obtain ⟨sound, state⟩ := leaveInhibited_sound undemanding started hc
        have kept := inhibitRead_of_kept s.leaveInhibited_safe.toKeepsProtection
        exact ⟨sound, .of_free state ((thermalInhibit_of_read kept).trans (Bool.eq_false_iff.mpr hi))⟩
      · next hst => exact ⟨h, .of_free hst (Bool.eq_false_iff.mpr hi)⟩

/-- A review behind any change that leaves the heater sound. -/
theorem State.KeepsTable.reviewed {s t : State} (h : s.HeaterSound → t.HeaterSound) : s.KeepsTable t.thermalReview :=
  ⟨fun hs => (thermalReview_table (h hs)).1, fun hs _ => (thermalReview_table (h hs)).2⟩

/-! ### A completion of the thermal controller (R91 to R94) -/

/-- The readings that demand is judged by do not change with the own level (R93). -/
theorem setLevel_judges (s : State) (c : ConfigSet) (k : Nat) : (s.setLevel k).thermal.demand = s.thermal.demand
    ∧ (s.setLevel k).demandEnds c 0 = s.demandEnds c 0 ∧ (s.setLevel k).demandBegins c 0 = s.demandBegins c 0 := by
  have h := s.setLevel_readings k
  refine ⟨congrArg (·.1.2.1) (setLevel_coreRead s k), ?_, ?_⟩
  · rw [State.demandEnds, h.tmin, h.tempLoss, ← State.demandEnds]
  · rw [State.demandBegins, h.tmin, h.tmax, h.tempLoss, ← State.demandBegins]

/-- The four outcomes at level 0 (R92 to R94): demand ends, -/
theorem completionHeating_ends {s : State} {c : ConfigSet} (hd : s.thermal.demand = true) (he : s.demandEnds c 0 = true) :
    s.completionHeating c = (s.setLevel 0).endDemand.setThermal .idle := by
  obtain ⟨demand, ends, -⟩ := setLevel_judges s c 0
  unfold State.completionHeating
  dsimp only
  rw [if_pos (demand.trans hd), if_pos (ends.trans he)]

/-- goes on, -/
theorem completionHeating_continues {s : State} {c : ConfigSet} (hd : s.thermal.demand = true) (he : s.demandEnds c 0 = false) :
    s.completionHeating c = (s.setLevel 0).heatClaim := by
  obtain ⟨demand, ends, -⟩ := setLevel_judges s c 0
  unfold State.completionHeating
  dsimp only
  rw [if_pos (demand.trans hd), if_neg (by simp [ends, he])]

/-- begins, -/
theorem completionHeating_begins {s : State} {c : ConfigSet} (hd : s.thermal.demand = false) (hb : s.demandBegins c 0 = true) :
    s.completionHeating c = (s.setLevel 0).beginDemand := by
  obtain ⟨demand, -, begins⟩ := setLevel_judges s c 0
  unfold State.completionHeating
  dsimp only
  rw [if_neg (by simp [demand, hd]), if_pos (begins.trans hb)]

/-- or stays clear. -/
theorem completionHeating_clear {s : State} {c : ConfigSet} (hd : s.thermal.demand = false) (hb : s.demandBegins c 0 = false) :
    s.completionHeating c = (s.setLevel 0).setThermal .idle := by
  obtain ⟨demand, -, begins⟩ := setLevel_judges s c 0
  unfold State.completionHeating
  dsimp only
  rw [if_neg (by simp [demand, hd]), if_neg (by simp [begins, hb])]

/-- Level 0: whichever of the four, the heater is sound, and not INHIBITED. -/
theorem completionHeating_sound {s : State} (h : s.HeaterSound) (hm : s.svc.mode ≠ .loading) (c : ConfigSet) :
    (s.completionHeating c).HeaterSound ∧ (s.completionHeating c).thermal.state ≠ .inhibited := by
  obtain ⟨-, state, level⟩ := setLevel_stateAndLevel s 0
  have started := (h.started hm).of_kept (s.setLevel_safe 0).toKeepsProtection
  have ready := setLevel_ready h.ready 0
  have demand := (setLevel_judges s c 0).1
  cases hd : s.thermal.demand with
  | true =>
    cases he : s.demandEnds c 0 with
    | true =>
      rw [completionHeating_ends hd he]
      have kept := (State.endDemand_safe (s.setLevel 0)).toKeepsProtection
      exact ⟨rested_sound (endDemand_undemanding ready) (started.of_kept kept) (.inl ⟨rfl, (endDemand_level _).trans level⟩), nofun⟩
    | false =>
      have warm : stage (s.setLevel 0).thermal.state = .heatWait := stage_eq_heatWait.mpr (ready.core.demand.mp (demand.trans hd))
      have fits : (s.setLevel 0).StageFits := by
        refine ⟨fun hl => absurd hl started.mode, ?_, fun _ => level, started.configSet⟩
        rw [warm]
        exact nofun
      rw [completionHeating_continues hd he, heatClaim_thermal]
      refine ⟨⟨heatClaim_ready ready (demand.trans hd), fits.of_read (heatClaim_stageRead _)⟩, fun hi => ?_⟩
      rw [hi] at warm
      exact nomatch warm
  | false =>
    have undemanding := ready.undemanding (demand.trans hd)
    cases hb : s.demandBegins c 0 with
    | true =>
      rw [completionHeating_begins hd hb, beginDemand_thermal]
      exact ⟨beginDemand_sound undemanding started level, nofun⟩
    | false =>
      rw [completionHeating_clear hd hb]
      exact ⟨rested_sound undemanding started (.inl ⟨rfl, level⟩), nofun⟩

/-- Levels 1 to 3: COOLING, with demand ended (R92). -/
theorem completionCooling_sound {s : State} (h : s.HeaterSound) (hm : s.svc.mode ≠ .loading) {k : Nat} (hk : 1 ≤ k ∧ k ≤ 3) :
    (s.completionCooling k).HeaterSound ∧ (s.completionCooling k).thermal.state ≠ .inhibited := by
  have ready := (endDemand_undemanding h.ready).rests (st := .cooling) nofun nofun
  obtain ⟨-, state, level⟩ := setLevel_stateAndLevel (s.endDemand.setThermal .cooling) k
  have kept := ((s.endDemand_safe.trans (State.setThermal_safe _ .cooling)).trans (State.setLevel_safe _ k)).toKeepsProtection
  have started := (h.started hm).of_kept kept
  have cooling : (s.completionCooling k).thermal.state = .cooling := state
  refine ⟨⟨setLevel_ready ready k, fun hl => absurd hl started.mode, fun _ => ?_, ?_, started.configSet⟩, ?_⟩
  · rw [show (s.completionCooling k).thermal.level = k from level]
    exact hk
  · rw [cooling]
    simp [stage]
  · rw [cooling]
    exact nofun

/-- An operation that keeps the table of a sound heater. -/
theorem State.KeepsTable.given {s t : State} (h : s.HeaterSound → s.KeepsTable t) : s.KeepsTable t :=
  ⟨fun hs => (h hs).sound hs, fun hs => (h hs).stands hs⟩

/-- What a completion leaves outside INHIBITED: another state and level that fit, and still no inhibit. -/
theorem State.KeepsTable.of_free {s t : State} (hm : s.svc.mode ≠ .loading) (hs : s.thermal.state ≠ .inhibited)
    (kept : s.KeepsProtection t) (h : t.HeaterSound ∧ t.thermal.state ≠ .inhibited) : s.KeepsTable t where
  sound := fun _ => h.1
  stands := fun _ hi => .of_free h.2 ((thermalInhibit_of_read (inhibitRead_of_kept kept)).trans (hi.free hm hs))

/-- The level of a completion, from one that fits (R91). -/
theorem nextLevel_le_three {s : State} (h : s.thermal.level ≤ 3) (c : ConfigSet) : s.nextLevel c ≤ 3 := by
  have := coolingLevel_le c s.thermal.level s.chain.tmax
  unfold State.nextLevel
  split
  · exact max_le h this
  · exact this

theorem State.StageFits.level_le {s : State} (h : s.StageFits) (hst : s.thermal.state ≠ .inhibited) : s.thermal.level ≤ 3 := by
  by_cases hc : s.thermal.state = .cooling
  · exact (h.cooling (stage_eq_cooling.mpr hc)).2
  · have none : s.thermal.level = 0 := h.others (by cases hs : s.thermal.state <;> simp_all [stage])
    omega

theorem State.completionLevel_tableKept {s : State} (hm : s.svc.mode ≠ .loading) (c : ConfigSet) :
    s.KeepsTable (s.completionLevel c) := by
  refine .given fun h => ?_
  unfold State.completionLevel
  split
  · exact .refl s
  · next hst =>
    split
    · exact .of_free hm hst (s.completionHeating_safe c).toKeepsProtection (completionHeating_sound h hm c)
    · next hk =>
      exact .of_free hm hst (s.completionCooling_safe _).toKeepsProtection (completionCooling_sound h hm
        ⟨Nat.one_le_iff_ne_zero.mpr hk, nextLevel_le_three (h.fits.level_le hst) c⟩)

/-- A mode in which scans run is not LOADING (R4, R175). -/
theorem State.HeaterSound.awake {s : State} (h : s.HeaterSound) {c : ConfigSet} (hc : s.svc.config = some c) :
    s.svc.mode ≠ .loading := fun hm => by
  have := h.fits.configSet
  rw [hc, hm] at this
  exact nomatch this

theorem State.thermalCompletion_tableKept {s : State} {c : ConfigSet} (hc : s.svc.config = some c) :
    s.KeepsTable (s.thermalCompletion c) := by
  refine .given fun h => ?_
  have level : s.takeInlet.KeepsTable (s.takeInlet.completionLevel c) :=
    State.completionLevel_tableKept (s := s.takeInlet) (h.awake hc) c
  exact .trans (.trans (.after level rfl) (State.judgeSoak_tableKept _)) (State.judgeRecovery_tableKept _)

end Sys2Proof.Machine


namespace Sys2Proof.Machine

open Sys2Proof

/-! ### The fire unit and the container fire flag -/

/-- The heater is sound whatever the fire state and the flag are. -/
theorem State.HeaterSound.of_read {s t : State} (h : s.HeaterSound)
    (hr : (t.slotRead, t.coreRead, t.timersRead, t.stageRead) = (s.slotRead, s.coreRead, s.timersRead, s.stageRead)) :
    t.HeaterSound where
  ready := h.ready.of_read (congrArg (fun x => (x.1, x.2.1, x.2.2.1)) hr)
  fits := h.fits.of_read (congrArg (·.2.2.2) hr)

theorem setFire_sound {s : State} (h : s.HeaterSound) (st : FireState) : (s.setFire st).HeaterSound :=
  (State.cancelRestart_tableKept _).sound (State.HeaterSound.of_read (t := { s with fire := { s.fire with state := st } }) h rfl)

/-- The release is reached from ALARM on (R116, R117, R118). -/
theorem State.enterReleased_tableKept {s : State} (h : fireAlarmed s.fire.state = true) : s.KeepsTable s.enterReleased :=
  (State.setFire_tableKept (st := .released) h.symm).trans (.after (State.enqueue_tableKept _ _) rfl)

theorem State.enterReleaseDelay_tableKept {s : State} (h : fireAlarmed s.fire.state = true) : s.KeepsTable s.enterReleaseDelay :=
  .ite ((State.setFire_tableKept (st := .releaseHeld) h.symm).trans (.of_read rfl)) (.ite (State.enterReleased_tableKept h)
    ((State.setFire_tableKept (st := .releaseDelay) h.symm).trans (.of_read rfl)))

/-- The inhibit of the release moves the fire state among ALARM and what follows it (R116). -/
theorem State.reviewInhibit_tableKept (s : State) : s.KeepsTable s.reviewInhibit := by
  have back : fireAlarmed s.fire.state = true →
      s.KeepsTable (if s.inhibited then (s.setFire .alarm).setCountdown none else s) := fun h =>
    .ite ((State.setFire_tableKept (st := .alarm) h.symm).trans (.of_read rfl)) (.refl s)
  unfold State.reviewInhibit
  split
  · next h => exact .ite (.refl s) (State.enterReleaseDelay_tableKept (by rw [h]; rfl))
  · next h => exact back (by rw [h]; rfl)
  · next h => exact back (by rw [h]; rfl)
  all_goals exact .refl s

/-- The drops under container fire and in SAFE end in a review (R83, R84, R88). -/
theorem State.KeepsTable.released {s t : State} (h : s.HeaterSound → t.HeaterSound) :
    s.KeepsTable ((t.emptyBalance.joinReleaseByOther false).heatRelease).thermalReview :=
  .reviewed fun hs => ((t.emptyBalance_tableKept.trans (State.joinReleaseByOther_tableKept _ _)).trans
    (State.heatRelease_tableKept _)).sound (h hs)

theorem State.setContainerFire_tableKept (s : State) : s.KeepsTable s.setContainerFire :=
  .ite (.refl s) (.released fun h => h.of_read rfl)

theorem State.evaluateContainerFire_tableKept (s : State) : s.KeepsTable s.evaluateContainerFire :=
  .ite (.reviewed fun h => h.of_read rfl) (.refl s)

theorem State.queueCall_tableKept (s : State) : s.KeepsTable s.queueCall := by
  unfold State.queueCall
  split
  · exact .refl s
  · exact .after (State.enqueue_tableKept _ _) rfl

/-- The entry to ALARM: the review behind the drops takes the new fire state (R88, R114, R115). -/
theorem State.enterAlarm_tableKept (s : State) : s.KeepsTable s.enterAlarm := by
  have noticed : ∀ t : State, t.KeepsTable ((t.enqueue t.fireNotice).setFireLines false true true) := fun t =>
    (t.enqueue_tableKept _).trans (.of_read rfl)
  have dropped : ∀ t : State, t.KeepsTable t.setContainerFire.zeroPair.emptyBalance := fun t =>
    t.setContainerFire_tableKept.trans (.after (State.emptyBalance_tableKept _) rfl)
  have reviewed : s.KeepsTable (((((s.setRepeat none).setFire .alarm).enqueue ((s.setRepeat none).setFire
      .alarm).fireNotice).setFireLines false true true).setContainerFire.zeroPair.emptyBalance).thermalReview :=
    .reviewed fun h => ((noticed _).trans (dropped _)).sound (setFire_sound (s := s.setRepeat none) (h.of_read rfl) .alarm)
  exact reviewed.trans (State.reviewInhibit_tableKept _)

theorem State.enterPreAlarm_tableKept {s : State} (h : fireAlarmed s.fire.state = false) : s.KeepsTable s.enterPreAlarm :=
  ((State.setFire_tableKept (st := .preAlarm) h.symm).trans (State.emptyBalance_tableKept _)).trans
    ((State.enqueue_tableKept _ _).trans (.after (State.queueCall_tableKept _) rfl))

theorem State.returnToNormal_tableKept {s : State} (h : fireAlarmed s.fire.state = false) : s.KeepsTable s.returnToNormal := by
  have normal : (s.setRepeat none).KeepsTable ((s.setRepeat none).setFire .normal) :=
    State.setFire_tableKept (s := s.setRepeat none) h.symm
  exact .after (normal.trans (State.enqueue_tableKept _ _)) rfl

theorem State.judgeSources_tableKept (s : State) (x : Sources) : s.KeepsTable (s.judgeSources x) := by
  unfold State.judgeSources
  split
  · next h => exact .ite (.ite s.enterAlarm_tableKept (State.enterPreAlarm_tableKept (by rw [h]; rfl))) (.refl s)
  · next h => exact .ite s.enterAlarm_tableKept (.ite (State.returnToNormal_tableKept (by rw [h]; rfl)) (.refl s))
  all_goals exact .refl s

theorem State.reviewZoneKey_tableKept (s : State) : s.KeepsTable s.reviewZoneKey :=
  .ite (.refl s) (.after (State.reviewInhibit_tableKept _) rfl)

/-! ### SAFE and the end of a command -/

/-- LISTENING and ACTIVE have a configuration set, and SAFE keeps it (R177). -/
theorem State.enterSafe_tableKept {s : State} (h : s.svc.mode = .listening ∨ s.svc.mode = .active) : s.KeepsTable s.enterSafe := by
  refine .released (t := ({ s with svc := { s.svc with mode := .safe, apCount := 0 } } : State).zeroPair) fun hs => ?_
  have configSet : s.svc.config.isSome = true := hs.fits.configSet.trans (by rcases h with h | h <;> rw [h] <;> rfl)
  exact ⟨hs.ready.of_read rfl, nofun, hs.fits.cooling, hs.fits.others, configSet⟩

theorem State.setDuplicateId_tableKept (s : State) : s.KeepsTable s.setDuplicateId := by
  refine .after (t := { s with svc := { s.svc with duplicateId := true } }) ?_ rfl
  unfold State.setDuplicateId
  dsimp only
  split
  · next h => exact State.enterSafe_tableKept h
  · exact .refl _

theorem State.settle_tableKept (s : State) : s.KeepsTable s.settle := s.reviewForced_tableKept.trans (.of_read rfl)

/-- A reset leaves the thermal controller at its reset values, IDLE in LOADING (R102, R182). -/
theorem resetWith_thermalTable (lines : Lines) (pending : List Instr) : (State.resetWith lines pending).ThermalTable := by
  have core : (State.resetWith lines pending).HeaterCore :=
    ⟨rfl, rfl, iff_of_false nofun (by rintro (h | h) <;> exact nomatch h), nofun, nofun, fun h => absurd rfl h⟩
  exact thermalTable_iff.mpr ⟨⟨⟨core, ⟨rfl, rfl⟩, rfl⟩, fun _ => rfl, nofun, fun _ => rfl, rfl⟩, fun h => absurd rfl h, nofun⟩

theorem finish_thermalTable {s t : State} (hs : s.ThermalTable) (ht : s.finish = .next t) : t.ThermalTable := by
  obtain rfl := Host.Outcome.next.inj ht
  split
  · exact resetWith_thermalTable _ _
  · exact s.settle_tableKept.table hs

end Sys2Proof.Machine


namespace Sys2Proof.Machine

open Sys2Proof

/-! ### The thermal table at the receiver and the module chain -/

theorem State.receive_tableKept {s : State} {act : State → State} (h : ∀ t, State.KeepsTable t (act t)) :
    s.KeepsTable (s.receive act) := .ite (.ite (.of_read rfl) (.after (h _) rfl)) (.refl s)

theorem State.receiveKind_tableKept {s : State} {act : State → State} (payload : List Byte) (n : Nat)
    (h : ∀ t, State.KeepsTable t (act t)) : s.KeepsTable (s.receiveKind payload n act) :=
  State.receive_tableKept fun t => .ite (h t) (.refl t)

theorem State.takeRequest_tableKept {s : State} {act : List Byte → State → State} (sender : BitVec 5) (payload : List Byte)
    (h : ∀ args t, State.KeepsTable t (act args t)) : s.KeepsTable (s.takeRequest sender payload act) :=
  State.receive_tableKept fun t => by
    split
    · exact .refl t
    · exact .ite (h _ t) (.refl t)

theorem State.judgeRequest_tableKept {s : State} {act : State → State} (kind : Byte) (args : List Byte) (n : Nat)
    (modeOk : Mode → Bool) (h : s.KeepsTable (act s)) : s.KeepsTable (s.judgeRequest kind args n modeOk act) :=
  .ite (s.reply_tableKept _ _ _) (.ite h (s.reply_tableKept _ _ _))

theorem State.judgeClaim_tableKept (s : State) (c : ConfigSet) : s.KeepsTable (s.judgeClaim c) :=
  .ite (.ite ((State.KeepsTable.setConn s _ _).trans (State.joinClaim_tableKept _)) (.of_read rfl)) (.refl s)

theorem State.sequencerCompletion_tableKept (s : State) (c : ConfigSet) (good0 : Bool) :
    s.KeepsTable (s.sequencerCompletion c good0) := by
  unfold State.sequencerCompletion
  split
  · exact s.judgeClaim_tableKept c
  · exact .ite s.enterClosing_tableKept (.refl s)
  · exact .ite s.leaveStep2_tableKept (.refl s)
  all_goals exact .refl s

/-- Ahead of the heater the completion judges the trips, writes the pair and rebuilds the balance set (R15, R22, R46). -/
theorem State.completeScan_tableKept {s : State} {c : ConfigSet} (hc : s.svc.config = some c) (stop : Option Nat)
    (goods bad : List Nat) : s.KeepsTable (s.completeScan c stop goods bad) := by
  have rebuilt : s.KeepsTable ((s.paired c stop goods bad).rebuildBalance c) :=
    .after (t := (s.paired c stop goods bad).taken) (rebuildBalance_eq _ c ▸ State.setMembers_tableKept _ _) rfl
  have config : ((s.paired c stop goods bad).rebuildBalance c).svc.config = some c := by
    rw [rebuildBalance_eq, (State.setMembers_safe (s.paired c stop goods bad).taken _).svc]
    exact hc
  have evaluated : s.KeepsTable (s.evaluated c stop goods bad) := rebuilt.trans (State.thermalCompletion_tableKept config)
  rw [completeScan_eq]
  exact (evaluated.trans ((State.reviewForced_tableKept _).trans (State.sequencerCompletion_tableKept _ c _))).trans
    (.ite (.of_read rfl) (.refl _))

theorem State.continueScan_tableKept {s : State} {c : ConfigSet} (hc : s.svc.config = some c) (p : Nat) (goods bad : List Nat) :
    s.KeepsTable (s.continueScan c p goods bad) := .ite (.of_read rfl) (State.completeScan_tableKept hc _ _ _)

theorem State.endTransaction_tableKept {s : State} {c : ConfigSet} (hc : s.svc.config = some c) (r : ScanRun) (body : ReplyBody)
    (o : TransactionOutcome) : s.KeepsTable (s.endTransaction c r body o) := by
  have config : (s.storeReply r.position body).svc.config = some c := by cases body <;> exact hc
  have stored : s.KeepsTable (s.storeReply r.position body) := by cases body <;> exact .of_read rfl
  cases o with
  | good => exact stored.trans (State.continueScan_tableKept config _ _ _)
  | checkFail => exact State.continueScan_tableKept hc _ _ _
  | noReply => exact State.completeScan_tableKept hc _ _ _
  | wrongPosition => exact State.completeScan_tableKept hc _ _ _

theorem State.tryResult_tableKept {s : State} {c : ConfigSet} (hc : s.svc.config = some c) (r : ScanRun) (body : ReplyBody)
    (x : TryResult) : s.KeepsTable (s.tryResult c r body x) := by
  have ended : ∀ replied, s.KeepsTable (s.endTry c r replied) := fun replied =>
    .ite (.of_read rfl) (State.endTransaction_tableKept hc _ _ _)
  cases x with
  | good => exact State.endTransaction_tableKept hc r body .good
  | wrongPosition => exact State.endTransaction_tableKept hc r body .wrongPosition
  | badCheck => exact ended _
  | noReply => exact ended _

theorem State.replyArrives_tableKept (s : State) (reply : ChainReply) : s.KeepsTable (s.replyArrives reply) := by
  unfold State.replyArrives
  split
  · next hc _ => exact State.tryResult_tableKept hc _ _ _
  · exact .refl s

theorem State.replyWaitExpires_tableKept (s : State) : s.KeepsTable s.replyWaitExpires := by
  unfold State.replyWaitExpires
  split
  · next hc _ => exact State.tryResult_tableKept hc _ _ _
  · exact .refl s

theorem State.scanInterval_tableKept (s : State) : s.KeepsTable s.scanInterval :=
  .ite (.ite (.of_read rfl) (.of_read rfl)) (.refl s)

/-! ### Start-up (R88, R102, R175 to R177) -/

/-- The review takes the mode that LOADING is left for. -/
theorem State.KeepsTable.leaveLoading {s t : State} (h : s.HeaterSound → t.HeaterSound) (period : Nat) :
    s.KeepsTable (t.leaveLoading period) := by
  have taken : s.HeaterSound → State.HeaterSound { t with
      peers := { t.peers with apTimer := some period }
      fire := { t.fire with loopTimer := some 100, serviceKey := t.lines.key } } := fun hs => (h hs).of_read rfl
  exact (State.KeepsTable.reviewed taken).trans (State.enqueueAnnounce_tableKept _)

theorem State.gridAsserted_tableKept (s : State) (c : ConfigSet) : s.KeepsTable (s.gridAsserted c) := by
  unfold State.gridAsserted
  split <;> exact .of_read rfl

/-- In LOADING the controller is IDLE at level 0, which fits any mode that follows, with the configuration set it brings (R102). -/
theorem State.StageFits.of_loading {s t : State} (h : s.StageFits) (hm : s.svc.mode = .loading) (ht : t.thermal = s.thermal)
    (hc : t.svc.config.isSome = scanningMode t.svc.mode) : t.StageFits := by
  have idle : stage t.thermal.state = .idle := ht ▸ h.loading hm
  refine ⟨fun _ => idle, fun hst => ?_, fun _ => ?_, hc⟩
  · rw [idle] at hst
    exact nomatch hst
  · rw [ht]
    exact h.others (.inl (h.loading hm))

/-- LISTENING is entered with L at HEAT_LIMIT_ISLAND, on which the slots are evaluated (R80, R175). -/
theorem State.enterListening_tableKept {s : State} (h : s.svc.mode = .loading) (c : ConfigSet) :
    s.KeepsTable (s.enterListening c) := by
  have left := State.KeepsTable.leaveLoading (s := s) (t := ({ s with
      svc := { s.svc with mode := .listening, config := some c, siteCap := c.irackMax, apCount := 0 }
      claims := { s.claims with limit := c.heatLimitIsland }
      chain := { s.chain with scanTimer := some 100 }
      env := { s.env with runawayTimer := some 1000 } } : State).evalSlot)
    (fun hs => evalSlot_sound (hs.ready.core.of_read rfl) (hs.ready.timers.of_read rfl) (hs.fits.of_loading h rfl rfl)) (c.ap * 50)
  have scanning : ∀ t : State, t.KeepsTable t.startScan := fun _ => .of_read rfl
  have degraded : ∀ t : State, t.KeepsTable (if t.lines.chillerFault then t.setDegraded true else t) := fun t =>
    .ite (t.setDegraded_tableKept true) (.refl t)
  have healthy : ∀ t : State, t.KeepsTable (if t.lines.gridHealthy then t.gridAsserted c else t) := fun t =>
    .ite (t.gridAsserted_tableKept c) (.refl t)
  exact ((left.trans (scanning _)).trans (degraded _)).trans (healthy _)

/-- CONFIG_FAULT has no configuration set, as LOADING has none (R175, R177). -/
theorem State.loadConfig_tableKept (s : State) (image : List Byte) : s.KeepsTable (s.loadConfig image) := by
  unfold State.loadConfig
  split
  · next h =>
    split
    · exact State.enterListening_tableKept h _
    · have faulted : s.HeaterSound → State.HeaterSound { s with
          svc := { s.svc with mode := .configFault, configFaultFlag := true } } := fun hs =>
        ⟨hs.ready.of_read rfl, hs.fits.of_loading h rfl (hs.fits.configSet.trans (by rw [h]; rfl))⟩
      exact .leaveLoading faulted 250
  · exact .refl s

/-! ### The fire unit, the heater and the grid -/

theorem State.sampleLoops_tableKept (s : State) (a b : Nat) : s.KeepsTable (s.sampleLoops a b) :=
  .ite (.after (State.judgeSources_tableKept _ _) rfl) (.refl s)

theorem State.sampleRunaway_tableKept (s : State) : s.KeepsTable s.sampleRunaway := by
  unfold State.sampleRunaway
  split
  · exact .refl s
  · exact .ite (.after (State.judgeSources_tableKept _ _) rfl) (.refl s)

theorem State.countdownExpires_tableKept (s : State) : s.KeepsTable s.countdownExpires := by
  unfold State.countdownExpires
  split
  · next h => exact State.enterReleased_tableKept (by rw [h.1]; rfl)
  · exact .refl s

theorem State.repeatExpires_tableKept (s : State) : s.KeepsTable s.repeatExpires :=
  .ite (.after (State.queueCall_tableKept _) rfl) (.refl s)

theorem State.abortChange_tableKept (s : State) (b : Bool) : s.KeepsTable (s.abortChange b) := by
  refine .after (t := { s with lines := { s.lines with abort := b } }) ?_ rfl
  unfold State.abortChange
  dsimp only
  split
  · next h =>
    have held : State.KeepsTable { s with lines := { s.lines with abort := b } }
        (State.setFire { s with lines := { s.lines with abort := b } } .releaseHeld) :=
      State.setFire_tableKept (by rw [h]; rfl)
    exact .ite (held.trans (.of_read rfl)) (.refl _)
  · next h => exact .ite (.refl _) (State.enterReleaseDelay_tableKept (by rw [h]; rfl))
  all_goals exact .refl _

theorem State.keyChange_tableKept (s : State) (b : Bool) : s.KeepsTable (s.keyChange b) :=
  .after (t := { s with lines := { s.lines with key := b } })
    (.ite (.refl _) (.after (State.reviewInhibit_tableKept _) rfl)) rfl

theorem State.chillerFaultChange_tableKept (s : State) (b : Bool) : s.KeepsTable (s.chillerFaultChange b) :=
  .after (t := { s with lines := { s.lines with chillerFault := b } })
    (.ite (.trans (.ite (State.setDegraded_tableKept _ _) (.refl _)) (State.judgeRecovery_tableKept _)) (.refl _)) rfl

theorem State.heatSoakExpire_tableKept (s : State) : s.KeepsTable s.heatSoakExpire :=
  .ite (s.setDegraded_tableKept true) (.refl s)

theorem State.recoveryExpire_tableKept (s : State) : s.KeepsTable s.recoveryExpire :=
  .ite (s.setDegraded_tableKept false) (.refl s)

theorem State.gridReleased_tableKept (s : State) (c : ConfigSet) : s.KeepsTable (s.gridReleased c) := by
  unfold State.gridReleased
  split
  · exact .refl s
  · exact .of_read rfl
  · exact .after (State.setLimit_tableKept _ _) rfl

theorem State.gridChange_tableKept (s : State) (b : Bool) : s.KeepsTable (s.gridChange b) := by
  refine .after (t := { s with lines := { s.lines with gridHealthy := b } }) ?_ rfl
  unfold State.gridChange
  dsimp only
  split
  · exact .refl _
  · exact .ite (.ite (State.gridAsserted_tableKept _ _) (State.gridReleased_tableKept _ _)) (.refl _)

theorem State.reconnectExpires_tableKept (s : State) : s.KeepsTable s.reconnectExpires := by
  unfold State.reconnectExpires
  split
  · exact .refl s
  · exact .ite (.after (State.setLimit_tableKept _ _) rfl) (.refl s)

end Sys2Proof.Machine

namespace Sys2Proof.Machine

open Sys2Proof

/-! ### The thermal table at the peers' frames and the announcement period -/

theorem State.fireReported_tableKept (s : State) (f : FireState) : s.KeepsTable (s.fireReported f) :=
  .ite s.setContainerFire_tableKept (.refl s)

/-- A change of the peer table. -/
theorem State.setTable_tableKept (s : State) (l : List PeerRecord) : s.KeepsTable (s.setTable l) := .of_read rfl

theorem State.takeAnnounce_tableKept (s : State) (n : Nat) (p : List Byte) : s.KeepsTable (s.takeAnnounce n p) := by
  have repaired : ∀ (t : State) (f g : List Nat → List Nat), t.KeepsTable ((t.changeJoin f).changeHeat g) := fun t f g =>
    (t.changeJoin_tableKept f).trans (State.changeHeat_tableKept _ g)
  have confirmed : ∀ t : State, t.KeepsTable t.confirmByPeer := fun t => .ite t.enterAlarm_tableKept (.refl t)
  exact .ite ((((s.setTable_tableKept _).trans (repaired _ _ _)).trans (State.reviewZoneKey_tableKept _)).trans
      ((State.fireReported_tableKept _ _).trans (confirmed _)))
    (.ite ((s.fireReported_tableKept _).trans (State.setDuplicateId_tableKept _)) (.refl s))

/-- A notice of the own zone's release is followed from ALARM on alone (R119). -/
theorem State.noticeToFireUnit_tableKept (s : State) (zone : Nat) (f : FireState) : s.KeepsTable (s.noticeToFireUnit zone f) := by
  have followed : fireAlarmed s.fire.state = true → s.KeepsTable
      (if f = .released ∧ zone = s.ownZone ∧ s.fire.serviceKey = false then s.enterReleased else s) := fun h =>
    .ite (State.enterReleased_tableKept h) (.refl s)
  unfold State.noticeToFireUnit
  split
  · exact .ite s.enterAlarm_tableKept (.ite s.queueCall_tableKept (.refl s))
  · next h => exact followed (by rw [h]; rfl)
  · next h => exact followed (by rw [h]; rfl)
  · next h => exact followed (by rw [h]; rfl)
  all_goals exact .refl s

theorem State.takeFireNotice_tableKept (s : State) (n : Nat) (p : List Byte) : s.KeepsTable (s.takeFireNotice n p) :=
  .ite (((s.setTable_tableKept _).trans (State.reviewZoneKey_tableKept _)).trans
      ((State.fireReported_tableKept _ _).trans (State.noticeToFireUnit_tableKept _ _ _)))
    (.ite (s.fireReported_tableKept _) (.refl s))

theorem State.requeueJoin_tableKept (s : State) : s.KeepsTable s.requeueJoin := by
  refine .ite (.after (t := { s with claims := { s.claims with join := { s.claims.join with requeue := false } } })
    ?_ rfl) (.refl s)
  dsimp only
  split
  case h_1 | h_2 => exact State.enqueue_tableKept _ _
  all_goals exact .refl _

theorem State.requeueHeat_tableKept (s : State) : s.KeepsTable s.requeueHeat := by
  refine .ite (.after (t := { s with claims := { s.claims with heat := { s.claims.heat with requeue := false } } })
    ?_ rfl) (.refl s)
  dsimp only
  split
  case h_1 | h_2 => exact State.enqueue_tableKept _ _
  all_goals exact .refl _

theorem State.ageAndSweep_tableKept (s : State) : s.KeepsTable s.ageAndSweep :=
  ((s.setTable_tableKept _).trans (State.reviewZoneKey_tableKept _)).trans
    ((State.changeJoin_tableKept _ _).trans (State.changeHeat_tableKept _ _))

theorem State.startProving_tableKept (s : State) : s.KeepsTable s.startProving := .after (State.testWindow_tableKept _) rfl

/-- ACTIVE is entered from LISTENING, with the configuration set that LISTENING has (R176). -/
theorem State.enterActive_tableKept {s : State} (h : s.svc.mode = .listening) : s.KeepsTable s.enterActive := by
  have active : s.HeaterSound → State.HeaterSound { s with svc := { s.svc with mode := .active, apCount := 0 } } := fun hs =>
    ⟨hs.ready.of_read rfl, nofun, hs.fits.cooling, hs.fits.others, hs.fits.configSet.trans (by rw [h]; rfl)⟩
  exact .reviewed fun hs => (State.startProving_tableKept _).sound (active hs)

theorem State.countAp_tableKept (s : State) : s.KeepsTable s.countAp := by
  unfold State.countAp
  split
  · next h => exact .ite (State.enterActive_tableKept h) (.of_read rfl)
  · exact .refl s

theorem State.apExpires_tableKept (s : State) : s.KeepsTable s.apExpires := by
  have checked : ∀ t : State, t.KeepsTable t.requeueCheck := fun t => .ite t.startCheck_tableKept (.refl t)
  have judged : ∀ t : State, t.KeepsTable t.judgeCongestion := fun t => .ite (.of_read rfl) (.refl t)
  exact .ite ((s.ageAndSweep_tableKept.trans
      ((State.requeueJoin_tableKept _).trans ((State.requeueHeat_tableKept _).trans (checked _)))).trans
    ((State.enqueueAnnounce_tableKept _).trans ((judged _).trans (State.countAp_tableKept _)))) (.refl s)

/-! ### Claim frames and timers (R69 to R72, R78, R82) -/

theorem State.takeJoinClaim_tableKept (s : State) (n : Nat) : s.KeepsTable (s.takeJoinClaim n) :=
  .ite (s.changeJoin_tableKept _) (.refl s)

theorem State.takeJoinDone_tableKept (s : State) (n : Nat) : s.KeepsTable (s.takeJoinDone n) :=
  .ite (s.changeJoin_tableKept _) (.refl s)

theorem State.takeHeatClaim_tableKept (s : State) (n : Nat) : s.KeepsTable (s.takeHeatClaim n) :=
  .ite (s.changeHeat_tableKept _) (.refl s)

theorem State.takeHeatRelease_tableKept (s : State) (n : Nat) : s.KeepsTable (s.takeHeatRelease n) :=
  .ite (s.changeHeat_tableKept _) (.refl s)

theorem State.headExpires_tableKept (s : State) : s.KeepsTable s.headExpires := by
  unfold State.headExpires
  split
  · exact .after (t := { s with claims := { s.claims with headTimer := none } })
      (.ite (.ite (State.joinReleaseByOther_tableKept _ _) (.refl _)) (State.changeJoin_tableKept _ _)) rfl
  · exact .refl s

theorem State.holdExpires_tableKept (s : State) : s.KeepsTable s.holdExpires := by
  unfold State.holdExpires
  split
  · exact .evaluated rfl
  all_goals exact .refl s

theorem State.ownJoinClaimDone_tableKept (s : State) : s.KeepsTable s.ownJoinClaimDone := by
  refine .after (t := s.setJoinEntries (appendAbsent s.ownNumber s.claims.join.entries)) ?_ rfl
  unfold State.ownJoinClaimDone
  dsimp only
  split
  · exact .after (State.signalToken_tableKept _) rfl
  · exact .after (State.enqueue_tableKept _ _) rfl
  all_goals exact State.signalToken_tableKept _

theorem State.ownJoinDoneDone_tableKept (s : State) : s.KeepsTable s.ownJoinDoneDone := by
  refine .after (t := s.setJoinEntries (removeNumber s.ownNumber s.claims.join.entries)) ?_ rfl
  unfold State.ownJoinDoneDone
  dsimp only
  split
  · exact .after (State.signalToken_tableKept _) rfl
  · exact .after ((State.enqueue_tableKept _ _).trans (State.signalToken_tableKept _)) rfl
  all_goals exact State.signalToken_tableKept _

/-- An own heater frame completes: the list and the own claim state change together, and the claim stays one that stands or one
that is given up (R70, R71). -/
theorem State.KeepsTable.ownHeat {s t : State} {l : List Nat} {o : OwnClaim}
    (ho : (o.released == o) = (s.claims.heat.own.released == s.claims.heat.own))
    (ht : t.evaluationRead = ((s.setHeatEntries l).setHeatOwn o).evaluationRead) : s.KeepsTable t.evalSlot :=
  .evaluated (ht.trans (evaluationRead_setHeatOwn (s := s.setHeatEntries l) ho))

theorem State.ownHeatClaimDone_tableKept (s : State) : s.KeepsTable s.ownHeatClaimDone := by
  unfold State.ownHeatClaimDone
  dsimp only
  split
  · next ho => exact .ownHeat (o := .listed) (by rw [show s.claims.heat.own = _ from ho]; rfl) rfl
  · next ho =>
    exact .ownHeat (o := .releaseQueued false) (by rw [show s.claims.heat.own = _ from ho]; rfl) (evaluationRead_enqueue _ _)
  all_goals exact .evaluated rfl

theorem State.ownHeatReleaseDone_tableKept (s : State) : s.KeepsTable s.ownHeatReleaseDone := by
  unfold State.ownHeatReleaseDone
  dsimp only
  split
  · next ho => exact .ownHeat (o := .notClaimed) (by rw [show s.claims.heat.own = _ from ho]; rfl) rfl
  · next ho =>
    exact .ownHeat (o := .claimQueued false) (by rw [show s.claims.heat.own = _ from ho]; rfl) (evaluationRead_enqueue _ _)
  all_goals exact .evaluated rfl

/-! ### The link (R165 to R172) -/

theorem State.takeCensusCall_tableKept (s : State) (n : Nat) (p : List Byte) : s.KeepsTable (s.takeCensusCall n p) :=
  .ite (.of_read rfl) (.refl s)

theorem State.abandonJoin_tableKept (s : State) : s.KeepsTable s.abandonJoin :=
  (s.leaveWaitToken_tableKept _).trans (State.seqRelease_tableKept _ _)

theorem State.joinedResult_tableKept (s : State) (w : WindowRead) : s.KeepsTable (s.joinedResult w) := by
  have mismatched : s.KeepsTable ({ s with conn := { s.conn with mismatch := true } } : State).abandonJoin :=
    .after (State.abandonJoin_tableKept _) rfl
  have precharged : s.KeepsTable s.enterPrecharge := s.enterPrecharge_tableKept
  unfold State.joinedResult
  split
  · exact .ite (.ite s.abandonJoin_tableKept (.ite (.ite mismatched precharged) (.ite mismatched precharged))) (.refl s)
  · exact .refl s

theorem State.settleGateway_tableKept (s : State) (result : ReplyResult) (data : List Byte) :
    s.KeepsTable (s.settleGateway result data) := .after (State.enqueue_tableKept _ _) rfl

theorem State.gatewayResult_tableKept (s : State) (q z : Byte) (w : WindowRead) : s.KeepsTable (s.gatewayResult q z w) := by
  unfold State.gatewayResult
  split
  · exact .ite (s.settleGateway_tableKept _ _) (.refl s)
  · exact .refl s

theorem State.goodWindow_tableKept (s : State) (a : CensusAnswer) (w : WindowRead) : s.KeepsTable (s.goodWindow a w) := by
  have own : s.KeepsTable (s.ownCallGood a.own) := .ite (.of_read rfl) (.refl s)
  have zone : ∀ (t : State) (P : Prop) [Decidable P], t.KeepsTable (if P then t.zoneResult w else t) := fun t P _ =>
    .ite (.ite t.enterAlarm_tableKept (.refl t)) (.refl t)
  have joined : ∀ (t : State) (P : Prop) [Decidable P], t.KeepsTable (if P then t.joinedResult w else t) := fun t P _ =>
    .ite (t.joinedResult_tableKept w) (.refl t)
  have removed : ∀ t : State, t.KeepsTable (t.removeIdentical a.question a.zone) := fun t =>
    .ite (.of_read rfl) (.of_read rfl)
  exact (own.trans (zone _ _)).trans ((joined _ _).trans ((removed _).trans (State.gatewayResult_tableKept _ _ _ _)))

theorem State.failedWindow_tableKept (s : State) (a : CensusAnswer) : s.KeepsTable (s.failedWindow a) := by
  unfold State.failedWindow
  split
  · exact .ite (s.enqueue_tableKept _) (.of_read rfl)
  · exact .ite (.refl s) s.startCheck_tableKept
  · exact s.settleGateway_tableKept _ _
  all_goals exact .refl s

theorem State.windowCompletes_tableKept (s : State) (w : WindowRead) : s.KeepsTable (s.windowCompletes w) := by
  unfold State.windowCompletes
  split
  · exact .refl s
  · exact .after (t := { s with link := { s.link with census := none } })
      (.ite (State.goodWindow_tableKept _ _ _) (State.failedWindow_tableKept _ _)) rfl

theorem State.attemptStart_tableKept (s : State) (b : Bool) : s.KeepsTable (s.attemptStart b) :=
  .ite (.of_read rfl) (.of_read rfl)

theorem State.arbitrationLost_tableKept (s : State) : s.KeepsTable s.arbitrationLost := .ite (.refl s) (.of_read rfl)

theorem State.reportLoss_tableKept (s : State) (e : Entry) : s.KeepsTable (s.reportLoss e) := .of_read (reportLoss_tableRead s e)

theorem State.bitError_tableKept (s : State) (n : Nat) : s.KeepsTable (s.bitError n) := by
  have dropped : ∀ x, s.KeepsTable (s.bitErrorEntry x) := fun x =>
    .ite (.of_read rfl) (.after (State.reportLoss_tableKept _ _) rfl)
  have waits : ∀ t : State, t.KeepsTable (t.setReception .untilIdle) := fun _ => .of_read rfl
  have counted : ∀ t : State, t.KeepsTable (t.headerError n) := fun t =>
    .ite (.ite (.after (State.setDuplicateId_tableKept _) rfl) (.of_read rfl)) (.of_read rfl)
  unfold State.bitError
  split
  · exact .refl s
  · exact .trans ((dropped _).trans (waits _)) (counted _)

theorem State.selfReceive_tableKept (s : State) (x : Entry) : s.KeepsTable (s.selfReceive x) := by
  have due : s.KeepsTable s.dueRestart := .ite (.of_read rfl) (.refl s)
  unfold State.selfReceive
  split
  · split
    · exact s.ownJoinClaimDone_tableKept
    · exact s.ownJoinDoneDone_tableKept
    · exact s.ownHeatClaimDone_tableKept
    · exact s.ownHeatReleaseDone_tableKept
    · exact .refl s
  · exact .of_read rfl
  · exact .ite due (.refl s)
  all_goals exact .refl s

theorem State.frameCompletes_tableKept (s : State) : s.KeepsTable s.frameCompletes := by
  unfold State.frameCompletes
  split
  · exact .refl s
  · exact .after (State.selfReceive_tableKept _ _) rfl

theorem State.discardFrame_tableKept (s : State) (r : DiscardReason) : s.KeepsTable (s.discardFrame r) :=
  .ite (.of_read rfl) (.refl s)

/-! ### The sequencer's inputs and timers -/

theorem State.auxChange_tableKept (s : State) (p n : Bool) : s.KeepsTable (s.auxChange p n) :=
  .after (State.testWindow_tableKept _) rfl

theorem State.auxWindowExpires_tableKept (s : State) : s.KeepsTable s.auxWindowExpires := by
  unfold State.auxWindowExpires
  split
  · exact .refl s
  · exact s.windowFailure_tableKept _

theorem State.prechargeExpires_tableKept (s : State) : s.KeepsTable s.prechargeExpires :=
  .ite s.prechargeFailure_tableKept (.refl s)

theorem State.leaveExpires_tableKept (s : State) : s.KeepsTable s.leaveExpires :=
  .ite s.leaveStep2_tableKept (.refl s)

/-! ### The gateway's requests -/

theorem State.doReadStatus_tableKept (s : State) (args : List Byte) : s.KeepsTable (s.doReadStatus args) :=
  State.judgeRequest_tableKept _ _ _ _ (s.reply_tableKept _ _ _)

theorem State.doReadModule_tableKept (s : State) (args : List Byte) : s.KeepsTable (s.doReadModule args) :=
  State.judgeRequest_tableKept _ _ _ _ (.ite (s.reply_tableKept _ _ _) (s.reply_tableKept _ _ _))

theorem State.setCap_tableKept (s : State) (value : Nat) : s.KeepsTable (s.setCap value) := by
  unfold State.setCap
  split
  · exact .refl s
  · exact .of_read rfl

theorem State.doSetSiteCap_tableKept (s : State) (args : List Byte) : s.KeepsTable (s.doSetSiteCap args) :=
  State.judgeRequest_tableKept _ _ _ _ ((s.setCap_tableKept _).trans (State.reply_tableKept _ _ _ _))

theorem State.doHoldJoin_tableKept (s : State) (args : List Byte) : s.KeepsTable (s.doHoldJoin args) :=
  State.judgeRequest_tableKept _ _ _ _ (.after (State.reply_tableKept _ _ _ _) rfl)

theorem State.doResumeJoin_tableKept (s : State) (args : List Byte) : s.KeepsTable (s.doResumeJoin args) :=
  State.judgeRequest_tableKept _ _ _ _ (.after (State.reply_tableKept _ _ _ _) rfl)

theorem State.takeOutEffect_tableKept (s : State) (c : ConfigSet) : s.KeepsTable (s.takeOutEffect c) := by
  unfold State.takeOutEffect
  split
  · exact (s.setConn_tableKept _).trans (State.reply_tableKept _ _ _ _)
  · exact ((s.leaveWaitToken_tableKept _).trans (State.seqRelease_tableKept _ _)).trans (State.reply_tableKept _ _ _ _)
  · exact (s.enterLeaving_tableKept c).trans (State.reply_tableKept _ _ _ _)
  all_goals exact s.reply_tableKept _ _ _

theorem State.doTakeOut_tableKept (s : State) (args : List Byte) : s.KeepsTable (s.doTakeOut args) :=
  State.judgeRequest_tableKept _ _ _ _ (by
    split
    · exact s.takeOutEffect_tableKept _
    · exact s.reply_tableKept _ _ _)

theorem State.doReturn_tableKept (s : State) (args : List Byte) : s.KeepsTable (s.doReturn args) :=
  State.judgeRequest_tableKept _ _ _ _
    (.ite ((s.setConn_tableKept _).trans (State.reply_tableKept _ _ _ _)) (s.reply_tableKept _ _ _))

theorem State.doClearLockout_tableKept (s : State) (args : List Byte) : s.KeepsTable (s.doClearLockout args) := by
  have untripped : s.KeepsTable s.clearTrip := .ite (.of_read rfl) (.refl s)
  have unlocked : ∀ t : State, t.KeepsTable t.clearConn := fun t => .ite (.setConn t _ _) (.refl t)
  exact State.judgeRequest_tableKept _ _ _ _ ((untripped.trans (unlocked _)).trans (State.reply_tableKept _ _ _ _))

/-- The reset returns to NORMAL from whatever fire state, and the review takes it (R90, R122). -/
theorem State.resetFire_tableKept (s : State) : s.KeepsTable s.resetFire := by
  have cleared : s.HeaterSound → State.HeaterSound (((({ s with env := { s.env with latch := false, riseFlag := false, ring := [] } } :
      State).setRepeat none).setCountdown none).setFireLines false false false) := fun h => h.of_read rfl
  exact .reviewed fun h => (State.enqueue_tableKept _ _).sound (setFire_sound (cleared h) .normal)

theorem State.doFireReset_tableKept (s : State) (args : List Byte) : s.KeepsTable (s.doFireReset args) := by
  have evaluated : ∀ (t : State) (result : ReplyResult), t.KeepsTable (t.evaluateContainerFire.reply 9 result []) :=
    fun t _ => t.evaluateContainerFire_tableKept.trans (State.reply_tableKept _ _ _ _)
  exact State.judgeRequest_tableKept _ _ _ _ (.ite (evaluated _ _) (.ite (s.resetFire_tableKept.trans (evaluated _ _))
    (evaluated _ _)))

theorem State.doBreakerHold_tableKept (s : State) (args : List Byte) : s.KeepsTable (s.doBreakerHold args) :=
  State.judgeRequest_tableKept _ _ _ _ (.after (State.reply_tableKept _ _ _ _) rfl)

theorem State.doBreakerRelease_tableKept (s : State) (args : List Byte) : s.KeepsTable (s.doBreakerRelease args) :=
  State.judgeRequest_tableKept _ _ _ _ (.after (State.reply_tableKept _ _ _ _) rfl)

theorem State.doCensusRequest_tableKept (s : State) (args : List Byte) : s.KeepsTable (s.doCensusRequest args) :=
  State.judgeRequest_tableKept _ _ _ _ (.ite (.ite (s.reply_tableKept _ _ _) (.after (State.enqueue_tableKept _ _) rfl))
    (s.reply_tableKept _ _ _))

theorem State.doRestart_tableKept (s : State) (args : List Byte) : s.KeepsTable (s.doRestart args) :=
  State.judgeRequest_tableKept _ _ _ _ (.ite (.ite (s.reply_tableKept _ _ _) (.after (State.enqueue_tableKept _ _) rfl))
    (s.reply_tableKept _ _ _))

theorem State.doKind_tableKept (s : State) (kind : Byte) (args : List Byte) : s.KeepsTable (s.doKind kind args) := by
  unfold State.doKind
  split
  · exact s.doReadStatus_tableKept args
  · exact s.doReadModule_tableKept args
  · exact s.doSetSiteCap_tableKept args
  · exact s.doHoldJoin_tableKept args
  · exact s.doResumeJoin_tableKept args
  · exact s.doTakeOut_tableKept args
  · exact s.doReturn_tableKept args
  · exact s.doClearLockout_tableKept args
  · exact s.doFireReset_tableKept args
  · exact s.doBreakerHold_tableKept args
  · exact s.doBreakerRelease_tableKept args
  · exact s.doCensusRequest_tableKept args
  · exact s.doRestart_tableKept args
  · exact .refl s
  · exact s.reply_tableKept _ _ _

/-! ### Every command -/

/-- Every command but POWER_ON_RESET is an operation that keeps the thermal table, and the judgements of its end. -/
theorem exec_tableKept {i : Instr} (s : State) (h : ∀ straps, i ≠ .powerOnReset straps) :
    ∃ u, exec i s = u.finish ∧ s.KeepsTable u := by
  cases i with
  | powerOnReset straps => exact absurd rfl (h straps)
  | configLoad image => exact ⟨_, rfl, s.loadConfig_tableKept image⟩
  | scanIntervalExpiry => exact ⟨_, rfl, s.scanInterval_tableKept⟩
  | chainReplyArrival reply => exact ⟨_, rfl, s.replyArrives_tableKept reply⟩
  | chainReplyWaitExpiry => exact ⟨_, rfl, s.replyWaitExpires_tableKept⟩
  | loopSample a b => exact ⟨_, rfl, s.sampleLoops_tableKept a b⟩
  | runawaySample => exact ⟨_, rfl, s.sampleRunaway_tableKept⟩
  | releaseCountdownExpiry => exact ⟨_, rfl, s.countdownExpires_tableKept⟩
  | censusRepeatExpiry => exact ⟨_, rfl, s.repeatExpires_tableKept⟩
  | abortInputChange b => exact ⟨_, rfl, s.abortChange_tableKept b⟩
  | maintenanceKeyChange b => exact ⟨_, rfl, s.keyChange_tableKept b⟩
  | chillerFaultInputChange b => exact ⟨_, rfl, s.chillerFaultChange_tableKept b⟩
  | heatSoakExpiry => exact ⟨_, rfl, s.heatSoakExpire_tableKept⟩
  | recoveryExpiry => exact ⟨_, rfl, s.recoveryExpire_tableKept⟩
  | apExpiry => exact ⟨_, rfl, s.apExpires_tableKept⟩
  | announceArrival n p => exact ⟨_, rfl, State.receiveKind_tableKept p 24 fun t => t.takeAnnounce_tableKept _ p⟩
  | fireNoticeArrival n p => exact ⟨_, rfl, State.receiveKind_tableKept p 3 fun t => t.takeFireNotice_tableKept _ p⟩
  | joinClaimArrival n p => exact ⟨_, rfl, State.receiveKind_tableKept p 0 fun t => t.takeJoinClaim_tableKept _⟩
  | joinDoneArrival n p => exact ⟨_, rfl, State.receiveKind_tableKept p 1 fun t => t.takeJoinDone_tableKept _⟩
  | heatClaimArrival n p => exact ⟨_, rfl, State.receiveKind_tableKept p 0 fun t => t.takeHeatClaim_tableKept _⟩
  | heatReleaseArrival n p => exact ⟨_, rfl, State.receiveKind_tableKept p 0 fun t => t.takeHeatRelease_tableKept _⟩
  | censusCallArrival n p => exact ⟨_, rfl, State.receiveKind_tableKept p 2 fun t => t.takeCensusCall_tableKept _ p⟩
  | censusWindowCompletion w => exact ⟨_, rfl, s.windowCompletes_tableKept w⟩
  | linkIdleAttemptStart b => exact ⟨_, rfl, s.attemptStart_tableKept b⟩
  | lostArbitration => exact ⟨_, rfl, s.arbitrationLost_tableKept⟩
  | attemptBitError n => exact ⟨_, rfl, s.bitError_tableKept n⟩
  | ownFrameCompletion => exact ⟨_, rfl, s.frameCompletes_tableKept⟩
  | headTimerExpiry => exact ⟨_, rfl, s.headExpires_tableKept⟩
  | holdTimerExpiry => exact ⟨_, rfl, s.holdExpires_tableKept⟩
  | auxInputChange p n => exact ⟨_, rfl, s.auxChange_tableKept p n⟩
  | auxWindowExpiry => exact ⟨_, rfl, s.auxWindowExpires_tableKept⟩
  | prechargeTimerExpiry => exact ⟨_, rfl, s.prechargeExpires_tableKept⟩
  | leaveTimerExpiry => exact ⟨_, rfl, s.leaveExpires_tableKept⟩
  | failureHoldExpiry => exact ⟨s.failureHoldExpires, rfl, .of_read rfl⟩
  | gridHealthyChange b => exact ⟨_, rfl, s.gridChange_tableKept b⟩
  | reconnectExpiry => exact ⟨_, rfl, s.reconnectExpires_tableKept⟩
  | readStatus n p => exact ⟨_, rfl, State.takeRequest_tableKept n p fun x t => t.doReadStatus_tableKept x⟩
  | readModule n p => exact ⟨_, rfl, State.takeRequest_tableKept n p fun x t => t.doReadModule_tableKept x⟩
  | setSiteCap n p => exact ⟨_, rfl, State.takeRequest_tableKept n p fun x t => t.doSetSiteCap_tableKept x⟩
  | holdJoin n p => exact ⟨_, rfl, State.takeRequest_tableKept n p fun x t => t.doHoldJoin_tableKept x⟩
  | resumeJoin n p => exact ⟨_, rfl, State.takeRequest_tableKept n p fun x t => t.doResumeJoin_tableKept x⟩
  | takeOut n p => exact ⟨_, rfl, State.takeRequest_tableKept n p fun x t => t.doTakeOut_tableKept x⟩
  | returnRack n p => exact ⟨_, rfl, State.takeRequest_tableKept n p fun x t => t.doReturn_tableKept x⟩
  | clearLockout n p => exact ⟨_, rfl, State.takeRequest_tableKept n p fun x t => t.doClearLockout_tableKept x⟩
  | fireReset n p => exact ⟨_, rfl, State.takeRequest_tableKept n p fun x t => t.doFireReset_tableKept x⟩
  | breakerHold n p => exact ⟨_, rfl, State.takeRequest_tableKept n p fun x t => t.doBreakerHold_tableKept x⟩
  | breakerRelease n p => exact ⟨_, rfl, State.takeRequest_tableKept n p fun x t => t.doBreakerRelease_tableKept x⟩
  | censusRequest n p => exact ⟨_, rfl, State.takeRequest_tableKept n p fun x t => t.doCensusRequest_tableKept x⟩
  | restart n p => exact ⟨_, rfl, State.takeRequest_tableKept n p fun x t => t.doRestart_tableKept x⟩
  | unknownRequest n k p => exact ⟨_, rfl, State.takeRequest_tableKept n p fun x t => t.doKind_tableKept k x⟩
  | receivedFrameDiscard r => exact ⟨_, rfl, s.discardFrame_tableKept r⟩

/-- Every command keeps the table; POWER_ON_RESET leaves the controller IDLE. -/
theorem exec_thermalTable {i : Instr} {s t : State} (hs : s.ThermalTable) (h : exec i s = .next t) : t.ThermalTable := by
  by_cases hreset : ∃ straps, i = .powerOnReset straps
  · obtain ⟨straps, rfl⟩ := hreset
    exact finish_thermalTable (s := s.powerOn straps) (resetWith_thermalTable _ _) h
  · obtain ⟨u, hu, hk⟩ := exec_tableKept s (not_exists.mp hreset)
    exact finish_thermalTable (hk.table hs) (hu ▸ h)

/-- Settles O7: the command in front keeps the thermal table, by the operations it is made of, and an idle step changes nothing. -/
theorem thermalTableKept : Obligations.ThermalTableKept := by
  intro s t hs h
  unfold step at h
  split at h
  · cases h
    exact hs
  · next c rest _ =>
    have taken : s.KeepsTable { s with pending := rest } := .of_read rfl
    exact exec_thermalTable (taken.table hs) h

end Sys2Proof.Machine

namespace Sys2Proof.Machine

open Sys2Proof

/-! ### The degraded-cooling events (R98 to R100) -/

/-- Nothing that the end of a command judges reads the chiller-fault input, COOLING_DEGRADED, its conditions or its timers. -/
theorem State.Steady.setDegradedCooling {s : State} (h : s.Steady) (fault degraded soak recovery : Bool)
    (soakTimer recoveryTimer : Timer) :
    State.Steady { s with
      lines := { s.lines with chillerFault := fault }
      thermal := { s.thermal with
        degraded := degraded, soakCond := soak, recoveryCond := recovery
        soakTimer := soakTimer, recoveryTimer := recoveryTimer } } where
  permit := h.permit
  containerLevel := h.containerLevel
  pump1 := h.pump1
  pump2 := h.pump2
  chillerRun := h.chillerRun
  forced := h.forced
  noDue := h.noDue

/-- The recovery condition is judged with a configuration set alone (R99, R100). -/
theorem judgeRecovery_eq {s : State} {c : ConfigSet} (hc : s.svc.config = some c) :
    s.judgeRecovery = { s with thermal := { s.thermal with
      recoveryCond := s.recoveryNow c
      soakTimer := runWhile (!s.thermal.degraded && s.thermal.soakCond) 600000 s.thermal.soakTimer
      recoveryTimer := runWhile (s.thermal.degraded && s.recoveryNow c) 300000 s.thermal.recoveryTimer } } := by
  unfold State.judgeRecovery
  rw [hc]
  rfl

/-- The level of the chiller-fault input as it changes. -/
def State.faulted (s : State) (b : Bool) : State := { s with lines := { s.lines with chillerFault := b } }

/-- In the scanning modes an assertion sets the flag, and the recovery condition is judged on the new level (R98, R99). -/
theorem chillerFaultChange_of_scanning {s : State} (hm : scanningMode s.svc.mode = true) (b : Bool) :
    s.chillerFaultChange b = (if b then (s.faulted b).setDegraded true else s.faulted b).judgeRecovery := if_pos hm

/-- Outside them the level alone changes (R100). -/
theorem chillerFaultChange_of_not_scanning {s : State} (hm : scanningMode s.svc.mode = false) (b : Bool) :
    s.chillerFaultChange b = s.faulted b := if_neg (Bool.eq_false_iff.mp hm)

/-- The input asserted sets the flag, and neither timer's condition holds (R98, R99). -/
theorem exec_chillerFault_asserted {s : State} {c : ConfigSet} (hs : s.Steady) (hc : s.svc.config = some c)
    (hm : scanningMode s.svc.mode = true) :
    exec (.chillerFaultInputChange true) s = .next { s with
      lines := { s.lines with chillerFault := true }
      thermal := { s.thermal with degraded := true, recoveryCond := false, soakTimer := none, recoveryTimer := none } } := by
  change (s.chillerFaultChange true).finish = _
  rw [chillerFaultChange_of_scanning hm, if_pos rfl, judgeRecovery_eq (s := (s.faulted true).setDegraded true) hc]
  exact finish_of_steady (hs.setDegradedCooling true true s.thermal.soakCond false none none)

/-- The input released leaves the flag, and the recovery timer follows the inlet of the last completion (R99). -/
theorem exec_chillerFault_released {s : State} {c : ConfigSet} (hs : s.Steady) (hc : s.svc.config = some c)
    (hm : scanningMode s.svc.mode = true) :
    let cool := s.thermal.inlet.any (fun t => t < c.inletLim - 3)
    exec (.chillerFaultInputChange false) s = .next { s with
      lines := { s.lines with chillerFault := false }
      thermal := { s.thermal with
        recoveryCond := cool
        soakTimer := runWhile (!s.thermal.degraded && s.thermal.soakCond) 600000 s.thermal.soakTimer
        recoveryTimer := runWhile (s.thermal.degraded && cool) 300000 s.thermal.recoveryTimer } } := by
  intro cool
  change (s.chillerFaultChange false).finish = _
  rw [chillerFaultChange_of_scanning hm, if_neg Bool.false_ne_true, judgeRecovery_eq (s := s.faulted false) hc]
  exact finish_of_steady (hs.setDegradedCooling false s.thermal.degraded s.thermal.soakCond cool _ _)

/-- Outside the scanning modes the line's level alone changes (R100). -/
theorem exec_chillerFault_of_not_scanning {s : State} (hs : s.Steady) (hm : scanningMode s.svc.mode = false) (b : Bool) :
    exec (.chillerFaultInputChange b) s = .next { s with lines := { s.lines with chillerFault := b } } := by
  change (s.chillerFaultChange b).finish = _
  rw [chillerFaultChange_of_not_scanning hm]
  exact finish_of_steady
    (hs.setDegradedCooling b s.thermal.degraded s.thermal.soakCond s.thermal.recoveryCond s.thermal.soakTimer s.thermal.recoveryTimer)

/-- A change of the flag as a command answers it. -/
theorem finish_setDegraded {s : State} (hs : s.Steady) (b : Bool) : (s.setDegraded b).finish = .next (s.setDegraded b) :=
  finish_of_steady (hs.setDegradedCooling s.lines.chillerFault b s.thermal.soakCond s.thermal.recoveryCond _ _)

/-- The heat-soak timer expires while it runs, and sets the flag (R98). -/
theorem exec_heatSoakExpiry_running {s : State} (hs : s.Steady) (ht : s.thermal.soakTimer ≠ none) :
    exec .heatSoakExpiry s = .next (s.setDegraded true) := by
  have expired : s.heatSoakExpire = s.setDegraded true := if_pos (Option.isSome_iff_ne_none.mpr ht)
  change s.heatSoakExpire.finish = _
  rw [expired, finish_setDegraded hs]

theorem exec_heatSoakExpiry_stopped {s : State} (hs : s.Steady) (ht : s.thermal.soakTimer = none) :
    exec .heatSoakExpiry s = .next s := by
  have idle : s.heatSoakExpire = s := if_neg (by simp [ht])
  change s.heatSoakExpire.finish = _
  rw [idle, finish_of_steady hs]

/-- The recovery timer expires while it runs, and clears the flag (R99). -/
theorem exec_recoveryExpiry_running {s : State} (hs : s.Steady) (ht : s.thermal.recoveryTimer ≠ none) :
    exec .recoveryExpiry s = .next (s.setDegraded false) := by
  have expired : s.recoveryExpire = s.setDegraded false := if_pos (Option.isSome_iff_ne_none.mpr ht)
  change s.recoveryExpire.finish = _
  rw [expired, finish_setDegraded hs]

theorem exec_recoveryExpiry_stopped {s : State} (hs : s.Steady) (ht : s.thermal.recoveryTimer = none) :
    exec .recoveryExpiry s = .next s := by
  have idle : s.recoveryExpire = s := if_neg (by simp [ht])
  change s.recoveryExpire.finish = _
  rw [idle, finish_of_steady hs]

/-- Settles O33: the input by its level and the mode, and each expiry by its timer, which stopped brings nothing. -/
theorem degradedCoolingEvents : Obligations.DegradedCoolingEvents := fun _ hs =>
  ⟨fun _ hc hm => ⟨exec_chillerFault_asserted hs hc hm, exec_chillerFault_released hs hc hm⟩,
    fun b hm => exec_chillerFault_of_not_scanning hs hm b, exec_heatSoakExpiry_running hs, exec_heatSoakExpiry_stopped hs,
    exec_recoveryExpiry_running hs, exec_recoveryExpiry_stopped hs⟩

end Sys2Proof.Machine


namespace Sys2Proof.Machine

open Sys2Proof

/-! ### The level of a completion (R91) -/

/-- A level is reached at its threshold, and left 2 °C below it. -/
def Qualifies (prev : Nat) (tmax : Int) (k : Nat) (threshold : Int) : Prop :=
  threshold ≤ tmax ∨ (k ≤ prev ∧ threshold - 2 ≤ tmax)

theorem coolingLevel_three {c : ConfigSet} {prev : Nat} {tmax : Int} (h3 : Qualifies prev tmax 3 c.tc3) :
    coolingLevel c prev tmax = 3 := if_pos h3

theorem coolingLevel_two {c : ConfigSet} {prev : Nat} {tmax : Int} (h3 : ¬Qualifies prev tmax 3 c.tc3)
    (h2 : Qualifies prev tmax 2 c.tc2) : coolingLevel c prev tmax = 2 := (if_neg h3).trans (if_pos h2)

theorem coolingLevel_one {c : ConfigSet} {prev : Nat} {tmax : Int} (h3 : ¬Qualifies prev tmax 3 c.tc3)
    (h2 : ¬Qualifies prev tmax 2 c.tc2) (h1 : Qualifies prev tmax 1 c.tc1) : coolingLevel c prev tmax = 1 :=
  (if_neg h3).trans ((if_neg h2).trans (if_pos h1))

theorem coolingLevel_zero {c : ConfigSet} {prev : Nat} {tmax : Int} (h3 : ¬Qualifies prev tmax 3 c.tc3)
    (h2 : ¬Qualifies prev tmax 2 c.tc2) (h1 : ¬Qualifies prev tmax 1 c.tc1) : coolingLevel c prev tmax = 0 :=
  (if_neg h3).trans ((if_neg h2).trans (if_neg h1))

theorem nextLevel_of_data {s : State} (h : s.chain.tempLoss = false) (c : ConfigSet) :
    s.nextLevel c = coolingLevel c s.thermal.level s.chain.tmax := if_neg (by simp [h])

theorem nextLevel_of_loss {s : State} (h : s.chain.tempLoss = true) (c : ConfigSet) :
    s.nextLevel c = max s.thermal.level (coolingLevel c s.thermal.level s.chain.tmax) := if_pos h

/-! ### The requests of the thermal controller (R71, R72) -/

/-- The claim unit and the link, which a request for the heater list alone changes. -/
def State.claimRead (s : State) : ClaimUnit × Link := (s.claims, s.link)

/-- A claim request, by the own claim state (R71). -/
structure HeatAsked (x y : ClaimUnit × Link) : Prop where
  notClaimed : x.1.heat.own = .notClaimed →
    y.1.heat = { x.1.heat with own := .claimQueued false } ∧ y.2.queue = insertByClass heatClaimFrame x.2.queue
  listed : x.1.heat.own = .listed → y.1.heat = { x.1.heat with own := .listed } ∧ y.2 = x.2
  claimQueued : ∀ mark, x.1.heat.own = .claimQueued mark →
    y.1.heat = { x.1.heat with own := .claimQueued false } ∧ y.2 = x.2
  releaseQueued : ∀ mark, x.1.heat.own = .releaseQueued mark →
    y.1.heat = { x.1.heat with own := .releaseQueued true } ∧ y.2 = x.2

/-- A release request, by the own claim state (R72). -/
structure HeatGiven (x y : ClaimUnit × Link) : Prop where
  notClaimed : x.1.heat.own = .notClaimed → y.1.heat = { x.1.heat with own := .notClaimed } ∧ y.2 = x.2
  listed : x.1.heat.own = .listed → y.1.heat = { x.1.heat with own := .releaseQueued false } ∧ y.1.slotHeld = false
    ∧ y.2.queue = insertByClass heatReleaseFrame x.2.queue
  claimQueued : ∀ mark, x.1.heat.own = .claimQueued mark →
    y.1.heat = { x.1.heat with own := .claimQueued true } ∧ y.2 = x.2
  releaseQueued : ∀ mark, x.1.heat.own = .releaseQueued mark →
    y.1.heat = { x.1.heat with own := .releaseQueued false } ∧ y.2 = x.2

theorem ClaimList.eq_with_own {l : ClaimList} {o : OwnClaim} (h : l.own = o) : l = { l with own := o } := by rw [← h]

theorem heatClaim_asked {s : State} (hm : s.svc.mode = .active) (hf : s.peers.containerFire = false) (hr : s.Room) :
    HeatAsked s.claimRead s.heatClaim.claimRead := by
  have taken : s.svc.mode = .active ∧ s.peers.containerFire = false := ⟨hm, hf⟩
  unfold State.heatClaim
  rw [if_pos taken]
  refine ⟨fun ho => ?_, fun ho => ?_, fun mark ho => ?_, fun mark ho => ?_⟩
  all_goals
    replace ho : s.claims.heat.own = _ := ho
    rw [ho]
  · rw [enqueue_of_room (s := s.setHeatOwn (.claimQueued false)) hr]
    exact ⟨rfl, rfl⟩
  · exact ⟨ClaimList.eq_with_own ho, rfl⟩
  · exact ⟨rfl, rfl⟩
  · exact ⟨rfl, rfl⟩

/-- A release that is queued ends the slot at once (R72, R81). -/
theorem heatRelease_of_listed {s : State} (ho : s.claims.heat.own = .listed) (hr : s.Room) :
    s.heatRelease.claims.heat = { s.claims.heat with own := .releaseQueued false } ∧ s.heatRelease.claims.slotHeld = false
      ∧ s.heatRelease.link.queue = insertByClass heatReleaseFrame s.link.queue := by
  have unlisted : ((s.setHeatOwn (.releaseQueued false)).queued heatReleaseFrame).claims.heat.own ≠ .listed := nofun
  have released : s.heatRelease = ((s.setHeatOwn (.releaseQueued false)).queued heatReleaseFrame).slotSignal := by
    unfold State.heatRelease
    rw [ho]
    dsimp only
    rw [enqueue_of_room (s := s.setHeatOwn (.releaseQueued false)) hr, evalSlot_of_unlisted unlisted]
  obtain ⟨link, -, claims⟩ := slotSignal_rest ((s.setHeatOwn (.releaseQueued false)).queued heatReleaseFrame)
  rw [released, link, claims]
  exact ⟨rfl, Bool.and_false _, rfl⟩

theorem heatRelease_given {s : State} (hr : s.Room) : HeatGiven s.claimRead s.heatRelease.claimRead := by
  refine ⟨fun ho => ?_, fun ho => heatRelease_of_listed ho hr, fun mark ho => ?_, fun mark ho => ?_⟩
  all_goals
    replace ho : s.claims.heat.own = _ := ho
    unfold State.heatRelease
    rw [ho]
  · exact ⟨ClaimList.eq_with_own ho, rfl⟩
  · exact ⟨rfl, rfl⟩
  · exact ⟨rfl, rfl⟩

theorem endDemand_of_demand {s : State} (h : s.thermal.demand = true) : s.endDemand = (s.setDemand false).heatRelease := if_pos h

theorem endDemand_of_none {s : State} (h : s.thermal.demand = false) : s.endDemand = s := if_neg (by simp [h])

theorem endDemand_given {s : State} (h : s.thermal.demand = true) (hr : s.Room) : HeatGiven s.claimRead s.endDemand.claimRead := by
  rw [endDemand_of_demand h]
  exact heatRelease_given (s := s.setDemand false) hr

theorem setLevel_claimRead (s : State) (k : Nat) : (s.setLevel k).claimRead = s.claimRead :=
  Prod.ext (setLevel_claims s k).1 (setLevel_claims s k).2

/-! ### What a completion leaves of the inlet, the flag and the timers ahead of their judgement (R98, R99) -/

theorem heatRelease_thermal (s : State) : s.heatRelease.thermal = { s.thermal with
    state := s.heatRelease.thermal.state, heater := s.heatRelease.thermal.heater, valve := s.heatRelease.thermal.valve } := by
  unfold State.heatRelease
  split
  case h_3 =>
    rw [evalSlot_thermal, (State.enqueue_keeps _ _).thermal]
    rfl
  all_goals rfl

theorem endDemand_thermal (s : State) : s.endDemand.thermal = { s.thermal with
    state := s.endDemand.thermal.state, heater := s.endDemand.thermal.heater, valve := s.endDemand.thermal.valve
    demand := false } := by
  cases h : s.thermal.demand with
  | true =>
    rw [endDemand_of_demand h, heatRelease_thermal]
    rfl
  | false =>
    rw [endDemand_of_none h, ← h]

/-- The flag, the inlet, the level, and the timers with the recovery condition as last judged. -/
def State.coolingRead (s : State) : Bool × Option Int × Nat × Bool × Timer × Timer :=
  (s.thermal.degraded, s.thermal.inlet, s.thermal.level, s.thermal.recoveryCond, s.thermal.soakTimer, s.thermal.recoveryTimer)

theorem heatClaim_coolingRead (s : State) : s.heatClaim.coolingRead = s.coolingRead := by
  rw [State.coolingRead, heatClaim_thermal, ← State.coolingRead]

theorem endDemand_coolingRead (s : State) : s.endDemand.coolingRead = s.coolingRead := by
  rw [State.coolingRead, endDemand_thermal]
  rfl

/-- Flag, inlet and recovery stand, and the heat-soak timer has at most followed the level that has been taken. -/
structure State.CoolingFollows (s t : State) : Prop where
  degraded : t.thermal.degraded = s.thermal.degraded
  inlet : t.thermal.inlet = s.thermal.inlet
  recovery : s.thermal.recoveryTimer.isSome = (s.thermal.degraded && s.thermal.recoveryCond) →
    t.thermal.recoveryTimer = s.thermal.recoveryTimer ∧ t.thermal.recoveryCond = s.thermal.recoveryCond
  soak : ∀ c, s.svc.config = some c → t.thermal.soakTimer = s.thermal.soakTimer
    ∨ t.thermal.soakTimer = runWhile (!s.thermal.degraded && t.soakNow c) 600000 s.thermal.soakTimer

namespace State.CoolingFollows

theorem of_read {s t : State} (h : t.coolingRead = s.coolingRead) : s.CoolingFollows t := by
  simp only [coolingRead, Prod.mk.injEq] at h
  obtain ⟨hdegraded, hinlet, -, hcond, hsoak, htimer⟩ := h
  exact ⟨hdegraded, hinlet, fun _ => ⟨htimer, hcond⟩, fun _ _ => .inl hsoak⟩

/-- Ahead of an operation, -/
theorem after {s t u : State} (k : t.CoolingFollows u) (h : t.coolingRead = s.coolingRead)
    (hc : t.svc.config = s.svc.config) : s.CoolingFollows u := by
  simp only [coolingRead, Prod.mk.injEq] at h
  obtain ⟨hdegraded, hinlet, -, hcond, hsoak, htimer⟩ := h
  refine ⟨k.degraded.trans hdegraded, k.inlet.trans hinlet, ?_, ?_⟩
  · rw [← hdegraded, ← hcond, ← htimer]
    exact k.recovery
  · rw [← hdegraded, ← hsoak, ← hc]
    exact k.soak

/-- and behind it, all that is not read may change. -/
theorem before {s t u : State} (k : s.CoolingFollows t) (h : u.coolingRead = t.coolingRead) : s.CoolingFollows u := by
  simp only [coolingRead, Prod.mk.injEq] at h
  obtain ⟨hdegraded, hinlet, hlevel, hcond, hsoak, htimer⟩ := h
  have soakNow : ∀ c, u.soakNow c = t.soakNow c := fun c => by rw [State.soakNow, hlevel, hinlet, ← State.soakNow]
  refine ⟨hdegraded.trans k.degraded, hinlet.trans k.inlet, ?_, fun c hc => ?_⟩
  · rw [htimer, hcond]
    exact k.recovery
  · rw [hsoak, soakNow]
    exact k.soak c hc

end State.CoolingFollows

/-- The heat-soak condition is judged with a configuration set alone (R98, R100). -/
theorem judgeSoak_eq {s : State} {c : ConfigSet} (hc : s.svc.config = some c) :
    s.judgeSoak = { s with thermal := { s.thermal with
      soakCond := s.soakNow c
      soakTimer := runWhile (!s.thermal.degraded && s.soakNow c) 600000 s.thermal.soakTimer
      recoveryTimer := runWhile (s.thermal.degraded && s.thermal.recoveryCond) 300000 s.thermal.recoveryTimer } } := by
  unfold State.judgeSoak
  rw [hc]
  rfl

theorem judgeSoak_of_none {s : State} (hc : s.svc.config = none) : s.judgeSoak = s := by rw [State.judgeSoak, hc]

/-- A timer that follows its condition already is left by another judgement of it. -/
theorem runWhile_of_isSome {cond : Bool} {t : Timer} (h : t.isSome = cond) (length : Nat) : runWhile cond length t = t := by
  subst h
  cases t <;> rfl

theorem runWhile_twice (cond : Bool) (length : Nat) (t : Timer) :
    runWhile cond length (runWhile cond length t) = runWhile cond length t :=
  runWhile_of_isSome (runWhile_isSome cond length t) length

theorem setLevel_coolingFollows (s : State) (k : Nat) : s.CoolingFollows (s.setLevel k) := by
  by_cases hk : k = s.thermal.level
  · rw [setLevel_of_level hk]
    exact .of_read rfl
  · have thermal := (setLevel_thermal s k).trans (if_neg hk)
    cases hc : s.svc.config with
    | none =>
      rw [judgeSoak_of_none (s := s.levelled k) hc] at thermal
      refine ⟨?_, ?_, fun _ => ?_, fun _ h => nomatch hc.symm.trans h⟩
      all_goals rw [thermal]
      · rfl
      · rfl
      · exact ⟨rfl, rfl⟩
    | some c =>
      rw [judgeSoak_eq (s := s.levelled k) hc] at thermal
      refine ⟨?_, ?_, fun hr => ?_, fun d hd => .inr ?_⟩
      · rw [thermal]; rfl
      · rw [thermal]; rfl
      · rw [thermal]
        exact ⟨runWhile_of_isSome hr _, rfl⟩
      · obtain rfl := Option.some.inj (hc.symm.trans hd)
        rw [State.soakNow, thermal]
        rfl

/-! ### The thermal controller at a completion, case by case -/

theorem completionLevel_of_inhibited {s : State} (h : s.thermal.state = .inhibited) (c : ConfigSet) :
    s.completionLevel c = s := if_pos h

theorem completionLevel_of_heating {s : State} {c : ConfigSet} (h : s.thermal.state ≠ .inhibited) (hk : s.nextLevel c = 0) :
    s.completionLevel c = s.completionHeating c := (if_neg h).trans (if_pos hk)

theorem completionLevel_of_cooling {s : State} {c : ConfigSet} (h : s.thermal.state ≠ .inhibited) (hk : s.nextLevel c ≠ 0) :
    s.completionLevel c = s.completionCooling (s.nextLevel c) := (if_neg h).trans (if_neg hk)

theorem demandEnds_iff {s : State} {c : ConfigSet} :
    s.demandEnds c 0 = true ↔ c.thOff ≤ s.chain.tmin ∨ s.chain.tempLoss = true := by
  simp [State.demandEnds]

theorem demandBegins_iff {s : State} {c : ConfigSet} :
    s.demandBegins c 0 = true ↔ s.chain.tempLoss = false ∧ s.chain.tmin < c.thOn ∧ s.chain.tmax < c.tc1 := by
  simp [State.demandBegins, and_assoc]

theorem completionHeating_coolingFollows (s : State) (c : ConfigSet) : s.CoolingFollows (s.completionHeating c) := by
  have levelled := setLevel_coolingFollows s 0
  cases hd : s.thermal.demand with
  | true =>
    cases he : s.demandEnds c 0 with
    | true =>
      rw [completionHeating_ends hd he]
      exact (levelled.before (endDemand_coolingRead _)).before rfl
    | false =>
      rw [completionHeating_continues hd he]
      exact levelled.before (heatClaim_coolingRead _)
  | false =>
    cases hb : s.demandBegins c 0 with
    | true =>
      rw [completionHeating_begins hd hb]
      exact levelled.before (heatClaim_coolingRead _)
    | false =>
      rw [completionHeating_clear hd hb]
      exact levelled.before rfl

theorem completionLevel_coolingFollows (s : State) (c : ConfigSet) : s.CoolingFollows (s.completionLevel c) := by
  by_cases hst : s.thermal.state = .inhibited
  · rw [completionLevel_of_inhibited hst]
    exact .of_read rfl
  · by_cases hk : s.nextLevel c = 0
    · rw [completionLevel_of_heating hst hk]
      exact completionHeating_coolingFollows s c
    · rw [completionLevel_of_cooling hst hk]
      exact (setLevel_coolingFollows (s.endDemand.setThermal .cooling) _).after (endDemand_coolingRead s) s.endDemand_readings.config

theorem judgeSoak_thermal (s : State) : s.judgeSoak.thermal = { s.thermal with
    soakCond := s.judgeSoak.thermal.soakCond
    soakTimer := s.judgeSoak.thermal.soakTimer, recoveryTimer := s.judgeSoak.thermal.recoveryTimer } := by
  unfold State.judgeSoak
  split <;> rfl

theorem judgeRecovery_thermal (s : State) : s.judgeRecovery.thermal = { s.thermal with
    recoveryCond := s.judgeRecovery.thermal.recoveryCond
    soakTimer := s.judgeRecovery.thermal.soakTimer, recoveryTimer := s.judgeRecovery.thermal.recoveryTimer } := by
  unfold State.judgeRecovery
  split <;> rfl

/-- Level and demand, as they stand behind the inlet's taking, are left by the judgement of the timers' conditions. -/
theorem thermalCompletion_thermal (s : State) (c : ConfigSet) :
    (s.thermalCompletion c).thermal = { (s.takeInlet.completionLevel c).thermal with
      soakCond := (s.thermalCompletion c).thermal.soakCond, recoveryCond := (s.thermalCompletion c).thermal.recoveryCond
      soakTimer := (s.thermalCompletion c).thermal.soakTimer
      recoveryTimer := (s.thermalCompletion c).thermal.recoveryTimer } := by
  unfold State.thermalCompletion
  rw [judgeRecovery_thermal, judgeSoak_thermal]

theorem thermalCompletion_claimRead (s : State) (c : ConfigSet) :
    (s.thermalCompletion c).claimRead = (s.takeInlet.completionLevel c).claimRead := by
  have soak : ∀ t : State, t.judgeSoak.claimRead = t.claimRead := fun t => by
    unfold State.judgeSoak
    split <;> rfl
  have recovery : ∀ t : State, t.judgeRecovery.claimRead = t.claimRead := fun t => by
    unfold State.judgeRecovery
    split <;> rfl
  exact (recovery _).trans (soak _)

end Sys2Proof.Machine


namespace Sys2Proof.Machine

open Sys2Proof

/-! ### Level, state and demand that a completion leaves (R89, R91 to R94) -/

theorem setLevel_level (s : State) (k : Nat) : (s.setLevel k).thermal.level = k := (setLevel_stateAndLevel s k).2.2

theorem completionHeating_level (s : State) (c : ConfigSet) : (s.completionHeating c).thermal.level = 0 := by
  cases hd : s.thermal.demand with
  | true =>
    cases he : s.demandEnds c 0 with
    | true =>
      rw [completionHeating_ends hd he]
      exact (endDemand_level _).trans (setLevel_level s 0)
    | false => rw [completionHeating_continues hd he, heatClaim_thermal, setLevel_level]
  | false =>
    cases hb : s.demandBegins c 0 with
    | true =>
      rw [completionHeating_begins hd hb, beginDemand_thermal]
      exact setLevel_level s 0
    | false =>
      rw [completionHeating_clear hd hb]
      exact setLevel_level s 0

theorem completionLevel_level {s : State} (h : s.thermal.state ≠ .inhibited) (c : ConfigSet) :
    (s.completionLevel c).thermal.level = s.nextLevel c := by
  by_cases hk : s.nextLevel c = 0
  · rw [completionLevel_of_heating h hk, completionHeating_level, hk]
  · rw [completionLevel_of_cooling h hk]
    exact setLevel_level _ _

/-- Levels 1 to 3: COOLING without demand (R92, R93). -/
theorem completionCooling_outcome (s : State) (k : Nat) : (s.completionCooling k).thermal.state = .cooling
    ∧ (s.completionCooling k).thermal.demand = false ∧ (s.completionCooling k).thermal.heater = false
    ∧ (s.completionCooling k).thermal.valve = true := by
  have read := setLevel_coreRead (s.endDemand.setThermal .cooling) k
  simp only [State.coreRead, Prod.mk.injEq] at read
  obtain ⟨⟨state, demand, heater, valve⟩, -⟩ := read
  exact ⟨state, demand.trans (by rw [State.setThermal, endDemand_thermal]), heater, valve⟩

/-- Level 0: the state and the demand that each of the four outcomes leaves (R93, R94). -/
theorem completionHeating_outcome (s : State) (c : ConfigSet) :
    (s.thermal.demand = true → s.demandEnds c 0 = true →
      (s.completionHeating c).thermal.state = .idle ∧ (s.completionHeating c).thermal.demand = false)
    ∧ (s.thermal.demand = true → s.demandEnds c 0 = false →
      (s.completionHeating c).thermal.state = s.thermal.state ∧ (s.completionHeating c).thermal.demand = true)
    ∧ (s.thermal.demand = false → s.demandBegins c 0 = true →
      (s.completionHeating c).thermal.state = .heatWait ∧ (s.completionHeating c).thermal.demand = true)
    ∧ (s.thermal.demand = false → s.demandBegins c 0 = false →
      (s.completionHeating c).thermal.state = .idle ∧ (s.completionHeating c).thermal.demand = false) := by
  have demand := (setLevel_judges s c 0).1
  refine ⟨fun hd he => ?_, fun hd he => ?_, fun hd hb => ?_, fun hd hb => ?_⟩
  · rw [completionHeating_ends hd he]
    exact ⟨rfl, by rw [State.setThermal, endDemand_thermal]⟩
  · rw [completionHeating_continues hd he, heatClaim_thermal]
    exact ⟨(setLevel_stateAndLevel s 0).2.1, demand.trans hd⟩
  · rw [completionHeating_begins hd hb, beginDemand_thermal]
    exact ⟨rfl, rfl⟩
  · rw [completionHeating_clear hd hb]
    exact ⟨rfl, demand.trans hd⟩

/-! ### The own heater claim at a completion (R71, R72, R94) -/

/-- Demand that goes on or begins asks for the claim. -/
theorem completionHeating_asked {s : State} {c : ConfigSet} (hm : s.svc.mode = .active) (hf : s.peers.containerFire = false)
    (hr : s.Room) (h : s.thermal.demand = true ∧ s.demandEnds c 0 = false ∨ s.thermal.demand = false ∧ s.demandBegins c 0 = true) :
    HeatAsked s.claimRead (s.completionHeating c).claimRead := by
  have kept := (s.setLevel_safe 0).toKeepsProtection
  have mode : (s.setLevel 0).svc.mode = .active := by rw [kept.svc]; exact hm
  have flag : (s.setLevel 0).peers.containerFire = false := by rw [kept.peers]; exact hf
  have room : (s.setLevel 0).Room := by rw [State.Room, (setLevel_claims s 0).2]; exact hr
  rw [← setLevel_claimRead s 0]
  rcases h with ⟨hd, he⟩ | ⟨hd, hb⟩
  · rw [completionHeating_continues hd he]
    exact heatClaim_asked mode flag room
  · rw [completionHeating_begins hd hb]
    exact heatClaim_asked (s := ((s.setLevel 0).setDemand true).setThermal .heatWait) mode flag room

/-- Demand that ends gives it back, at level 0 and above. -/
theorem completionLevel_given {s : State} {c : ConfigSet} (hst : s.thermal.state ≠ .inhibited) (hd : s.thermal.demand = true)
    (h : s.nextLevel c ≠ 0 ∨ s.demandEnds c 0 = true) (hr : s.Room) : HeatGiven s.claimRead (s.completionLevel c).claimRead := by
  by_cases hk : s.nextLevel c = 0
  · have room : (s.setLevel 0).Room := by rw [State.Room, (setLevel_claims s 0).2]; exact hr
    rw [completionLevel_of_heating hst hk, completionHeating_ends hd (h.resolve_left (not_not.mpr hk)), ← setLevel_claimRead s 0]
    exact endDemand_given ((setLevel_judges s c 0).1.trans hd) room
  · rw [completionLevel_of_cooling hst hk]
    change HeatGiven _ ((s.endDemand.setThermal .cooling).setLevel _).claimRead
    rw [setLevel_claimRead]
    exact endDemand_given hd hr

/-- Without demand ahead of the completion and behind it, the claim unit is left. -/
theorem completionLevel_unclaimed {s : State} {c : ConfigSet} (hd : s.thermal.demand = false)
    (h : s.nextLevel c ≠ 0 ∨ s.demandBegins c 0 = false) : (s.completionLevel c).claimRead = s.claimRead := by
  by_cases hst : s.thermal.state = .inhibited
  · rw [completionLevel_of_inhibited hst]
  · by_cases hk : s.nextLevel c = 0
    · rw [completionLevel_of_heating hst hk, completionHeating_clear hd (h.resolve_left (not_not.mpr hk))]
      exact setLevel_claimRead s 0
    · rw [completionLevel_of_cooling hst hk, State.completionCooling, setLevel_claimRead, endDemand_of_none hd]
      rfl

/-! ### The timers behind a completion (R98, R99) -/

theorem soakNow_iff {s : State} {c : ConfigSet} :
    s.soakNow c = true ↔ s.thermal.level = 3 ∧ ∃ x, s.thermal.inlet = some x ∧ c.inletLim ≤ x := by
  simp [State.soakNow, Option.any_eq_true]

theorem recoveryNow_iff {s : State} {c : ConfigSet} :
    s.recoveryNow c = true ↔ s.lines.chillerFault = false ∧ ∃ x, s.thermal.inlet = some x ∧ x < c.inletLim - 3 := by
  simp [State.recoveryNow, Option.any_eq_true]

/-- Both conditions judged with a configuration set, where the recovery timer has followed its condition so far. -/
theorem judgeSoak_judgeRecovery_eq {s : State} {c : ConfigSet} (hc : s.svc.config = some c)
    (hr : s.thermal.recoveryTimer.isSome = (s.thermal.degraded && s.thermal.recoveryCond)) :
    s.judgeSoak.judgeRecovery = { s with thermal := { s.thermal with
      soakCond := s.soakNow c
      recoveryCond := s.recoveryNow c
      soakTimer := runWhile (!s.thermal.degraded && s.soakNow c) 600000 s.thermal.soakTimer
      recoveryTimer := runWhile (s.thermal.degraded && s.recoveryNow c) 300000 s.thermal.recoveryTimer } } := by
  have config : s.judgeSoak.svc.config = some c := s.judgeSoak_readings.config.trans hc
  rw [judgeRecovery_eq config, judgeSoak_eq hc]
  dsimp only
  rw [runWhile_twice, runWhile_of_isSome hr]
  rfl

/-- The heat-soak timer ahead of a change of level, run by the condition behind it, is the one that has followed the change. -/
theorem State.CoolingFollows.soakTimer {s t : State} {c : ConfigSet} (h : s.CoolingFollows t) (hc : s.svc.config = some c) :
    runWhile (!t.thermal.degraded && t.soakNow c) 600000 t.thermal.soakTimer
      = runWhile (!s.thermal.degraded && t.soakNow c) 600000 s.thermal.soakTimer := by
  rw [h.degraded]
  rcases h.soak c hc with kept | ran
  · rw [kept]
  · rw [ran]
    exact runWhile_twice _ _ _

/-- With a configuration set both conditions are judged on the level and the inlet of the completion, and each timer is the one
ahead of it, run by its condition and the flag. -/
theorem thermalCompletion_timers {s : State} {c : ConfigSet} (h : s.TimersRun) (hc : s.svc.config = some c) :
    (s.thermalCompletion c).thermal.soakCond = (s.thermalCompletion c).soakNow c
    ∧ (s.thermalCompletion c).thermal.recoveryCond = (s.thermalCompletion c).recoveryNow c
    ∧ (s.thermalCompletion c).thermal.soakTimer
      = runWhile (!s.thermal.degraded && (s.thermalCompletion c).soakNow c) 600000 s.thermal.soakTimer
    ∧ (s.thermalCompletion c).thermal.recoveryTimer
      = runWhile (s.thermal.degraded && (s.thermalCompletion c).recoveryNow c) 300000 s.thermal.recoveryTimer := by
  have follows := completionLevel_coolingFollows s.takeInlet c
  have config : (s.takeInlet.completionLevel c).svc.config = some c := (s.takeInlet.completionLevel_readings c).config.trans hc
  obtain ⟨timer, cond⟩ := follows.recovery h.recoveryTimer
  have recovery : runWhile ((s.takeInlet.completionLevel c).thermal.degraded && (s.takeInlet.completionLevel c).recoveryNow c)
      300000 (s.takeInlet.completionLevel c).thermal.recoveryTimer
        = runWhile (s.thermal.degraded && (s.takeInlet.completionLevel c).recoveryNow c) 300000 s.thermal.recoveryTimer := by
    rw [timer, follows.degraded]
    rfl
  have judged : s.thermalCompletion c = _ :=
    judgeSoak_judgeRecovery_eq config (by rw [timer, cond, follows.degraded]; exact h.recoveryTimer)
  rw [judged]
  exact ⟨rfl, rfl, follows.soakTimer hc, recovery⟩

end Sys2Proof.Machine


namespace Sys2Proof.Machine

open Sys2Proof

/-! ### The completion as a whole -/

/-- The level by the thresholds, held while TEMP_LOSS is set (R91). -/
theorem nextLevel_by_threshold {s : State} (h : s.thermal.level ≤ 3) (c : ConfigSet) :
    let qualifies := Qualifies s.thermal.level s.chain.tmax
    (s.chain.tempLoss = false →
      (qualifies 3 c.tc3 → s.nextLevel c = 3)
      ∧ (¬qualifies 3 c.tc3 → qualifies 2 c.tc2 → s.nextLevel c = 2)
      ∧ (¬qualifies 3 c.tc3 → ¬qualifies 2 c.tc2 → qualifies 1 c.tc1 → s.nextLevel c = 1)
      ∧ (¬qualifies 3 c.tc3 → ¬qualifies 2 c.tc2 → ¬qualifies 1 c.tc1 → s.nextLevel c = 0))
    ∧ (s.chain.tempLoss = true →
      (qualifies 3 c.tc3 → s.nextLevel c = 3)
      ∧ (¬qualifies 3 c.tc3 → qualifies 2 c.tc2 → s.nextLevel c = max s.thermal.level 2)
      ∧ (¬qualifies 3 c.tc3 → ¬qualifies 2 c.tc2 → qualifies 1 c.tc1 → s.nextLevel c = max s.thermal.level 1)
      ∧ (¬qualifies 3 c.tc3 → ¬qualifies 2 c.tc2 → ¬qualifies 1 c.tc1 → s.nextLevel c = s.thermal.level)) := by
  intro qualifies
  refine ⟨fun hd => ?_, fun hl => ?_⟩
  · rw [nextLevel_of_data hd]
    exact ⟨coolingLevel_three, coolingLevel_two, coolingLevel_one, coolingLevel_zero⟩
  · rw [nextLevel_of_loss hl]
    refine ⟨fun h3 => ?_, fun h3 h2 => ?_, fun h3 h2 h1 => ?_, fun h3 h2 h1 => ?_⟩
    · rw [coolingLevel_three h3, max_eq_right h]
    · rw [coolingLevel_two h3 h2]
    · rw [coolingLevel_one h3 h2 h1]
    · rw [coolingLevel_zero h3 h2 h1, Nat.max_zero]

/-- In INHIBITED level and state stay, and there is no demand (R88, R89). -/
theorem thermalCompletion_inhibited {s : State} (h : s.HeaterCore) (hst : s.thermal.state = .inhibited) (c : ConfigSet) :
    (s.thermalCompletion c).thermal.state = .inhibited ∧ (s.thermalCompletion c).thermal.level = s.thermal.level
      ∧ (s.thermalCompletion c).thermal.demand = false := by
  have none : s.thermal.demand = false := h.no_demand (by rw [hst]; exact nofun)
  rw [thermalCompletion_thermal, completionLevel_of_inhibited (s := s.takeInlet) hst]
  exact ⟨hst, rfl, none⟩

/-- Levels 1 to 3. -/
theorem thermalCompletion_cooling {s : State} {c : ConfigSet} (hst : s.thermal.state ≠ .inhibited) (hk : s.nextLevel c ≠ 0) :
    (s.thermalCompletion c).thermal.state = .cooling ∧ (s.thermalCompletion c).thermal.demand = false
      ∧ (s.thermalCompletion c).thermal.heater = false ∧ (s.thermalCompletion c).thermal.valve = true := by
  rw [thermalCompletion_thermal, completionLevel_of_cooling (s := s.takeInlet) hst hk]
  exact completionCooling_outcome s.takeInlet _

/-- Level 0, as a completion leaves it. -/
theorem thermalCompletion_heating {s : State} {c : ConfigSet} (hst : s.thermal.state ≠ .inhibited) (hk : s.nextLevel c = 0) :
    (s.thermalCompletion c).thermal.state = (s.takeInlet.completionHeating c).thermal.state
      ∧ (s.thermalCompletion c).thermal.demand = (s.takeInlet.completionHeating c).thermal.demand := by
  rw [thermalCompletion_thermal, completionLevel_of_heating (s := s.takeInlet) hst hk]
  exact ⟨rfl, rfl⟩

/-- Outside INHIBITED an ACTIVE rack has no container fire flag (R87, R88). -/
theorem containerFire_of_uninhibited {s : State} (h : s.InhibitStands) (hm : s.svc.mode = .active)
    (hst : s.thermal.state ≠ .inhibited) : s.peers.containerFire = false := by
  have free := h.free (by rw [hm]; exact nofun) hst
  simp only [State.thermalInhibit, Bool.or_eq_false_iff] at free
  exact free.2

/-- A timer runs while its condition stands, and is stopped and cleared otherwise. -/
theorem runWhile_and {a b : Bool} {length : Nat} {t : Timer} :
    (a = true → b = true → runWhile (a && b) length t = some (t.getD length))
    ∧ (a = false ∨ b = false → runWhile (a && b) length t = none) := by
  refine ⟨fun ha hb => by rw [ha, hb]; rfl, fun h => if_neg ?_⟩
  rw [Bool.and_eq_true]
  rintro ⟨rfl, rfl⟩
  simp at h

theorem thermalCompletion_level {s : State} (h : s.thermal.state ≠ .inhibited) (c : ConfigSet) :
    (s.thermalCompletion c).thermal.level = s.nextLevel c := by
  rw [thermalCompletion_thermal]
  exact completionLevel_level (s := s.takeInlet) h c

/-- The inlet is taken, and the flag left (R15, R98, R99). -/
theorem thermalCompletion_inlet (s : State) (c : ConfigSet) : (s.thermalCompletion c).thermal.inlet = s.chain.sense.inlet
    ∧ (s.thermalCompletion c).thermal.degraded = s.thermal.degraded := by
  have follows := completionLevel_coolingFollows s.takeInlet c
  rw [thermalCompletion_thermal]
  exact ⟨follows.inlet, follows.degraded⟩

/-- Demand that goes on or begins in ACTIVE asks for the own claim. -/
theorem thermalCompletion_asked {s : State} {c : ConfigSet} (h : s.InhibitStands) (hm : s.svc.mode = .active) (hr : s.Room)
    (hst : s.thermal.state ≠ .inhibited) (hk : s.nextLevel c = 0)
    (hd : s.thermal.demand = true ∧ s.demandEnds c 0 = false ∨ s.thermal.demand = false ∧ s.demandBegins c 0 = true) :
    HeatAsked s.claimRead (s.thermalCompletion c).claimRead := by
  have flag : s.peers.containerFire = false := containerFire_of_uninhibited h hm hst
  rw [thermalCompletion_claimRead, completionLevel_of_heating (s := s.takeInlet) hst hk]
  exact completionHeating_asked (s := s.takeInlet) hm flag hr hd

/-- Demand that ends gives it back. -/
theorem thermalCompletion_given {s : State} {c : ConfigSet} (hr : s.Room) (hst : s.thermal.state ≠ .inhibited)
    (hd : s.thermal.demand = true) (h : s.nextLevel c ≠ 0 ∨ s.demandEnds c 0 = true) :
    HeatGiven s.claimRead (s.thermalCompletion c).claimRead := by
  rw [thermalCompletion_claimRead]
  exact completionLevel_given (s := s.takeInlet) hst hd h hr

/-- Without either the claim unit and the link are left. -/
theorem thermalCompletion_unclaimed {s : State} {c : ConfigSet}
    (h : s.thermal.state = .inhibited ∨ s.thermal.demand = false ∧ (s.nextLevel c ≠ 0 ∨ s.demandBegins c 0 = false)) :
    (s.thermalCompletion c).claimRead = s.claimRead := by
  rw [thermalCompletion_claimRead]
  rcases h with hst | ⟨hd, hk⟩
  · rw [completionLevel_of_inhibited (s := s.takeInlet) hst]
    rfl
  · exact completionLevel_unclaimed (s := s.takeInlet) hd hk

/-- The heat-soak condition and its timer (R98). -/
theorem thermalCompletion_soak {s : State} {c : ConfigSet} (h : s.TimersRun) (hc : s.svc.config = some c) :
    let soak := (s.thermalCompletion c).thermal.level = 3 ∧ ∃ x, s.chain.sense.inlet = some x ∧ c.inletLim ≤ x
    ((s.thermalCompletion c).thermal.soakCond = true ↔ soak)
    ∧ (s.thermal.degraded = false → soak →
      (s.thermalCompletion c).thermal.soakTimer = some (s.thermal.soakTimer.getD 600000))
    ∧ (s.thermal.degraded = true ∨ ¬soak → (s.thermalCompletion c).thermal.soakTimer = none) := by
  intro soak
  obtain ⟨cond, -, timer, -⟩ := thermalCompletion_timers h hc
  have now : (s.thermalCompletion c).soakNow c = true ↔ soak := by rw [soakNow_iff, (thermalCompletion_inlet s c).1]
  rw [cond, timer]
  exact ⟨now, fun hd hs => runWhile_and.1 (by rw [hd]; rfl) (now.mpr hs), fun hn => runWhile_and.2
    (hn.imp (fun hd => by rw [hd]; rfl) fun hs => Bool.eq_false_iff.mpr (hs ∘ now.mp))⟩

/-- The recovery condition and its timer (R99). -/
theorem thermalCompletion_recovery {s : State} {c : ConfigSet} (h : s.TimersRun) (hc : s.svc.config = some c) :
    let recovers := s.lines.chillerFault = false ∧ ∃ x, s.chain.sense.inlet = some x ∧ x < c.inletLim - 3
    ((s.thermalCompletion c).thermal.recoveryCond = true ↔ recovers)
    ∧ (s.thermal.degraded = true → recovers →
      (s.thermalCompletion c).thermal.recoveryTimer = some (s.thermal.recoveryTimer.getD 300000))
    ∧ (s.thermal.degraded = false ∨ ¬recovers → (s.thermalCompletion c).thermal.recoveryTimer = none) := by
  intro recovers
  obtain ⟨-, cond, -, timer⟩ := thermalCompletion_timers h hc
  have now : (s.thermalCompletion c).recoveryNow c = true ↔ recovers := by
    rw [recoveryNow_iff, (thermalCompletion_inlet s c).1, (s.thermalCompletion_readings c).lines]
    rfl
  rw [cond, timer]
  exact ⟨now, fun hd hs => runWhile_and.1 hd (now.mpr hs), fun hn => runWhile_and.2
    (hn.imp id fun hs => Bool.eq_false_iff.mpr (hs ∘ now.mp))⟩

/-- Settles O32: the level by the thresholds, and the completion case by case, its judgements of the timers behind them. -/
theorem levelAndDemandAtCompletion : Obligations.LevelAndDemandAtCompletion := by
  refine ⟨fun s c _ _ hl => nextLevel_by_threshold hl c, fun s c h => ?_⟩
  obtain ⟨sound, stands⟩ := thermalTable_iff.mp h
  intro t begins ends
  have endsNot : ¬ends → s.demandEnds c 0 = false := fun hn => Bool.eq_false_iff.mpr (hn ∘ demandEnds_iff.mp)
  have beginsNot : ¬begins → s.demandBegins c 0 = false := fun hn => Bool.eq_false_iff.mpr (hn ∘ demandBegins_iff.mp)
  obtain ⟨inlet, degraded⟩ := thermalCompletion_inlet s c
  refine ⟨fun hst => thermalCompletion_inhibited sound.ready.core hst c, fun hst => ⟨thermalCompletion_level hst c,
    thermalCompletion_cooling hst, fun hk => ?_⟩, ⟨fun asks hm hr => ?_, fun gives hr => ?_, fun hasks hgives => ?_⟩,
    inlet, degraded, fun hc => ?_⟩
  · obtain ⟨state, demand⟩ := thermalCompletion_heating hst hk
    obtain ⟨ended, continued, begun, clear⟩ := completionHeating_outcome s.takeInlet c
    rw [show t = s.thermalCompletion c from rfl, state, demand]
    exact ⟨fun hd he => ended hd (demandEnds_iff.mpr he), fun hd he => continued hd (endsNot he),
      fun hd hb => begun hd (demandBegins_iff.mpr hb), fun hd hb => clear hd (beginsNot hb)⟩
  · obtain ⟨hst, hk, hd⟩ := asks
    have asked := thermalCompletion_asked stands hm hr hst hk
      (hd.imp (fun ⟨hd, he⟩ => ⟨hd, endsNot he⟩) fun ⟨hd, hb⟩ => ⟨hd, demandBegins_iff.mpr hb⟩)
    exact ⟨asked.notClaimed, asked.listed, fun mark => ⟨asked.claimQueued mark, asked.releaseQueued mark⟩⟩
  · obtain ⟨hst, hd, hk⟩ := gives
    have given := thermalCompletion_given hr hst hd (hk.imp id demandEnds_iff.mpr)
    exact ⟨given.notClaimed, given.listed, fun mark => ⟨given.claimQueued mark, given.releaseQueued mark⟩⟩
  · have kept : t.claimRead = s.claimRead := by
      refine thermalCompletion_unclaimed (or_iff_not_imp_left.mpr fun hst => ?_)
      cases hd : s.thermal.demand with
      | true =>
        have level : s.nextLevel c = 0 := by_contra fun hk => hgives ⟨hst, hd, .inl hk⟩
        exact absurd ⟨hst, level, .inl ⟨hd, fun he => hgives ⟨hst, hd, .inr he⟩⟩⟩ hasks
      | false =>
        exact ⟨rfl, or_iff_not_imp_left.mpr fun hk => beginsNot fun hb => hasks ⟨hst, not_not.mp hk, .inr ⟨hd, hb⟩⟩⟩
    exact Prod.mk.inj kept
  · obtain ⟨soakCond, soakRuns, soakStops⟩ := thermalCompletion_soak sound.ready.timers hc
    obtain ⟨recoveryCond, recoveryRuns, recoveryStops⟩ := thermalCompletion_recovery sound.ready.timers hc
    exact ⟨soakCond, recoveryCond, soakRuns, soakStops, recoveryRuns, recoveryStops⟩

end Sys2Proof.Machine

namespace Sys2Proof.Machine

open Sys2Proof

/-! ### The outputs and timers of the fire unit (the table of 7.4, R60, R111, R115, R116) -/

/-- The outputs and timers of a fire unit are those of its state. -/
structure FireUnit.Follows (f : FireUnit) : Prop where
  release : f.release = (f.state == .released)
  fireLine : f.fireLine = fireAlarmed f.state
  tripLine : f.tripLine = fireAlarmed f.state
  countdown : f.countdown.isSome = (f.state == .releaseDelay)
  repeatTimer : f.repeatTimer.isSome = (f.state == .preAlarm)

theorem fireOutputs_iff {s : State} :
    s.FireOutputs ↔ s.fire.Follows ∧ (fireAlarmed s.fire.state = true → s.peers.containerFire = true) :=
  ⟨fun h => ⟨⟨h.release, h.fireLine, h.tripLine, h.countdown, h.repeatTimer⟩, h.container⟩,
    fun ⟨h, hflag⟩ => ⟨h.release, h.fireLine, h.tripLine, h.countdown, h.repeatTimer, hflag⟩⟩

/-- What the invariant reads of a state. -/
def State.fireRead (s : State) : FireState × (Bool × Bool × Bool) × (Timer × Timer) × Bool :=
  (s.fire.state, (s.fire.release, s.fire.fireLine, s.fire.tripLine), (s.fire.countdown, s.fire.repeatTimer),
    s.peers.containerFire)

/-- An operation keeps the outputs and timers in line with the fire state. -/
def State.KeepsFire (s t : State) : Prop := s.FireOutputs → t.FireOutputs

namespace State.KeepsFire

theorem refl (s : State) : s.KeepsFire s := id

theorem trans {s t u : State} (h : s.KeepsFire t) (k : t.KeepsFire u) : s.KeepsFire u := k ∘ h

theorem ite {s t u : State} {P : Prop} [Decidable P] (h : s.KeepsFire t) (k : s.KeepsFire u) :
    s.KeepsFire (if P then t else u) := by
  split
  · exact h
  · exact k

/-- An operation that leaves what the invariant reads. -/
theorem of_read {s t : State} (h : t.fireRead = s.fireRead) : s.KeepsFire t := by
  simp only [fireRead, Prod.mk.injEq] at h
  obtain ⟨hstate, ⟨hrelease, hline, htrip⟩, ⟨hcountdown, hrepeat⟩, hflag⟩ := h
  intro hs
  constructor
  · rw [hrelease, hstate]; exact hs.release
  · rw [hline, hstate]; exact hs.fireLine
  · rw [htrip, hstate]; exact hs.tripLine
  · rw [hcountdown, hstate]; exact hs.countdown
  · rw [hrepeat, hstate]; exact hs.repeatTimer
  · rw [hstate, hflag]; exact hs.container

/-- An operation behind a change of what the invariant does not read. -/
theorem after {s t u : State} (k : t.KeepsFire u) (h : t.fireRead = s.fireRead) : s.KeepsFire u := (of_read h).trans k

/-- The operations of the queue, the claim lists, the sequencer and the heater. -/
theorem of_kept {s t : State} (h : s.KeepsProtection t) : s.KeepsFire t := by
  refine .of_read ?_
  rw [fireRead, h.fire, h.peers]
  rfl

/-- An operation that leaves a fire unit in line, under a container fire flag that an alarm has set. -/
theorem of_follows {s t : State}
    (h : s.FireOutputs → t.fire.Follows ∧ (fireAlarmed t.fire.state = true → t.peers.containerFire = true)) : s.KeepsFire t :=
  fun hs => fireOutputs_iff.mpr (h hs)

end State.KeepsFire

/-- Another count of census calls is no output. -/
theorem FireUnit.Follows.of_census {f : FireUnit} (h : f.Follows) (x : CensusState) : ({ f with census := x } : FireUnit).Follows :=
  ⟨h.release, h.fireLine, h.tripLine, h.countdown, h.repeatTimer⟩

/-- Among the states from ALARM on, but for RELEASED, the countdown alone moves (R115, R116). -/
theorem FireUnit.Follows.move {f : FireUnit} (h : f.Follows) (hf : fireAlarmed f.state = true) (hr : f.state ≠ .released)
    {st : FireState} {x : Timer} (hst : fireAlarmed st = true) (hst' : st ≠ .released)
    (hx : x.isSome = (st == .releaseDelay)) : ({ f with state := st, countdown := x } : FireUnit).Follows where
  release := by rw [h.release, beq_eq_false_iff_ne.mpr hr]; exact (beq_eq_false_iff_ne.mpr hst').symm
  fireLine := by rw [h.fireLine, hf]; exact hst.symm
  tripLine := by rw [h.tripLine, hf]; exact hst.symm
  countdown := hx
  repeatTimer := by
    have : f.state ≠ .preAlarm := fun hp => by rw [hp] at hf; exact nomatch hf
    have : st ≠ .preAlarm := fun hp => by rw [hp] at hst; exact nomatch hst
    rw [h.repeatTimer]
    simp [*]

/-! ### The fire unit behind each change of its state -/

theorem setFire_fire (s : State) (st : FireState) : (s.setFire st).fire = { s.fire with state := st } := by
  unfold State.setFire State.cancelRestart
  split <;> rfl

/-- The fire unit in RELEASED (R117). -/
theorem enterReleased_fire (s : State) : s.enterReleased.fire = { s.fire with
    state := .released, countdown := none, release := true, fireLine := true, tripLine := true
    census := s.enterReleased.fire.census } := by
  set t := ((s.setFire .released).setCountdown none).setFireLines true true true
  have ht : t.fire = { s.fire with state := .released, countdown := none, release := true, fireLine := true, tripLine := true } := by
    change ({ (s.setFire .released).fire with countdown := _, release := _, fireLine := _, tripLine := _ } : FireUnit) = _
    rw [setFire_fire]
    rfl
  rw [show s.enterReleased = t.enqueue t.fireNotice from rfl, (t.enqueue_safe _).fire, ht]

theorem enterReleased_keeps (s : State) (h : fireAlarmed s.fire.state = true) : s.KeepsFire s.enterReleased := by
  refine .of_follows fun hs => ?_
  have hp : (s.fire.state == .preAlarm) = false := by
    cases hst : s.fire.state <;> simp_all [fireAlarmed]
  rw [(enterReleased_fireActs s).peers, enterReleased_fire]
  exact ⟨⟨rfl, rfl, rfl, rfl, hs.repeatTimer.trans hp⟩, fun _ => hs.container h⟩

/-- A move among ALARM, RELEASE_DELAY and RELEASE_HELD (R116). -/
theorem moveFire_keeps {s : State} (h : fireAlarmed s.fire.state = true) (hr : s.fire.state ≠ .released) {st : FireState}
    {x : Timer} (hst : fireAlarmed st = true) (hst' : st ≠ .released) (hx : x.isSome = (st == .releaseDelay)) :
    s.KeepsFire ((s.setFire st).setCountdown x) := by
  refine .of_follows fun hs => ?_
  have hfire : ((s.setFire st).setCountdown x).fire = { s.fire with state := st, countdown := x } := by
    change ({ (s.setFire st).fire with countdown := x } : FireUnit) = _
    rw [setFire_fire]
  rw [hfire, State.setCountdown_peers, (setFire_fireActs s st).peers]
  exact ⟨(fireOutputs_iff.mp hs).1.move h hr hst hst' hx, fun _ => hs.container h⟩

theorem enterReleaseDelay_keeps {s : State} (h : fireAlarmed s.fire.state = true) (hr : s.fire.state ≠ .released) :
    s.KeepsFire s.enterReleaseDelay :=
  .ite (moveFire_keeps h hr rfl nofun rfl) (.ite (enterReleased_keeps s h) (moveFire_keeps h hr rfl nofun rfl))

theorem reviewInhibit_keeps (s : State) : s.KeepsFire s.reviewInhibit := by
  have back : fireAlarmed s.fire.state = true → s.fire.state ≠ .released →
      s.KeepsFire (if s.inhibited then (s.setFire .alarm).setCountdown none else s) := fun h hr =>
    .ite (moveFire_keeps h hr rfl nofun rfl) (.refl s)
  unfold State.reviewInhibit
  split
  · next h => exact .ite (.refl s) (enterReleaseDelay_keeps (by rw [h]; rfl) (by rw [h]; nofun))
  · next h => exact back (by rw [h]; rfl) (by rw [h]; nofun)
  · next h => exact back (by rw [h]; rfl) (by rw [h]; nofun)
  all_goals exact .refl s

theorem reviewZoneKey_keeps (s : State) : s.KeepsFire s.reviewZoneKey :=
  .ite (.refl s) (.after (reviewInhibit_keeps s.keyUpdated) rfl)

/-- The container fire flag is no output; it is set under an alarm and cleared in NORMAL alone (R60, R61). -/
theorem setContainerFire_keeps (s : State) : s.KeepsFire s.setContainerFire := by
  obtain ⟨hpeers, hfire⟩ := setContainerFire_rest s
  refine .of_follows fun hs => ?_
  rw [hpeers, hfire]
  exact ⟨(fireOutputs_iff.mp hs).1.of_census _, fun _ => rfl⟩

theorem thermalReview_keeps (s : State) : s.KeepsFire s.thermalReview := .of_kept s.thermalReview_safe.toKeepsProtection

theorem evaluateContainerFire_keeps (s : State) : s.KeepsFire s.evaluateContainerFire := by
  unfold State.evaluateContainerFire
  split
  · next h =>
    refine .trans (t := { s with peers := { s.peers with containerFire := false } })
      (.of_follows fun hs => ⟨(fireOutputs_iff.mp hs).1, fun ha => ?_⟩) (thermalReview_keeps _)
    rw [h.2.1] at ha
    exact nomatch ha
  · exact .refl s

/-- The entry to ALARM as far as its notice: the fire unit drives its lines (R114, R115). -/
theorem alarmNoticed_fire (s : State) : s.alarmNoticed.fire = { s.fire with
    state := .alarm, repeatTimer := none, release := false, fireLine := true, tripLine := true
    census := s.alarmNoticed.fire.census } := by
  set t := (s.setRepeat none).setFire .alarm
  have ht : t.fire = { s.fire with state := .alarm, repeatTimer := none } := setFire_fire (s.setRepeat none) .alarm
  have queued : (t.enqueue t.fireNotice).fire = { t.fire with census := (t.enqueue t.fireNotice).fire.census } :=
    (t.enqueue_safe _).fire
  change ({ (t.enqueue t.fireNotice).fire with release := _, fireLine := _, tripLine := _ } : FireUnit) = _
  rw [queued, ht]
  rfl

/-- The entry to ALARM as far as the drops of container fire, ahead of the inhibit's judgement (R60, R115). -/
def State.alarmDropped (s : State) : State := s.alarmNoticed.setContainerFire.zeroPair.emptyBalance.thermalReview

theorem enterAlarm_of_dropped (s : State) : s.enterAlarm = s.alarmDropped.reviewInhibit := rfl

theorem alarmDropped_safe (s : State) : s.alarmNoticed.setContainerFire.zeroPair.KeepsSafe s.alarmDropped :=
  (State.emptyBalance_safe _).trans (State.thermalReview_safe _)

theorem alarmDropped_peers (s : State) : s.alarmDropped.peers = { s.peers with containerFire := true } := by
  rw [(alarmDropped_safe s).peers, State.zeroPair_peers, (setContainerFire_rest _).1, (alarmNoticed_fireActs s).peers]

theorem alarmDropped_fire (s : State) : s.alarmDropped.fire = { s.fire with
    state := .alarm, repeatTimer := none, release := false, fireLine := true, tripLine := true
    census := s.alarmDropped.fire.census } := by
  rw [(alarmDropped_safe s).fire, State.zeroPair_fire, (setContainerFire_rest _).2, alarmNoticed_fire]

/-- The entry to ALARM from below it. The flag is set before the inhibit moves the state on (R60, R115, R116). -/
theorem enterAlarm_keeps {s : State} (h : fireAlarmed s.fire.state = false) : s.KeepsFire s.enterAlarm := by
  refine .trans (.of_follows fun hs => ?_) (reviewInhibit_keeps s.alarmDropped)
  have stopped : s.fire.countdown.isSome = false := by
    rw [hs.countdown]
    cases hst : s.fire.state <;> simp_all [fireAlarmed]
  rw [alarmDropped_peers, alarmDropped_fire]
  exact ⟨⟨rfl, rfl, rfl, stopped, rfl⟩, fun _ => rfl⟩

/-- The fire unit behind the entry to PRE_ALARM: no output is driven (R110, R111). -/
theorem enterPreAlarm_fire (s : State) : s.enterPreAlarm.fire = { s.fire with
    state := .preAlarm, repeatTimer := some 2000, census := s.enterPreAlarm.fire.census } := by
  set t := (s.setFire .preAlarm).emptyBalance
  have queued := (State.emptyBalance_safe (s.setFire .preAlarm)).trans (t.enqueue_safe t.fireNotice)
  have called : ∀ u : State, u.queueCall.fire = { u.fire with census := u.queueCall.fire.census } := fun u => by
    unfold State.queueCall
    split
    · rfl
    · exact (State.enqueue_safe { u with fire := { u.fire with census := .callPending } } _).fire
  rw [show s.enterPreAlarm = ((t.enqueue t.fireNotice).setRepeat (some 2000)).queueCall from rfl, called]
  change ({ (t.enqueue t.fireNotice).fire with repeatTimer := _, census := _ } : FireUnit) = _
  rw [queued.fire, setFire_fire]
  rfl

theorem enterPreAlarm_keeps {s : State} (h : s.fire.state = .normal) : s.KeepsFire s.enterPreAlarm := by
  refine .of_follows fun hs => ?_
  rw [enterPreAlarm_fire]
  exact ⟨⟨by rw [hs.release, h]; rfl, by rw [hs.fireLine, h]; rfl, by rw [hs.tripLine, h]; rfl, by rw [hs.countdown, h]; rfl, rfl⟩,
    nofun⟩

/-- The fire unit behind the return to NORMAL (R113). -/
theorem returnToNormal_fire (s : State) : s.returnToNormal.fire = { s.fire with
    state := .normal, repeatTimer := none, census := s.returnToNormal.fire.census } := by
  set t := (s.setRepeat none).setFire .normal
  have ht : t.fire = { s.fire with state := .normal, repeatTimer := none } := setFire_fire (s.setRepeat none) .normal
  rw [show s.returnToNormal = t.enqueue t.fireNotice from rfl, (t.enqueue_safe _).fire, ht]

theorem returnToNormal_keeps {s : State} (h : s.fire.state = .preAlarm) : s.KeepsFire s.returnToNormal := by
  refine .of_follows fun hs => ?_
  rw [returnToNormal_fire]
  exact ⟨⟨by rw [hs.release, h]; rfl, by rw [hs.fireLine, h]; rfl, by rw [hs.tripLine, h]; rfl, by rw [hs.countdown, h]; rfl, rfl⟩,
    nofun⟩

theorem judgeSources_keeps (s : State) (before : Sources) : s.KeepsFire (s.judgeSources before) := by
  unfold State.judgeSources
  split
  · next h => exact .ite (.ite (enterAlarm_keeps (by rw [h]; rfl)) (enterPreAlarm_keeps h)) (.refl s)
  · next h => exact .ite (enterAlarm_keeps (by rw [h]; rfl)) (.ite (returnToNormal_keeps h) (.refl s))
  all_goals exact .refl s

theorem queueCall_keeps (s : State) : s.KeepsFire s.queueCall := by
  unfold State.queueCall
  split
  · exact .refl s
  · exact .after (.of_kept (State.enqueue_safe _ _).toKeepsProtection) rfl

/-- An accepted FIRE_RESET (R122). -/
theorem resetFire_keeps (s : State) : s.KeepsFire s.resetFire := by
  set v := ((({ s with env := { s.env with latch := false, riseFlag := false, ring := [] } } : State).setRepeat none).setCountdown
    none).setFireLines false false false
  have behind := ((v.setFire .normal).enqueue_safe (v.setFire .normal).fireNotice).trans (State.thermalReview_safe _)
  refine .of_follows fun _ => ?_
  rw [show s.resetFire = ((v.setFire .normal).enqueue (v.setFire .normal).fireNotice).thermalReview from rfl, behind.fire,
    setFire_fire]
  exact ⟨⟨rfl, rfl, rfl, rfl, rfl⟩, nofun⟩

end Sys2Proof.Machine

namespace Sys2Proof.Machine

open Sys2Proof

/-! ### The chain, start-up and service -/

theorem reply_keeps (s : State) (kind : Byte) (result : ReplyResult) (data : List Byte) :
    s.KeepsFire (s.reply kind result data) := .of_kept (s.enqueue_safe _).toKeepsProtection

theorem completeScan_keeps (s : State) (c : ConfigSet) (stop : Option Nat) (goods bad : List Nat) :
    s.KeepsFire (s.completeScan c stop goods bad) := by
  have judged : ∀ t : State, t.KeepsFire ((t.judgeTrips c goods).evaluatePair c) := fun _ => .of_read rfl
  have rebuilt : ∀ t : State, t.KeepsFire (t.rebuildBalance c) := fun t =>
    .after (.of_kept (State.setMembers_safe _ _).toKeepsProtection) rfl
  have owed : ∀ t : State, t.KeepsFire t.startOwed := fun t => .ite (.of_read rfl) (.refl t)
  have kept : ∀ t : State, t.KeepsFire ((t.thermalCompletion c).reviewForced.sequencerCompletion c (goods.contains 0)) := fun t =>
    .of_kept (((t.thermalCompletion_safe c).trans (State.reviewForced_safe _)).trans
      (State.sequencerCompletion_safe _ c _)).toKeepsProtection
  unfold State.completeScan
  refine .after (t := { s with chain := s.chain.completed c stop goods bad }) ?_ rfl
  exact .trans (.trans (.trans (judged _) (rebuilt _)) (kept _)) (owed _)

theorem continueScan_keeps (s : State) (c : ConfigSet) (p : Nat) (goods bad : List Nat) :
    s.KeepsFire (s.continueScan c p goods bad) := .ite (.of_read rfl) (completeScan_keeps s c _ _ _)

theorem endTransaction_keeps (s : State) (c : ConfigSet) (r : ScanRun) (body : ReplyBody) (o : TransactionOutcome) :
    s.KeepsFire (s.endTransaction c r body o) := by
  have stored : s.KeepsFire (s.storeReply r.position body) := by cases body <;> exact .of_read rfl
  cases o with
  | good => exact stored.trans (continueScan_keeps _ _ _ _ _)
  | checkFail => exact continueScan_keeps s _ _ _ _
  | noReply => exact completeScan_keeps s _ _ _ _
  | wrongPosition => exact completeScan_keeps s _ _ _ _

theorem tryResult_keeps (s : State) (c : ConfigSet) (r : ScanRun) (body : ReplyBody) (x : TryResult) :
    s.KeepsFire (s.tryResult c r body x) := by
  have ended : ∀ replied, s.KeepsFire (s.endTry c r replied) := fun replied =>
    .ite (.of_read rfl) (endTransaction_keeps s _ _ _ _)
  cases x with
  | good => exact endTransaction_keeps s c r body .good
  | wrongPosition => exact endTransaction_keeps s c r body .wrongPosition
  | badCheck => exact ended _
  | noReply => exact ended _

theorem replyArrives_keeps (s : State) (reply : ChainReply) : s.KeepsFire (s.replyArrives reply) := by
  unfold State.replyArrives
  split
  · exact tryResult_keeps s _ _ _ _
  · exact .refl s

theorem replyWaitExpires_keeps (s : State) : s.KeepsFire s.replyWaitExpires := by
  unfold State.replyWaitExpires
  split
  · exact tryResult_keeps s _ _ _ _
  · exact .refl s

theorem scanInterval_keeps (s : State) : s.KeepsFire s.scanInterval :=
  .ite (.ite (.of_read rfl) (.of_read rfl)) (.refl s)

theorem leaveLoading_keeps (s : State) (period : Nat) : s.KeepsFire (s.leaveLoading period) :=
  .after (.of_kept ((State.thermalReview_safe _).trans (State.enqueueAnnounce_safe _)).toKeepsProtection) rfl

theorem gridAsserted_keeps (s : State) (c : ConfigSet) : s.KeepsFire (s.gridAsserted c) := by
  unfold State.gridAsserted
  split <;> exact .of_read rfl

theorem setDegraded_keeps (s : State) (b : Bool) : s.KeepsFire (s.setDegraded b) := .of_read rfl

theorem judgeRecovery_keeps (s : State) : s.KeepsFire s.judgeRecovery := .of_kept s.judgeRecovery_safe.toKeepsProtection

theorem enterListening_keeps (s : State) (c : ConfigSet) : s.KeepsFire (s.enterListening c) := by
  have listening : s.KeepsFire { s with
      svc := { s.svc with mode := .listening, config := some c, siteCap := c.irackMax, apCount := 0 }
      claims := { s.claims with limit := c.heatLimitIsland }
      chain := { s.chain with scanTimer := some 100 }
      env := { s.env with runawayTimer := some 1000 } } := .of_read rfl
  have slotted : ∀ t : State, t.KeepsFire t.evalSlot := fun t => .of_kept t.evalSlot_safe.toKeepsProtection
  have started : ∀ t : State, t.KeepsFire t.startScan := fun _ => .of_read rfl
  have degraded : ∀ t : State, t.KeepsFire (if t.lines.chillerFault then t.setDegraded true else t) := fun t =>
    .ite (setDegraded_keeps t _) (.refl t)
  have healthy : ∀ t : State, t.KeepsFire (if t.lines.gridHealthy then t.gridAsserted c else t) := fun t =>
    .ite (gridAsserted_keeps t c) (.refl t)
  unfold State.enterListening
  exact .trans (.trans (listening.trans ((slotted _).trans ((leaveLoading_keeps _ _).trans (started _)))) (degraded _)) (healthy _)

theorem loadConfig_keeps (s : State) (image : List Byte) : s.KeepsFire (s.loadConfig image) := by
  unfold State.loadConfig
  split
  · split
    · exact enterListening_keeps _ _
    · exact .after (leaveLoading_keeps _ _) rfl
  · exact .refl s

theorem setDuplicateId_keeps (s : State) : s.KeepsFire s.setDuplicateId :=
  .after (t := { s with svc := { s.svc with duplicateId := true } })
    (.ite (.after (.of_kept (State.released_safe _).toKeepsProtection) rfl) (.refl _)) rfl

/-! ### The fire unit's own commands, the heater and the grid -/

theorem sampleLoops_keeps (s : State) (a b : Nat) : s.KeepsFire (s.sampleLoops a b) :=
  .ite (.after (judgeSources_keeps _ _) rfl) (.refl s)

theorem sampleRunaway_keeps (s : State) : s.KeepsFire s.sampleRunaway := by
  unfold State.sampleRunaway
  split
  · exact .refl s
  · exact .ite (.after (judgeSources_keeps _ _) rfl) (.refl s)

theorem countdownExpires_keeps (s : State) : s.KeepsFire s.countdownExpires := by
  unfold State.countdownExpires
  split
  · next h => exact enterReleased_keeps s (by rw [h.1]; rfl)
  · exact .refl s

/-- The repeat timer starts again, in PRE_ALARM alone (R111). -/
theorem repeatExpires_keeps (s : State) : s.KeepsFire s.repeatExpires := by
  unfold State.repeatExpires
  split
  · next h =>
    refine .trans (.of_follows fun hs => ?_) (queueCall_keeps (s.setRepeat (some 2000)))
    obtain ⟨hfire, hflag⟩ := fireOutputs_iff.mp hs
    exact ⟨⟨hfire.release, hfire.fireLine, hfire.tripLine, hfire.countdown,
      (beq_iff_eq.mpr (show s.fire.state = .preAlarm from h.1)).symm⟩, hflag⟩
  · exact .refl s

theorem abortChange_keeps (s : State) (b : Bool) : s.KeepsFire (s.abortChange b) := by
  refine .trans (t := { s with lines := { s.lines with abort := b } }) (.of_read rfl) ?_
  unfold State.abortChange
  dsimp only
  split
  · next h => exact .ite (moveFire_keeps (by rw [h]; rfl) (by rw [h]; nofun) rfl nofun rfl) (.refl _)
  · next h => exact .ite (.refl _) (enterReleaseDelay_keeps (by rw [h]; rfl) (by rw [h]; nofun))
  all_goals exact .refl _

theorem keyChange_keeps (s : State) (b : Bool) : s.KeepsFire (s.keyChange b) :=
  .after (t := { s with lines := { s.lines with key := b } }) (.ite (.refl _) (.after (reviewInhibit_keeps _) rfl)) rfl

theorem chillerFaultChange_keeps (s : State) (b : Bool) : s.KeepsFire (s.chillerFaultChange b) :=
  .after (t := { s with lines := { s.lines with chillerFault := b } })
    (.ite (.trans (.ite (setDegraded_keeps _ _) (.refl _)) (judgeRecovery_keeps _)) (.refl _)) rfl

theorem gridReleased_keeps (s : State) (c : ConfigSet) : s.KeepsFire (s.gridReleased c) := by
  unfold State.gridReleased
  split
  · exact .refl s
  · exact .of_read rfl
  · exact .after (.of_kept (State.setLimit_safe _ _).toKeepsProtection) rfl

theorem gridChange_keeps (s : State) (b : Bool) : s.KeepsFire (s.gridChange b) := by
  refine .trans (t := { s with lines := { s.lines with gridHealthy := b } }) (.of_read rfl) ?_
  unfold State.gridChange
  dsimp only
  split
  · exact .refl _
  · exact .ite (.ite (gridAsserted_keeps _ _) (gridReleased_keeps _ _)) (.refl _)

theorem reconnectExpires_keeps (s : State) : s.KeepsFire s.reconnectExpires := by
  unfold State.reconnectExpires
  split
  · exact .refl s
  · exact .ite (.after (.of_kept (State.setLimit_safe _ _).toKeepsProtection) rfl) (.refl s)

/-! ### Peers -/

theorem fireReported_keeps (s : State) (f : FireState) : s.KeepsFire (s.fireReported f) :=
  .ite (setContainerFire_keeps s) (.refl s)

/-- A sign beside a first one, from PRE_ALARM alone, is an alarm (R113). -/
theorem confirmedAlarm_keeps {s : State} {P : Prop} [Decidable P] (h : P → s.fire.state = .preAlarm) :
    s.KeepsFire (if P then s.enterAlarm else s) := by
  split
  · next hp => exact enterAlarm_keeps (by rw [h hp]; rfl)
  · exact .refl s

/-- A change of the peer table. -/
theorem setTable_keeps (s : State) (l : List PeerRecord) : s.KeepsFire (s.setTable l) := .of_read rfl

theorem takeAnnounce_keeps (s : State) (n : Nat) (p : List Byte) : s.KeepsFire (s.takeAnnounce n p) := by
  have repaired : ∀ (t : State) (f g : List Nat → List Nat), t.KeepsFire ((t.changeJoin f).changeHeat g) := fun t f g =>
    .of_kept ((t.changeJoin_safe f).trans (State.changeHeat_safe _ g)).toKeepsProtection
  have confirmed : ∀ t : State, t.KeepsFire t.confirmByPeer := fun t => confirmedAlarm_keeps fun h => h.1
  exact .ite ((((setTable_keeps s _).trans (repaired _ _ _)).trans (reviewZoneKey_keeps _)).trans
      ((fireReported_keeps _ _).trans (confirmed _)))
    (.ite ((fireReported_keeps s _).trans (setDuplicateId_keeps _)) (.refl s))

theorem noticeToFireUnit_keeps (s : State) (zone : Nat) (f : FireState) : s.KeepsFire (s.noticeToFireUnit zone f) := by
  have followed : fireAlarmed s.fire.state = true → s.KeepsFire
      (if f = .released ∧ zone = s.ownZone ∧ s.fire.serviceKey = false then s.enterReleased else s) := fun h =>
    .ite (enterReleased_keeps s h) (.refl s)
  unfold State.noticeToFireUnit
  split
  · next h => exact .ite (enterAlarm_keeps (by rw [h]; rfl)) (.ite (queueCall_keeps s) (.refl s))
  · next h => exact followed (by rw [h]; rfl)
  · next h => exact followed (by rw [h]; rfl)
  · next h => exact followed (by rw [h]; rfl)
  all_goals exact .refl s

theorem takeFireNotice_keeps (s : State) (n : Nat) (p : List Byte) : s.KeepsFire (s.takeFireNotice n p) :=
  .ite (((setTable_keeps s _).trans (reviewZoneKey_keeps _)).trans
      ((fireReported_keeps _ _).trans (noticeToFireUnit_keeps _ _ _)))
    (.ite (fireReported_keeps s _) (.refl s))

/-! ### The announcement period and the link -/

theorem countAp_keeps (s : State) : s.KeepsFire s.countAp := by
  have proving : ∀ t : State, t.KeepsFire t.startProving := fun _ =>
    .after (.of_kept (State.testWindow_blocks _).toKeepsProtection) rfl
  have active : s.KeepsFire s.enterActive :=
    .after (t := { s with svc := { s.svc with mode := .active, apCount := 0 } }) ((proving _).trans (thermalReview_keeps _)) rfl
  unfold State.countAp
  split
  · exact .ite active (.of_read rfl)
  · exact .refl s

theorem apExpires_keeps (s : State) : s.KeepsFire s.apExpires := by
  have swept : s.KeepsFire s.ageAndSweep :=
    ((setTable_keeps s _).trans (reviewZoneKey_keeps _)).trans
      (.of_kept ((State.changeJoin_safe _ _).trans (State.changeHeat_safe _ _)).toKeepsProtection)
  have requeued : ∀ t : State, t.KeepsFire t.requeueJoin.requeueHeat.requeueCheck.enqueueAnnounce := fun t =>
    .of_kept ((t.requeueJoin_safe.trans (State.requeueHeat_safe _)).trans
      ((State.requeueCheck_safe _).trans (State.enqueueAnnounce_safe _))).toKeepsProtection
  have judged : ∀ t : State, t.KeepsFire t.judgeCongestion := fun t => .ite (.of_read rfl) (.refl t)
  exact .ite ((swept.trans (requeued _)).trans ((judged _).trans (countAp_keeps _))) (.refl s)

theorem gatewayResult_keeps (s : State) (q z : Byte) (w : WindowRead) : s.KeepsFire (s.gatewayResult q z w) := by
  unfold State.gatewayResult
  split
  · exact .ite (.of_kept (s.settleGateway_safe _ _).toKeepsProtection) (.refl s)
  · exact .refl s

theorem goodWindow_keeps (s : State) (a : CensusAnswer) (w : WindowRead) : s.KeepsFire (s.goodWindow a w) := by
  have own : s.KeepsFire (s.ownCallGood a.own) := .ite (.of_read rfl) (.refl s)
  have zone : ∀ (t : State) (P : Prop) [Decidable P], t.KeepsFire (if P then t.zoneResult w else t) := fun t P _ =>
    .ite (confirmedAlarm_keeps fun h => h.1) (.refl t)
  have joined : ∀ (t : State) (P : Prop) [Decidable P], t.KeepsFire (if P then t.joinedResult w else t) := fun t P _ =>
    .ite (.of_kept (t.joinedResult_safe w).toKeepsProtection) (.refl t)
  have removed : ∀ t : State, t.KeepsFire (t.removeIdentical a.question a.zone) := fun t =>
    .ite (.of_read rfl) (.of_read rfl)
  exact (own.trans (zone _ _)).trans ((joined _ _).trans ((removed _).trans (gatewayResult_keeps _ _ _ _)))

theorem windowCompletes_keeps (s : State) (w : WindowRead) : s.KeepsFire (s.windowCompletes w) := by
  unfold State.windowCompletes
  split
  · exact .refl s
  · exact .after (t := { s with link := { s.link with census := none } })
      (.ite (goodWindow_keeps _ _ _) (.of_kept (State.failedWindow_safe _ _).toKeepsProtection)) rfl

theorem attemptStart_keeps (s : State) (b : Bool) : s.KeepsFire (s.attemptStart b) := .ite (.of_read rfl) (.of_read rfl)

theorem bitError_keeps (s : State) (n : Nat) : s.KeepsFire (s.bitError n) := by
  have dropped : ∀ x, s.KeepsFire (s.bitErrorEntry x) := fun x =>
    .ite (.of_read rfl) (.after (.of_kept (State.reportLoss_safe _ _).toKeepsProtection) rfl)
  have received : ∀ (t : State) (r : Reception), t.KeepsFire (t.setReception r) := fun _ _ => .of_read rfl
  have counted : ∀ t : State, t.KeepsFire (t.headerError n) := fun t =>
    .ite (.ite (.after (setDuplicateId_keeps _) rfl) (.of_read rfl)) (.of_read rfl)
  unfold State.bitError
  split
  · exact .refl s
  · exact .trans (.trans (dropped _) (received _ _)) (counted _)

/-! ### The sequencer's inputs and timers -/

theorem auxChange_keeps (s : State) (p n : Bool) : s.KeepsFire (s.auxChange p n) :=
  .after (.of_kept (State.testWindow_blocks _).toKeepsProtection) rfl

theorem auxWindowExpires_keeps (s : State) : s.KeepsFire s.auxWindowExpires := by
  unfold State.auxWindowExpires
  split
  · exact .refl s
  · exact .of_kept (s.windowFailure_blocks _).toKeepsProtection

/-! ### Arrivals and the gateway's requests -/

theorem receive_keeps {s : State} {act : State → State} (h : ∀ t, State.KeepsFire t (act t)) : s.KeepsFire (s.receive act) :=
  .ite (.ite (.of_read rfl) (.after (h _) rfl)) (.refl s)

theorem receiveKind_keeps {s : State} {act : State → State} (payload : List Byte) (n : Nat)
    (h : ∀ t, State.KeepsFire t (act t)) : s.KeepsFire (s.receiveKind payload n act) :=
  receive_keeps fun t => .ite (h t) (.refl t)

theorem takeRequest_keeps {s : State} {act : List Byte → State → State} (sender : BitVec 5) (payload : List Byte)
    (h : ∀ args t, State.KeepsFire t (act args t)) : s.KeepsFire (s.takeRequest sender payload act) :=
  receive_keeps fun t => by
    split
    · exact .refl t
    · exact .ite (h _ t) (.refl t)

theorem judgeRequest_keeps {s : State} {act : State → State} (kind : Byte) (args : List Byte) (n : Nat)
    (modeOk : Mode → Bool) (h : s.KeepsFire (act s)) : s.KeepsFire (s.judgeRequest kind args n modeOk act) :=
  .ite (reply_keeps s _ _ _) (.ite h (reply_keeps s _ _ _))

theorem doReadStatus_keeps (s : State) (args : List Byte) : s.KeepsFire (s.doReadStatus args) :=
  judgeRequest_keeps _ _ _ _ (reply_keeps s _ _ _)

theorem doReadModule_keeps (s : State) (args : List Byte) : s.KeepsFire (s.doReadModule args) :=
  judgeRequest_keeps _ _ _ _ (.ite (reply_keeps s _ _ _) (reply_keeps s _ _ _))

theorem doSetSiteCap_keeps (s : State) (args : List Byte) : s.KeepsFire (s.doSetSiteCap args) := by
  have capped : ∀ value, s.KeepsFire (s.setCap value) := fun value => by
    unfold State.setCap
    split <;> exact .of_read rfl
  exact judgeRequest_keeps _ _ _ _ ((capped _).trans (reply_keeps _ _ _ _))

theorem doHoldJoin_keeps (s : State) (args : List Byte) : s.KeepsFire (s.doHoldJoin args) :=
  judgeRequest_keeps _ _ _ _ (.after (reply_keeps _ _ _ _) rfl)

theorem doResumeJoin_keeps (s : State) (args : List Byte) : s.KeepsFire (s.doResumeJoin args) :=
  judgeRequest_keeps _ _ _ _ (.after (reply_keeps _ _ _ _) rfl)

theorem doTakeOut_keeps (s : State) (args : List Byte) : s.KeepsFire (s.doTakeOut args) :=
  judgeRequest_keeps _ _ _ _ (by
    split
    · exact .of_kept (s.takeOutEffect_safe _).toKeepsProtection
    · exact reply_keeps s _ _ _)

theorem doReturn_keeps (s : State) (args : List Byte) : s.KeepsFire (s.doReturn args) :=
  judgeRequest_keeps _ _ _ _ (.ite (.trans (.of_kept (s.setConn_blocks _).toKeepsProtection) (reply_keeps _ _ _ _))
    (reply_keeps s _ _ _))

theorem doClearLockout_keeps (s : State) (args : List Byte) : s.KeepsFire (s.doClearLockout args) := by
  have untripped : s.KeepsFire s.clearTrip := .ite (.of_read rfl) (.refl s)
  have unlocked : ∀ t : State, t.KeepsFire t.clearConn := fun t =>
    .ite (.after (.of_kept (State.setConn_blocks _ _).toKeepsProtection) rfl) (.refl t)
  exact judgeRequest_keeps _ _ _ _ ((untripped.trans (unlocked _)).trans (reply_keeps _ _ _ _))

theorem doFireReset_keeps (s : State) (args : List Byte) : s.KeepsFire (s.doFireReset args) := by
  have evaluated : ∀ (t : State) (result : ReplyResult), t.KeepsFire (t.evaluateContainerFire.reply 9 result []) :=
    fun t _ => (evaluateContainerFire_keeps t).trans (reply_keeps _ _ _ _)
  exact judgeRequest_keeps _ _ _ _ (.ite (evaluated _ _) (.ite ((resetFire_keeps s).trans (evaluated _ _)) (evaluated _ _)))

theorem doBreakerHold_keeps (s : State) (args : List Byte) : s.KeepsFire (s.doBreakerHold args) :=
  judgeRequest_keeps _ _ _ _ (.after (reply_keeps _ _ _ _) rfl)

theorem doBreakerRelease_keeps (s : State) (args : List Byte) : s.KeepsFire (s.doBreakerRelease args) :=
  judgeRequest_keeps _ _ _ _ (.after (reply_keeps _ _ _ _) rfl)

theorem doCensusRequest_keeps (s : State) (args : List Byte) : s.KeepsFire (s.doCensusRequest args) :=
  judgeRequest_keeps _ _ _ _ (.ite (.ite (reply_keeps s _ _ _)
    (.after (.of_kept (State.enqueue_safe _ _).toKeepsProtection) rfl)) (reply_keeps s _ _ _))

theorem doRestart_keeps (s : State) (args : List Byte) : s.KeepsFire (s.doRestart args) :=
  judgeRequest_keeps _ _ _ _ (.ite (.ite (reply_keeps s _ _ _)
    (.after (.of_kept (State.enqueue_safe _ _).toKeepsProtection) rfl)) (reply_keeps s _ _ _))

theorem doKind_keeps (s : State) (kind : Byte) (args : List Byte) : s.KeepsFire (s.doKind kind args) := by
  unfold State.doKind
  split
  · exact doReadStatus_keeps s args
  · exact doReadModule_keeps s args
  · exact doSetSiteCap_keeps s args
  · exact doHoldJoin_keeps s args
  · exact doResumeJoin_keeps s args
  · exact doTakeOut_keeps s args
  · exact doReturn_keeps s args
  · exact doClearLockout_keeps s args
  · exact doFireReset_keeps s args
  · exact doBreakerHold_keeps s args
  · exact doBreakerRelease_keeps s args
  · exact doCensusRequest_keeps s args
  · exact doRestart_keeps s args
  · exact .refl s
  · exact reply_keeps s _ _ _

/-! ### Every command -/

theorem exec_keepsFire {i : Instr} (s : State) (h : ∀ straps, i ≠ .powerOnReset straps) :
    ∃ u, exec i s = u.finish ∧ s.KeepsFire u := by
  have kept : ∀ {t : State}, s.KeepsSafe t → s.KeepsFire t := fun k => .of_kept k.toKeepsProtection
  have taken : ∀ {f : State → State}, (∀ t, State.KeepsSafe t (f t)) → ∀ t, State.KeepsFire t (f t) := fun k t =>
    .of_kept (k t).toKeepsProtection
  cases i with
  | powerOnReset straps => exact absurd rfl (h straps)
  | configLoad image => exact ⟨_, rfl, loadConfig_keeps s image⟩
  | scanIntervalExpiry => exact ⟨_, rfl, scanInterval_keeps s⟩
  | chainReplyArrival reply => exact ⟨_, rfl, replyArrives_keeps s reply⟩
  | chainReplyWaitExpiry => exact ⟨_, rfl, replyWaitExpires_keeps s⟩
  | loopSample a b => exact ⟨_, rfl, sampleLoops_keeps s a b⟩
  | runawaySample => exact ⟨_, rfl, sampleRunaway_keeps s⟩
  | releaseCountdownExpiry => exact ⟨_, rfl, countdownExpires_keeps s⟩
  | censusRepeatExpiry => exact ⟨_, rfl, repeatExpires_keeps s⟩
  | abortInputChange b => exact ⟨_, rfl, abortChange_keeps s b⟩
  | maintenanceKeyChange b => exact ⟨_, rfl, keyChange_keeps s b⟩
  | chillerFaultInputChange b => exact ⟨_, rfl, chillerFaultChange_keeps s b⟩
  | heatSoakExpiry => exact ⟨s.heatSoakExpire, rfl, .ite (.of_read rfl) (.refl s)⟩
  | recoveryExpiry => exact ⟨s.recoveryExpire, rfl, .ite (.of_read rfl) (.refl s)⟩
  | apExpiry => exact ⟨_, rfl, apExpires_keeps s⟩
  | announceArrival n p => exact ⟨_, rfl, receiveKind_keeps p 24 fun t => takeAnnounce_keeps t _ p⟩
  | fireNoticeArrival n p => exact ⟨_, rfl, receiveKind_keeps p 3 fun t => takeFireNotice_keeps t _ p⟩
  | joinClaimArrival n p => exact ⟨_, rfl, receiveKind_keeps p 0 (taken fun t => t.takeJoinClaim_safe _)⟩
  | joinDoneArrival n p => exact ⟨_, rfl, receiveKind_keeps p 1 (taken fun t => t.takeJoinDone_safe _)⟩
  | heatClaimArrival n p => exact ⟨_, rfl, receiveKind_keeps p 0 (taken fun t => t.takeHeatClaim_safe _)⟩
  | heatReleaseArrival n p => exact ⟨_, rfl, receiveKind_keeps p 0 (taken fun t => t.takeHeatRelease_safe _)⟩
  | censusCallArrival n p => exact ⟨_, rfl, receiveKind_keeps p 2 (taken fun t => t.takeCensusCall_safe _ p)⟩
  | censusWindowCompletion w => exact ⟨_, rfl, windowCompletes_keeps s w⟩
  | linkIdleAttemptStart b => exact ⟨_, rfl, attemptStart_keeps s b⟩
  | lostArbitration => exact ⟨_, rfl, kept s.arbitrationLost_safe⟩
  | attemptBitError n => exact ⟨_, rfl, bitError_keeps s n⟩
  | ownFrameCompletion => exact ⟨_, rfl, kept s.frameCompletes_safe⟩
  | headTimerExpiry => exact ⟨_, rfl, kept s.headExpires_safe⟩
  | holdTimerExpiry => exact ⟨_, rfl, kept s.holdExpires_safe⟩
  | auxInputChange p n => exact ⟨_, rfl, auxChange_keeps s p n⟩
  | auxWindowExpiry => exact ⟨_, rfl, auxWindowExpires_keeps s⟩
  | prechargeTimerExpiry => exact ⟨_, rfl, kept s.prechargeExpires_safe⟩
  | leaveTimerExpiry => exact ⟨_, rfl, kept s.leaveExpires_safe⟩
  | failureHoldExpiry => exact ⟨s.failureHoldExpires, rfl, .of_read rfl⟩
  | gridHealthyChange b => exact ⟨_, rfl, gridChange_keeps s b⟩
  | reconnectExpiry => exact ⟨_, rfl, reconnectExpires_keeps s⟩
  | readStatus n p => exact ⟨_, rfl, takeRequest_keeps n p fun x t => doReadStatus_keeps t x⟩
  | readModule n p => exact ⟨_, rfl, takeRequest_keeps n p fun x t => doReadModule_keeps t x⟩
  | setSiteCap n p => exact ⟨_, rfl, takeRequest_keeps n p fun x t => doSetSiteCap_keeps t x⟩
  | holdJoin n p => exact ⟨_, rfl, takeRequest_keeps n p fun x t => doHoldJoin_keeps t x⟩
  | resumeJoin n p => exact ⟨_, rfl, takeRequest_keeps n p fun x t => doResumeJoin_keeps t x⟩
  | takeOut n p => exact ⟨_, rfl, takeRequest_keeps n p fun x t => doTakeOut_keeps t x⟩
  | returnRack n p => exact ⟨_, rfl, takeRequest_keeps n p fun x t => doReturn_keeps t x⟩
  | clearLockout n p => exact ⟨_, rfl, takeRequest_keeps n p fun x t => doClearLockout_keeps t x⟩
  | fireReset n p => exact ⟨_, rfl, takeRequest_keeps n p fun x t => doFireReset_keeps t x⟩
  | breakerHold n p => exact ⟨_, rfl, takeRequest_keeps n p fun x t => doBreakerHold_keeps t x⟩
  | breakerRelease n p => exact ⟨_, rfl, takeRequest_keeps n p fun x t => doBreakerRelease_keeps t x⟩
  | censusRequest n p => exact ⟨_, rfl, takeRequest_keeps n p fun x t => doCensusRequest_keeps t x⟩
  | restart n p => exact ⟨_, rfl, takeRequest_keeps n p fun x t => doRestart_keeps t x⟩
  | unknownRequest n k p => exact ⟨_, rfl, takeRequest_keeps n p fun x t => doKind_keeps t k x⟩
  | receivedFrameDiscard r => exact ⟨_, rfl, kept (s.discardFrame_safe r)⟩

/-- A reset leaves the fire unit in NORMAL with its outputs released (R182). -/
theorem resetWith_fireOutputs (lines : Lines) (pending : List Instr) : (State.resetWith lines pending).FireOutputs :=
  ⟨rfl, rfl, rfl, rfl, rfl, nofun⟩

theorem finish_fireOutputs {s t : State} (hs : s.FireOutputs) (ht : s.finish = .next t) : t.FireOutputs := by
  have settled : s.KeepsFire s.settle := .trans (.of_kept s.reviewForced_safe.toKeepsProtection) (.of_read rfl)
  obtain rfl := Host.Outcome.next.inj ht
  split
  · exact resetWith_fireOutputs _ _
  · exact settled hs

theorem exec_fireOutputs {i : Instr} {s t : State} (hs : s.FireOutputs) (h : exec i s = .next t) : t.FireOutputs := by
  by_cases hreset : ∃ straps, i = .powerOnReset straps
  · obtain ⟨straps, rfl⟩ := hreset
    exact finish_fireOutputs (s := s.powerOn straps) (resetWith_fireOutputs _ _) h
  · obtain ⟨u, hu, hk⟩ := exec_keepsFire s (not_exists.mp hreset)
    exact finish_fireOutputs (hk hs) (hu ▸ h)

/-- Settles O10: the command in front keeps the fire unit in line, and an idle step changes nothing. -/
theorem fireOutputsKept : Obligations.FireOutputsKept := by
  intro s t hs h
  unfold step at h
  split at h
  · cases h
    exact hs
  · next c rest _ =>
    exact exec_fireOutputs (s := { s with pending := rest })
      ⟨hs.release, hs.fireLine, hs.tripLine, hs.countdown, hs.repeatTimer, hs.container⟩ h

end Sys2Proof.Machine

namespace Sys2Proof.Machine

open Sys2Proof

/-! ### A steady state behind a change of the fire unit -/

/-- Lines, envelope, fire unit and queue are judged at the end of a command by the fire state, the trip and the service key alone. -/
theorem State.Steady.setFireSide {s : State} (h : s.Steady) (l : Lines) (x : Envelope) (f : FireUnit) (q : Link)
    (hn : (f.state == .normal) = (s.fire.state == .normal))
    (hf : ({ s with lines := l, env := x, fire := f, link := q } : State).forcedCause = true →
      s.forcedCause = true ∨ takesForcedLeave s.conn.state = false) :
    ({ s with lines := l, env := x, fire := f, link := q } : State).Steady where
  permit := by rw [State.permitNow, hn]; exact h.permit
  containerLevel := h.containerLevel
  pump1 := h.pump1
  pump2 := h.pump2
  chillerRun := h.chillerRun
  forced := fun hc => (hf hc).elim h.forced id
  noDue := h.noDue

/-- What the judgements read of the fire unit and the envelope unit stays: the fire state, the service key, the trip. -/
theorem State.Steady.setFireUnjudged {s : State} (h : s.Steady) (l : Lines) (x : Envelope) (f : FireUnit) (q : Link)
    (hstate : f.state = s.fire.state := by rfl) (hkey : f.serviceKey = s.fire.serviceKey := by rfl)
    (htrip : x.trip = s.env.trip := by rfl) : ({ s with lines := l, env := x, fire := f, link := q } : State).Steady :=
  h.setFireSide l x f q (by rw [hstate]) fun hc => .inl (by rwa [State.forcedCause, hstate, hkey, htrip] at hc)

/-- A move among the states from ALARM on leaves what the judgements read of the fire state. -/
theorem State.Steady.moveAlarmed {s : State} (h : s.Steady) (l : Lines) (f : FireUnit) (q : Link)
    (hs : fireAlarmed s.fire.state = true) (hf : fireAlarmed f.state = true) :
    ({ s with lines := l, fire := f, link := q } : State).Steady := by
  have unnormal : ∀ st, fireAlarmed st = true → (st == FireState.normal) = false := fun st => by cases st <;> simp [fireAlarmed]
  exact h.setFireSide l s.env f q ((unnormal _ hf).trans (unnormal _ hs).symm) fun _ => .inl (by simp [State.forcedCause, hs])

/-! ### LOOP_SAMPLE: the records and the sources -/

theorem loopClass_cases (i : Nat) :
    (i < 2000 → loopClass i = .openLoop) ∧ (2000 ≤ i ∧ i < 12000 → loopClass i = .normal)
      ∧ (12000 ≤ i ∧ i < 35000 → loopClass i = .alarm) ∧ (35000 ≤ i → loopClass i = .short) := by
  refine ⟨fun h => ?_, fun h => ?_, fun h => ?_, fun h => ?_⟩ <;> unfold loopClass
  · rw [if_pos h]
  · rw [if_neg (by omega), if_pos h.2]
  · rw [if_neg (by omega), if_neg (by omega), if_pos h.2]
  · rw [if_neg (by omega), if_neg (by omega), if_neg (by omega)]

/-- A loop record changes its state at the third consecutive sample of one new class (R104). -/
theorem sampled_cases (r : LoopRecord) (cls : LoopClass) :
    (cls = r.state → r.sampled cls = { r with pendingClass := none, count := 0 })
      ∧ (cls ≠ r.state → r.pendingClass = some cls → r.count ≠ 2 → r.sampled cls = { r with count := r.count + 1 })
      ∧ (cls ≠ r.state → r.pendingClass = some cls → r.count = 2 →
        r.sampled cls = { state := cls, pendingClass := none, count := 0 })
      ∧ (cls ≠ r.state → r.pendingClass ≠ some cls → r.sampled cls = { r with pendingClass := some cls, count := 1 }) := by
  refine ⟨fun h => ?_, fun h hp hc => ?_, fun h hp hc => ?_, fun h hp => ?_⟩ <;> unfold LoopRecord.sampled
  · rw [if_pos h]
  · rw [if_neg h, if_pos hp, if_neg (by omega)]
  · rw [if_neg h, if_pos hp, if_pos (by omega)]
  · rw [if_neg h, if_neg hp]

/-- A fire unit behind a sample of both loops (R103 to R105). -/
theorem FireUnit.sampled_eq (f : FireUnit) (clsS clsH : LoopClass) :
    f.sampled clsS clsH = { f with
      loopS := f.loopS.sampled clsS
      loopH := f.loopH.sampled clsH
      loopTrouble :=
        if (f.loopS.sampled clsS).state ≠ f.loopS.state ∨ (f.loopH.sampled clsH).state ≠ f.loopH.state then
          (f.loopS.sampled clsS).state == .openLoop || (f.loopS.sampled clsS).state == .short
            || (f.loopH.sampled clsH).state == .openLoop || (f.loopH.sampled clsH).state == .short
        else f.loopTrouble } := by
  simp only [FireUnit.sampled, LoopRecord.trouble, Bool.or_assoc]

/-- A station behind a sample of both loops, ahead of the fire state's judgement. -/
def State.loopsSampled (s : State) (iS iH : Nat) : State := { s with fire := s.fire.sampled (loopClass iS) (loopClass iH) }

theorem sampleLoops_of_running {s : State} (iS iH : Nat) (h : s.fire.loopTimer ≠ none) :
    s.sampleLoops iS iH = (s.loopsSampled iS iH).judgeSources s.sources :=
  if_pos (Option.isSome_iff_ne_none.mpr h)

theorem sampleLoops_of_stopped {s : State} (iS iH : Nat) (h : s.fire.loopTimer = none) : s.sampleLoops iS iH = s :=
  if_neg (by simp [h])

/-- A loop that comes into ALARM is what a sample of the loops adds to the source set (R108). -/
theorem gained_loopsSampled (s : State) (iS iH : Nat) :
    s.sources.gained (s.loopsSampled iS iH).sources = true ↔
      ((s.fire.loopS.sampled (loopClass iS)).state = .alarm ∧ s.fire.loopS.state ≠ .alarm)
        ∨ ((s.fire.loopH.sampled (loopClass iH)).state = .alarm ∧ s.fire.loopH.state ≠ .alarm) := by
  simp [Sources.gained, State.sources, State.loopsSampled, FireUnit.sampled]

theorem Sources.two_le_size : ∀ x : Sources, 2 ≤ x.size ↔ x.s ∧ x.h ∨ x.runaway ∧ (x.s ∨ x.h)
  | ⟨s, h, runaway⟩ => by cases s <;> cases h <;> cases runaway <;> decide

theorem Sources.size_eq_zero : ∀ x : Sources, x.size = 0 ↔ ¬x.s ∧ ¬x.h ∧ x.runaway = false
  | ⟨s, h, runaway⟩ => by cases s <;> cases h <;> cases runaway <;> decide

/-- Two sources, one of them a loop: both loops, or one beside the runaway latch. -/
theorem two_le_size_iff (s : State) : 2 ≤ s.sources.size ↔
    (s.fire.loopS.state = .alarm ∧ s.fire.loopH.state = .alarm)
      ∨ (s.env.latch = true ∧ (s.fire.loopS.state = .alarm ∨ s.fire.loopH.state = .alarm)) := by
  simp only [Sources.two_le_size, State.sources, beq_iff_eq]

theorem size_eq_zero_iff (s : State) : s.sources.size = 0 ↔
    s.fire.loopS.state ≠ .alarm ∧ s.fire.loopH.state ≠ .alarm ∧ s.env.latch = false := by
  simp only [Sources.size_eq_zero, State.sources, beq_iff_eq, ne_eq]

/-- The source set moves no fire state: in NORMAL none is gained, in PRE_ALARM one is left and no second one gained, and from ALARM
on whatever it shows (R110, R113). -/
theorem judgeSources_of_unmoved {s : State} {before : Sources}
    (h : s.fire.state = .normal ∧ ¬before.gained s.sources = true
      ∨ s.fire.state = .preAlarm ∧ s.sources.size ≠ 0 ∧ ¬(before.gained s.sources = true ∧ 2 ≤ s.sources.size)
      ∨ fireAlarmed s.fire.state = true) : s.judgeSources before = s := by
  unfold State.judgeSources
  rcases h with ⟨hn, hg⟩ | ⟨hp, hsize, hg⟩ | ha
  · rw [hn]
    exact if_neg hg
  · rw [hp]
    dsimp only
    rw [if_neg (by simpa using hg), if_neg hsize]
  · split
    · next hn => rw [hn] at ha; exact nomatch ha
    · next hp => rw [hp] at ha; exact nomatch ha
    all_goals rfl

/-- Settles O34: the sampled records are judged by no end of a command, where the source set moves no fire state. -/
theorem loopSampleWithoutAlarm : Obligations.LoopSampleWithoutAlarm := by
  refine ⟨loopClass_cases, sampled_cases, fun s iS iH hs => ?_⟩
  intro recS recH joins two
  refine ⟨fun ht hm => ?_, fun ht => ?_⟩
  · have unmoved : (s.loopsSampled iS iH).judgeSources s.sources = s.loopsSampled iS iH := by
      refine judgeSources_of_unmoved ?_
      rw [gained_loopsSampled, two_le_size_iff, ne_eq (Sources.size _), size_eq_zero_iff]
      refine hm.imp id (Or.imp (And.imp_right (And.imp_left fun hleft hnone => ?_)) id)
      obtain ⟨hS, hH, hl⟩ := hnone
      exact hleft.elim hS fun hleft => hleft.elim hH fun hl' => Bool.noConfusion (hl.symm.trans hl')
    have steady : (s.loopsSampled iS iH).Steady := hs.setFireUnjudged s.lines s.env _ s.link
    rw [exec, execLoopSample, sampleLoops_of_running iS iH ht, unmoved, finish_of_steady steady, State.loopsSampled,
      FireUnit.sampled_eq]
  · rw [exec, execLoopSample, sampleLoops_of_stopped iS iH ht, finish_of_steady hs]

end Sys2Proof.Machine

namespace Sys2Proof.Machine

open Sys2Proof

/-! ### The timers of the fire unit and its inputs (R109, R111, R116, R117) -/

/-- The release of the agent, with room for its notice and no restart pending (R117, R121). -/
theorem enterReleased_of_room {s : State} (hr : s.svc.restart = .none) (hroom : s.Room) :
    s.enterReleased = ({ s with fire := { s.fire with
      state := .released, countdown := none, release := true, fireLine := true, tripLine := true } }).queued
        (newEntry .fire 1 [byteOfNat s.ownZone, 5,
          byteOfNat (natOfFlags [s.sources.s, s.sources.h, s.sources.runaway, s.fire.serviceKey])] .plain) := by
  unfold State.enterReleased
  rw [setFire_of_none _ hr]
  exact enqueue_of_room (s := { s with fire := { s.fire with
    state := .released, countdown := none, release := true, fireLine := true, tripLine := true } }) hroom

/-- A call of the own zone is queued where none is pending (R111). -/
theorem queueCall_of_idle {s : State} (hc : s.fire.census = .idle) (hroom : s.Room) :
    s.queueCall = ({ s with fire := { s.fire with census := .callPending } }).queued
      (censusCall 1 (byteOfNat s.ownZone) .fireCall) := by
  unfold State.queueCall
  rw [hc]
  exact enqueue_of_room (s := { s with fire := { s.fire with census := .callPending } }) hroom

theorem queueCall_of_pending {s : State} (hc : s.fire.census = .callPending) : s.queueCall = s := by
  unfold State.queueCall
  rw [hc]

/-- Settles O38: what an expiry writes is judged by no end of a command. -/
theorem fireTimersExpire : Obligations.FireTimersExpire := by
  intro s hs hroom
  refine ⟨fun hst hc hr => ?_, fun h => ?_, fun hst ht hc => ?_, fun hst ht hc => ?_, fun h => ?_⟩
  · have running : s.fire.state = .releaseDelay ∧ s.fire.countdown.isSome = true := ⟨hst, Option.isSome_iff_ne_none.mpr hc⟩
    rw [exec, execReleaseCountdownExpiry, State.countdownExpires, if_pos running, enterReleased_of_room hr hroom]
    exact finish_of_steady (hs.moveAlarmed s.lines _ _ (by rw [hst]; rfl) rfl)
  · have stopped : ¬(s.fire.state = .releaseDelay ∧ s.fire.countdown.isSome = true) := fun ⟨hst, hc⟩ =>
      h.elim (· hst) (Option.isSome_iff_ne_none.mp hc)
    rw [exec, execReleaseCountdownExpiry, State.countdownExpires, if_neg stopped, finish_of_steady hs]
  · have running : s.fire.state = .preAlarm ∧ s.fire.repeatTimer.isSome = true := ⟨hst, Option.isSome_iff_ne_none.mpr ht⟩
    rw [exec, execCensusRepeatExpiry, State.repeatExpires, if_pos running,
      queueCall_of_idle (s := s.setRepeat (some 2000)) hc hroom]
    exact finish_of_steady (hs.setFireUnjudged s.lines s.env _ _)
  · have running : s.fire.state = .preAlarm ∧ s.fire.repeatTimer.isSome = true := ⟨hst, Option.isSome_iff_ne_none.mpr ht⟩
    rw [exec, execCensusRepeatExpiry, State.repeatExpires, if_pos running,
      queueCall_of_pending (s := s.setRepeat (some 2000)) hc]
    exact finish_of_steady (hs.setFireUnjudged s.lines s.env _ s.link)
  · have stopped : ¬(s.fire.state = .preAlarm ∧ s.fire.repeatTimer.isSome = true) := fun ⟨hst, ht⟩ =>
      h.elim (· hst) (Option.isSome_iff_ne_none.mp ht)
    rw [exec, execCensusRepeatExpiry, State.repeatExpires, if_neg stopped, finish_of_steady hs]

/-- The end of a command leaves the release output and the fire state (R117). -/
theorem finish_fireState {u : State} (hr : u.svc.restart = .none) :
    ∃ t, u.finish = .next t ∧ t.fire.state = u.fire.state ∧ t.fire.release = u.fire.release := by
  refine ⟨_, finish_of_none hr, ?_, ?_⟩ <;> rw [State.settle_fire]

/-- A station whose abort input stands at a level. -/
def State.aborting (s : State) (b : Bool) : State := { s with lines := { s.lines with abort := b } }

/-- The abort input holds the countdown (R116). -/
theorem abortChange_holds {s : State} (hst : s.fire.state = .releaseDelay) (hr : s.svc.restart = .none) :
    s.abortChange true =
      { s.aborting true with fire := { s.fire with state := .releaseHeld, countdown := none } } := by
  unfold State.abortChange
  dsimp only
  rw [hst]
  exact (if_pos rfl).trans (congrArg (·.setCountdown none) (setFire_of_none (s := s.aborting true) .releaseHeld hr))

/-- Its release enters RELEASE_DELAY anew (R116). -/
theorem abortChange_resumes {s : State} (hst : s.fire.state = .releaseHeld) :
    s.abortChange false = (s.aborting false).enterReleaseDelay := by
  unfold State.abortChange
  dsimp only
  rw [hst]
  exact if_neg Bool.false_ne_true

/-- In any other state, and at a level that asks for nothing, the line alone changes. -/
theorem abortChange_of_unmoved {s : State} {b : Bool} (hd : s.fire.state = .releaseDelay → b = false)
    (hh : s.fire.state = .releaseHeld → b = true) : s.abortChange b = s.aborting b := by
  unfold State.abortChange
  dsimp only
  split
  · next hst => rw [hd hst]; rfl
  · next hst => rw [hh hst]; rfl
  all_goals rfl

/-- The countdown begins in full, with the abort input released and a delay configured (R116). -/
theorem enterReleaseDelay_of_counting {s : State} (ha : s.lines.abort = false) (hd : s.releaseDelayMs ≠ 0)
    (hr : s.svc.restart = .none) : s.enterReleaseDelay =
      { s with fire := { s.fire with state := .releaseDelay, countdown := some s.releaseDelayMs } } := by
  unfold State.enterReleaseDelay
  rw [if_neg (by simp [ha]), if_neg hd, setFire_of_none _ hr]
  rfl

/-- A delay of 0 expires at entry (R116). -/
theorem enterReleaseDelay_of_expired {s : State} (ha : s.lines.abort = false) (hd : s.releaseDelayMs = 0) :
    s.enterReleaseDelay = s.enterReleased := by
  unfold State.enterReleaseDelay
  rw [if_neg (by simp [ha]), if_pos hd]

/-- Settles O39: the abort input acts on the countdown alone, and no end of a command judges it. -/
theorem abortHoldsCountdown : Obligations.AbortHoldsCountdown := by
  intro s b hs hr
  rw [exec, execAbortInputChange]
  refine ⟨?_, ?_, ?_, fun h => ?_⟩
  · rintro hst rfl
    rw [abortChange_holds hst hr]
    exact finish_of_steady (hs.moveAlarmed _ _ s.link (by rw [hst]; rfl) rfl)
  · rintro hst rfl hd
    rw [abortChange_resumes hst, enterReleaseDelay_of_counting (s := s.aborting false) rfl hd hr]
    exact finish_of_steady (hs.moveAlarmed _ _ s.link (by rw [hst]; rfl) rfl)
  · rintro hst rfl hd
    have cleared := State.enterReleased_latches (s.aborting false) (e := []) .restart List.not_mem_nil hr
    obtain ⟨t, ht, hstate, hrelease⟩ := finish_fireState cleared
    obtain ⟨hreleased, hdriven⟩ := enterReleased_state (s.aborting false)
    rw [abortChange_resumes hst, enterReleaseDelay_of_expired (s := s.aborting false) rfl hd]
    exact ⟨t, ht, hstate.trans hreleased, hrelease.trans hdriven⟩
  · have unmoved : s.abortChange b = s.aborting b := by
      refine abortChange_of_unmoved (fun hst => ?_) fun hst => ?_ <;> rcases h with ⟨hd, hh⟩ | ⟨hst', hb⟩ | ⟨hst', hb⟩
      · exact absurd hst hd
      · exact hb
      · exact nomatch hst.symm.trans hst'
      · exact absurd hst hh
      · exact nomatch hst.symm.trans hst'
      · exact hb
    rw [unmoved]
    exact finish_of_steady (hs.setFireUnjudged _ s.env s.fire s.link)

/-! ### The maintenance key (R109, R116, R140) -/

/-- A station whose key stands at a level, ahead of the inhibit's judgement. -/
def State.keyed (s : State) (b : Bool) : State :=
  { s with lines := { s.lines with key := b }, fire := { s.fire with serviceKey := b } }

theorem keyChange_of_mode {s : State} (b : Bool) (h : s.svc.mode ≠ .loading) : s.keyChange b = (s.keyed b).reviewInhibit :=
  if_neg h

/-- The inhibit begins: the countdown states go back to ALARM (R116). -/
theorem reviewInhibit_of_inhibited {s : State} (hst : s.fire.state = .releaseDelay ∨ s.fire.state = .releaseHeld)
    (hi : s.inhibited = true) (hr : s.svc.restart = .none) :
    s.reviewInhibit = { s with fire := { s.fire with state := .alarm, countdown := none } } := by
  unfold State.reviewInhibit
  rcases hst with hst | hst <;> rw [hst] <;> dsimp only <;> rw [if_pos hi, setFire_of_none _ hr] <;> rfl

/-- The inhibit ends: ALARM begins the full countdown (R116). -/
theorem reviewInhibit_of_ended {s : State} (hst : s.fire.state = .alarm) (hi : s.inhibited = false)
    (ha : s.lines.abort = false) (hd : s.releaseDelayMs ≠ 0) (hr : s.svc.restart = .none) :
    s.reviewInhibit = { s with fire := { s.fire with state := .releaseDelay, countdown := some s.releaseDelayMs } } := by
  unfold State.reviewInhibit
  rw [hst]
  exact (if_neg (by simp [hi])).trans (enterReleaseDelay_of_counting ha hd hr)

theorem reviewInhibit_of_unmoved {s : State}
    (h : s.fire.state = .normal ∨ s.fire.state = .preAlarm ∨ s.fire.state = .released) : s.reviewInhibit = s := by
  unfold State.reviewInhibit
  rcases h with h | h | h <;> rw [h]

/-- The end of a command takes a forced leave, and the rest stands as it is judged (R140). -/
theorem finish_of_forced {u t : State} (h : u.reviewForced = t) (ht : t.Steady) : u.finish = .next t := by
  have settled : u.settle = t := by
    rw [State.settle, h, updateContainerLevel_of_eq ht.containerLevel, driveChiller_of_steady ht, judgePermit_of_eq ht.permit]
  rw [finish_of_not_due (by rw [settled]; exact ht.noDue), settled]

/-- A forced leave from JOINED, without a claim of its own and with the positive contact still closed (R138, R140). -/
theorem forcedLeave_of_joined {s : State} (hst : s.conn.state = .joined) (hr : s.svc.restart = .none)
    (ho : s.claims.join.own = .notClaimed) (ht : s.claims.tokenHeld = false) (hp : s.lines.auxPos = true) :
    s.forcedLeave = { s with conn := { s.conn with
      state := .opening, negDrive := false, preDrive := false, posDrive := false, prechTimer := none
      leaveTimer := none, window := some .opening, dest := some .openRack } } := by
  set t : State := { s with conn := { s.conn with
    state := .opening, negDrive := false, preDrive := false, posDrive := false, prechTimer := none
    leaveTimer := none, window := some .opening, dest := some .openRack } } with hdef
  have opened : s.enterOpening .openRack = t := by
    unfold State.enterOpening
    dsimp only
    rw [setConn_of_none _ (by exact hr), if_neg (by simp [State.windowMet, hp])]
  have token : t.tokenNow = t.claims.tokenHeld := by
    rw [State.tokenNow, hdef]
    simp [ho, ht]
  have synced : t.seqRelease .failed = t := by
    have unclaimed : t.joinRelease .failed = t := by
      unfold State.joinRelease
      rw [show t.claims.join.own = .notClaimed from ho]
    rw [State.seqRelease, unclaimed, State.syncToken, token]
  unfold State.forcedLeave
  rw [hst]
  dsimp only
  rw [opened, synced]

/-- Settles O40: the key moves the inhibit, and its forced leave is the end of the command. -/
theorem keyInhibitsRelease : Obligations.KeyInhibitsRelease := by
  intro s b hs hm hr
  rw [exec, execMaintenanceKeyChange, keyChange_of_mode b hm]
  refine ⟨?_, ?_, fun hst hb => ?_, ?_⟩
  · rintro hst rfl
    rw [reviewInhibit_of_inhibited (s := s.keyed true) hst rfl hr]
    exact finish_of_steady (hs.moveAlarmed _ _ s.link (by rcases hst with h | h <;> rw [h] <;> rfl) rfl)
  · rintro hst rfl hz ha hd
    rw [reviewInhibit_of_ended (s := s.keyed false) hst hz ha hd hr]
    exact finish_of_steady (hs.moveAlarmed _ _ s.link (by rw [hst]; rfl) rfl)
  · rw [reviewInhibit_of_unmoved (s := s.keyed b) hst]
    refine finish_of_steady (hs.setFireSide _ s.env _ s.link rfl fun hc => ?_)
    refine hb.imp ?_ id
    rintro rfl
    simp only [State.forcedCause, Bool.or_false] at hc
    simp [State.forcedCause, hc]
  · rintro hst rfl hj ho ht hp
    rw [reviewInhibit_of_unmoved (s := s.keyed true) (.inl hst)]
    have leaves : (s.keyed true).reviewForced = { s.keyed true with conn := { s.conn with
        state := .opening, negDrive := false, preDrive := false, posDrive := false, prechTimer := none
        leaveTimer := none, window := some .opening, dest := some .openRack } } := by
      rw [State.reviewForced, if_pos (by simp [State.forcedCause, State.keyed])]
      exact forcedLeave_of_joined (s := s.keyed true) hj hr ho ht hp
    refine finish_of_forced leaves ⟨?_, hs.containerLevel, hs.pump1, hs.pump2, hs.chillerRun, fun _ => rfl, hs.noDue⟩
    have permit := hs.permit
    rw [State.permitNow, hj] at permit
    exact permit

end Sys2Proof.Machine

namespace Sys2Proof.Machine

open Sys2Proof

/-! ### PRE_ALARM begun and ended (R110, R111, R113) -/

/-- The balance set is emptied: besides it the masks alone are written (R44, R46). -/
theorem emptyBalance_rest (s : State) : ∃ records, s.emptyBalance = { s with
    balance := { s.balance with members := [] }, chain := { s.chain with modules := records } } := by
  unfold State.emptyBalance State.setMembers
  split
  · next h => exact ⟨s.chain.modules, by rw [h]⟩
  · exact ⟨_, rfl⟩

/-- The entry to PRE_ALARM behind the emptying of the set: the fire unit's own operations. -/
theorem enterPreAlarm_fireActs (s : State) : (s.setFire .preAlarm).emptyBalance.FireActs s.enterPreAlarm :=
  ((enqueue_fireActs _ _).trans (setFireUnit_fireActs _ _)).trans (queueCall_fireActs _)

/-- What the entry to PRE_ALARM leaves and drops, whatever room the queue has (R46, R110). -/
structure State.PreAlarmEntered (s t : State) : Prop where
  lines : t.lines = s.lines
  stale : t.chain.staleLeave = s.chain.staleLeave
  env : t.env = s.env
  members : t.balance.members = []
  peers : t.peers = s.peers
  thermal : t.thermal = s.thermal
  grid : t.grid = s.grid
  conn : t.conn.state = s.conn.state
  mode : t.svc.mode = s.svc.mode
  straps : t.svc.straps = s.svc.straps

theorem enterPreAlarm_entered (s : State) : s.PreAlarmEntered s.enterPreAlarm := by
  obtain ⟨records, hempty⟩ := emptyBalance_rest (s.setFire .preAlarm)
  have set := setFire_fireActs s .preAlarm
  have acts := enterPreAlarm_fireActs s
  rw [hempty] at acts
  exact ⟨acts.lines.trans set.lines, by rw [acts.chain, set.chain], acts.env.trans set.env, by rw [acts.balance],
    acts.peers.trans set.peers, acts.thermal.trans set.thermal, acts.grid.trans set.grid, acts.conn.trans set.conn,
    acts.mode.trans set.mode, acts.straps.trans set.straps⟩

/-- The entry to PRE_ALARM withholds the permit, and the end of its command judges nothing else anew (R110, R153). -/
theorem finish_enterPreAlarm_of_steady {s : State} (hs : s.Steady) (hn : s.fire.state = .normal) (hr : s.svc.restart = .none) :
    s.enterPreAlarm.finish =
      .next { s.enterPreAlarm with grid := { s.enterPreAlarm.grid with permit := false } } := by
  have entered := enterPreAlarm_entered s
  have raised : s.enterPreAlarm.fire.state = .preAlarm ∧ s.enterPreAlarm.fire.serviceKey = s.fire.serviceKey := by
    rw [enterPreAlarm_fire]
    exact ⟨rfl, rfl⟩
  have cleared : s.enterPreAlarm.svc.restart = .none :=
    State.enterPreAlarm_latches (e := []) (by rw [hn]; rfl) .restart List.not_mem_nil hr
  refine finish_of_permit rfl ⟨?_, ?_, ?_, ?_, ?_, fun hc => ?_, ?_⟩
  · simp [State.permitNow, raised.1]
  · simp only [State.containerLevelNow, entered.peers, entered.thermal]
    exact hs.containerLevel
  · simp only [entered.peers, entered.thermal, entered.mode, entered.straps]
    exact hs.pump1
  · simp only [entered.peers, entered.thermal, entered.mode, entered.straps]
    exact hs.pump2
  · simp only [entered.peers, entered.thermal, entered.mode, entered.straps]
    exact hs.chillerRun
  · simp only [State.forcedCause, entered.env, entered.peers, entered.stale, entered.mode, raised, fireAlarmed,
      Bool.false_or] at hc
    exact (congrArg takesForcedLeave entered.conn).trans (hs.forced (by rwa [State.forcedCause, hn]))
  · simp [cleared]

/-- The entry to PRE_ALARM with room for its two frames, no call and no restart pending (R110, R111, R121). -/
theorem enterPreAlarm_of_room {s : State} (hr : s.svc.restart = .none) (hc : s.fire.census = .idle)
    (hq : s.link.queue.length ≤ 6) : ∃ records, s.enterPreAlarm = (({ s with
      fire := { s.fire with state := .preAlarm, repeatTimer := some 2000, census := .callPending }
      balance := { s.balance with members := [] }
      chain := { s.chain with modules := records } } : State).queued
        (newEntry .fire 1 [byteOfNat s.ownZone, 1,
          byteOfNat (natOfFlags [s.sources.s, s.sources.h, s.sources.runaway, s.fire.serviceKey])] .plain)).queued
        (censusCall 1 (byteOfNat s.ownZone) .fireCall) := by
  obtain ⟨records, hempty⟩ := emptyBalance_rest (s.setFire .preAlarm)
  refine ⟨records, ?_⟩
  unfold State.enterPreAlarm
  rw [hempty, setFire_of_none _ hr]
  dsimp only
  rw [enqueue_of_room (by exact show s.link.queue.length < 8 by omega)]
  refine queueCall_of_idle hc ?_
  exact (insertByClass_length _ _).trans_lt (by dsimp only; omega)

/-- The return to NORMAL with room for its notice and no restart pending (R113, R121). -/
theorem returnToNormal_of_room {s : State} (hr : s.svc.restart = .none) (hroom : s.Room) :
    s.returnToNormal = ({ s with fire := { s.fire with state := .normal, repeatTimer := none } }).queued
      (newEntry .fire 1 [byteOfNat s.ownZone, 0,
        byteOfNat (natOfFlags [s.sources.s, s.sources.h, s.sources.runaway, s.fire.serviceKey])] .plain) := by
  unfold State.returnToNormal
  rw [setFire_of_none (s := s.setRepeat none) _ hr]
  exact enqueue_of_room (s := { s with fire := { s.fire with state := .normal, repeatTimer := none } }) hroom

/-- PRE_ALARM with no source left returns to NORMAL (R113). -/
theorem judgeSources_of_none {s : State} {before : Sources} (hp : s.fire.state = .preAlarm) (hsize : s.sources.size = 0) :
    s.judgeSources before = s.returnToNormal := by
  unfold State.judgeSources
  rw [hp]
  dsimp only
  rw [if_neg (by simp [hsize]), if_pos hsize]

/-- The flags of R121 as a number. -/
theorem natOfFlags_sources (s : State) : natOfFlags [s.sources.s, s.sources.h, s.sources.runaway, s.fire.serviceKey]
    = (if s.fire.loopS.state = .alarm then 1 else 0) + (if s.fire.loopH.state = .alarm then 2 else 0)
      + (if s.env.latch then 4 else 0) + (if s.fire.serviceKey then 8 else 0) := by
  have flag : ∀ b : Bool, b.toNat = if b then 1 else 0 := fun b => by cases b <;> rfl
  simp only [natOfFlags, State.sources, flag, beq_iff_eq]
  split <;> split <;> split <;> split <;> rfl

/-- The flags of one loop in ALARM, as the notice carries them (R121). -/
theorem natOfFlags_of_loop {s : State} (hl : s.env.latch = false)
    (h : s.fire.loopS.state = .alarm ∧ s.fire.loopH.state ≠ .alarm ∨ s.fire.loopH.state = .alarm ∧ s.fire.loopS.state ≠ .alarm) :
    natOfFlags [s.sources.s, s.sources.h, s.sources.runaway, s.fire.serviceKey]
      = (if s.fire.loopS.state = .alarm then 1 else 2) + (if s.fire.serviceKey then 8 else 0) := by
  rcases h with ⟨hs, hh⟩ | ⟨hh, hs⟩ <;> simp [natOfFlags_sources, hs, hh, hl]

theorem natOfFlags_of_none {s : State} (hl : s.env.latch = false) (hs : s.fire.loopS.state ≠ .alarm)
    (hh : s.fire.loopH.state ≠ .alarm) :
    natOfFlags [s.sources.s, s.sources.h, s.sources.runaway, s.fire.serviceKey] = if s.fire.serviceKey then 8 else 0 := by
  simp [natOfFlags_sources, hs, hh, hl]

/-- Settles O35: the one source gained, and the last one lost. -/
theorem firstSourceRaisesPreAlarm : Obligations.FirstSourceRaisesPreAlarm := by
  intro s iS iH hs ht hr recS recH first keyBit
  have sampled : (s.loopsSampled iS iH).Steady := hs.setFireUnjudged s.lines s.env _ s.link
  rw [exec, execLoopSample, sampleLoops_of_running iS iH ht]
  refine ⟨fun hn hc hq hp hfirst hl => ?_, fun hst hroom hS hH hl => ?_⟩
  · have one : recS.state = .alarm ∧ recH.state ≠ .alarm ∨ recH.state = .alarm ∧ recS.state ≠ .alarm :=
      hfirst.imp And.right And.right
    have gained : s.sources.gained (s.loopsSampled iS iH).sources = true :=
      (gained_loopsSampled s iS iH).mpr (hfirst.imp (fun ⟨ho, hnew, _⟩ => ⟨hnew, ho⟩) fun ⟨ho, hnew, _⟩ => ⟨hnew, ho⟩)
    have single : ¬2 ≤ (s.loopsSampled iS iH).sources.size := fun h =>
      ((two_le_size_iff _).mp h).elim (fun ⟨hS, hH⟩ => one.elim (fun h => h.2 hH) fun h => h.2 hS)
        fun ⟨hl', _⟩ => Bool.noConfusion (hl.symm.trans hl')
    obtain ⟨records, heq⟩ := enterPreAlarm_of_room (s := s.loopsSampled iS iH) hr hc hq
    rw [judgeSources_of_first (s := s.loopsSampled iS iH) hn gained (Nat.lt_of_not_le single) hp]
    refine ⟨_, finish_enterPreAlarm_of_steady sampled hn hr, ?_⟩
    rw [heq, natOfFlags_of_loop (s := s.loopsSampled iS iH) hl one]
    exact ⟨rfl, rfl, rfl, rfl, rfl, rfl, rfl, rfl, rfl, rfl, rfl, rfl, rfl, rfl, rfl⟩
  · have none : (s.loopsSampled iS iH).sources.size = 0 := (size_eq_zero_iff _).mpr ⟨hS, hH, hl⟩
    rw [judgeSources_of_none (s := s.loopsSampled iS iH) hst none, returnToNormal_of_room (s := s.loopsSampled iS iH) hr hroom,
      natOfFlags_of_none (s := s.loopsSampled iS iH) hl hS hH, State.loopsSampled, FireUnit.sampled_eq]
    refine finish_of_permit rfl ⟨?_, hs.containerLevel, hs.pump1, hs.pump2, hs.chillerRun, fun hc => hs.forced ?_, hs.noDue⟩
    · simp [State.permitNow, State.queued]
    · rwa [State.forcedCause, hst]

end Sys2Proof.Machine

namespace Sys2Proof.Machine

open Sys2Proof

/-! ### Frames that ask for a second sign (R110, R111)

A census call asks the peers, and so does a notice of PRE_ALARM. The entry to ALARM queues neither, and no frame that it queues
besides displaces its own notice, which ranks above all others. -/

/-- A census call, or a notice of PRE_ALARM. -/
def Entry.asks (e : Entry) : Bool := e.cls == .census || (e.cls == .fire && e.payload.getD 1 0 == 1)

/-- The asking frames that stand in the queue. -/
def State.asking (s : State) : Nat := (s.link.queue.filter Entry.asks).length

/-- A displaced entry is the one that waited last, and no other one (R164). -/
theorem mem_eraseLastWaiting {q : List Entry} {x v : Entry} (hv : lastWaiting q = some v) (hx : x ∈ q) (hne : x ≠ v) :
    x ∈ eraseLastWaiting q := by
  induction q with
  | nil => exact hx
  | cons e q ih =>
    unfold eraseLastWaiting
    by_cases hq : q.any (fun x => !x.onLine) = true
    · rw [if_pos hq]
      rcases List.mem_cons.mp hx with rfl | hx
      · exact List.mem_cons_self
      · refine List.mem_cons_of_mem e (ih ?_ hx)
        have waits : q.filter (fun x => !x.onLine) ≠ [] := by simpa using hq
        rw [lastWaiting, List.filter_cons] at hv
        split at hv
        · rwa [List.getLast?_cons_of_ne_nil waits] at hv
        · exact hv
    · rw [if_neg hq]
      split
      · exact hx
      · next he =>
        have none : q.filter (fun x => !x.onLine) = [] := by simpa using hq
        rw [lastWaiting, List.filter_cons_of_pos (by simpa using he), none] at hv
        obtain rfl : e = v := Option.some.inj hv
        exact (List.mem_cons.mp hx).resolve_left hne

/-- No frame displaces a FIRE_NOTICE, whose class ranks highest (R162, R164). -/
theorem mem_enqueue_of_fire {s : State} {x : Entry} (e : Entry) (hx : x ∈ s.link.queue) (hc : x.cls = .fire) :
    x ∈ (s.enqueue e).link.queue := by
  unfold State.enqueue
  split
  · exact mem_insertByClass.mpr (.inr hx)
  · split
    · rw [State.reportLoss_link]; exact hx
    · next v hv =>
      split
      · next hr =>
        have outranked : x ≠ v := by
          rintro rfl
          rw [hc] at hr
          exact Nat.not_lt_zero _ hr
        rw [State.reportLoss_link]
        exact mem_insertByClass.mpr (.inr (mem_eraseLastWaiting hv hx outranked))
      · rw [State.reportLoss_link]; exact hx

/-- An operation that queues at most `n` frames besides the releases of claims that it gives up, none of them asking: the fire
notices stay, and with room for the frames the asking ones and the census call are those that there were. -/
structure State.Quiet (n : Nat) (s t : State) : Prop where
  notices : ∀ e ∈ s.link.queue, e.cls = .fire → e.purpose = .plain → e ∈ t.link.queue
  room : s.frames + n ≤ 8 → t.frames ≤ s.frames + n
  census : s.frames + n ≤ 8 → t.fire.census = s.fire.census
  asking : s.frames + n ≤ 8 → t.asking = s.asking

namespace State.Quiet

theorem trans {s t u : State} {m n : Nat} (h : s.Quiet m t) (k : t.Quiet n u) : s.Quiet (m + n) u where
  notices := fun e he hc hp => k.notices e (h.notices e he hc hp) hc hp
  room := fun hs => by
    have := h.room (by omega)
    have := k.room (by omega)
    omega
  census := fun hs => by
    have := h.room (by omega)
    exact (k.census (by omega)).trans (h.census (by omega))
  asking := fun hs => by
    have := h.room (by omega)
    exact (k.asking (by omega)).trans (h.asking (by omega))

theorem mono {s t : State} {m n : Nat} (h : s.Quiet m t) (hn : m ≤ n) : s.Quiet n t where
  notices := h.notices
  room := fun hs => (h.room (by omega)).trans (by omega)
  census := fun hs => h.census (by omega)
  asking := fun hs => h.asking (by omega)

/-- What the relation reads of a state. -/
def read (s : State) : ClaimUnit × List Entry × CensusState := (s.claims, s.link.queue, s.fire.census)

theorem of_read {s t : State} (h : read t = read s) : s.Quiet 0 t := by
  simp only [read, Prod.mk.injEq] at h
  obtain ⟨hclaims, hqueue, hcensus⟩ := h
  exact ⟨fun e he _ _ => hqueue ▸ he, fun _ => by rw [State.frames, hqueue, hclaims]; exact le_rfl, fun _ => hcensus,
    fun _ => by rw [State.asking, hqueue]; rfl⟩

theorem refl (s : State) : s.Quiet 0 s := of_read rfl

/-- An operation behind a change of what the relation does not read. -/
theorem after {s t u : State} {n : Nat} (k : t.Quiet n u) (h : read t = read s) : s.Quiet n u := by
  simpa using (of_read h).trans k

/-- An operation behind one that queues nothing else. -/
theorem behind {s t u : State} {n : Nat} (h : s.Quiet 0 t) (k : t.Quiet n u) : s.Quiet n u := by simpa using h.trans k

theorem ite {s t u : State} {n : Nat} {P : Prop} [Decidable P] (h : P → s.Quiet n t) (k : ¬P → s.Quiet n u) :
    s.Quiet n (if P then t else u) := by
  split
  · next hp => exact h hp
  · next hp => exact k hp

/-- An operation that leaves the queue and the census call, within the room that the claims need. -/
theorem of_queue {s t : State} (hq : t.link.queue = s.link.queue) (hc : t.fire.census = s.fire.census)
    (hr : s.frames ≤ 8 → t.frames ≤ s.frames) : s.Quiet 0 t :=
  ⟨fun e he _ _ => hq ▸ he, hr, fun _ => hc, fun _ => by rw [State.asking, hq]; rfl⟩

end State.Quiet

/-- A frame that does not ask adds no asking one. -/
theorem asking_queued {s : State} {e : Entry} (he : e.asks = false) : (s.queued e).asking = s.asking := by
  refine ((insertByClass_perm e s.link.queue).filter Entry.asks).length_eq.trans ?_
  rw [List.filter_cons_of_neg (by simp [he])]
  rfl

/-- Another purpose makes no frame asking. -/
theorem asking_retag (old new : Purpose) (q : List Entry) :
    ((retag old new q).filter Entry.asks).length = (q.filter Entry.asks).length := by
  unfold retag
  rw [← List.countP_eq_length_filter, ← List.countP_eq_length_filter, List.countP_map]
  refine List.countP_congr fun e _ => ?_
  have kept : (if e.purpose = old then { e with purpose := new } else e).asks = e.asks := by split <;> rfl
  exact iff_of_eq (congrArg (· = true) kept)

/-! ### What each operation of the alarm queues -/

theorem enqueue_quiet (s : State) {e : Entry} (he : e.asks = false) : s.Quiet 1 (s.enqueue e) where
  notices := fun _ hx hc _ => mem_enqueue_of_fire e hx hc
  room := fun hs => (enqueue_yields (by unfold State.frames at hs; omega)).bound le_rfl
  census := fun hs => by rw [enqueue_of_room (by unfold State.frames at hs; omega)]; rfl
  asking := fun hs => by rw [enqueue_of_room (by unfold State.frames at hs; omega), asking_queued he]

/-- The release of a claim that stands in its list: the frame finds the room that the claim has kept for it. -/
theorem release_quiet {s : State} {c : ClaimUnit} {e : Entry} (he : e.asks = false)
    (hl : s.claims.join.own = .listed ∨ s.claims.heat.own = .listed)
    (hc : c.join.own.owed + c.heat.own.owed + 1 = s.claims.join.own.owed + s.claims.heat.own.owed) :
    s.Quiet 0 (({ s with claims := c } : State).enqueue e) := by
  have room : s.frames + 0 ≤ 8 →
      ({ s with claims := c } : State).enqueue e = ({ s with claims := c } : State).queued e := fun hs =>
    enqueue_of_room (s := { s with claims := c }) (room_of_listed (s := s) hs hl)
  refine ⟨fun x hx hfire _ => mem_enqueue_of_fire (s := { s with claims := c }) e hx hfire, fun hs => ?_, fun hs => ?_, fun hs => ?_⟩ <;>
    rw [room hs]
  · have := insertByClass_length e s.link.queue
    change (insertByClass e s.link.queue).length + c.join.own.owed + c.heat.own.owed ≤ _
    unfold State.frames
    omega
  · rfl
  · exact asking_queued (s := { s with claims := c }) he

theorem cancelRestart_quiet (s : State) : s.Quiet 0 s.cancelRestart where
  notices := fun e he _ hp => (cancelRestart_yields s).kept e he hp
  room := fun _ => (cancelRestart_yields s).frames
  census := fun _ => by
    unfold State.cancelRestart
    split <;> rfl
  asking := fun _ => by
    unfold State.cancelRestart
    split
    · exact asking_retag _ _ _
    · rfl

theorem setConn_quiet (s : State) (st : ConnState) : s.Quiet 0 (s.setConn st) := .after (cancelRestart_quiet _) rfl

theorem setFire_quiet (s : State) (st : FireState) : s.Quiet 0 (s.setFire st) := .after (cancelRestart_quiet _) rfl

theorem abandonCheck_quiet (s : State) : s.Quiet 0 s.abandonCheck where
  notices := fun e he _ hp => (abandonCheck_yields s).kept e he hp
  room := fun _ => (abandonCheck_yields s).frames
  census := fun _ => rfl
  asking := fun _ => asking_retag _ _ _

theorem leaveWaitToken_quiet (s : State) (st : ConnState) : s.Quiet 0 (s.leaveWaitToken st) :=
  (abandonCheck_quiet s).trans (setConn_quiet _ st)

theorem enterOpening_quiet (s : State) (d : ConnState) : s.Quiet 0 (s.enterOpening d) := by
  have set : ∀ (t : State) (x : Connection) st, t.Quiet 0 (({ t with conn := x } : State).setConn st) := fun t x st =>
    .after (setConn_quiet _ st) rfl
  exact .ite (fun _ => .behind (set s _ _) (set _ _ _)) fun _ => set s _ _

/-- A claim that stands in no list is given up without a frame (R72). -/
theorem setJoinOwn_quiet {s : State} {o : OwnClaim} (ho : o.owed = 0) : s.Quiet 0 (s.setJoinOwn o) :=
  .of_queue rfl rfl fun _ => by
    change s.link.queue.length + o.owed + s.claims.heat.own.owed ≤ _
    unfold State.frames
    omega

theorem setHeatOwn_quiet {s : State} {o : OwnClaim} (ho : o.owed = 0) : s.Quiet 0 (s.setHeatOwn o) :=
  .of_queue rfl rfl fun _ => by
    change s.link.queue.length + s.claims.join.own.owed + o.owed ≤ _
    unfold State.frames
    omega

theorem joinRelease_quiet (s : State) : s.Quiet 0 (s.joinRelease .failed) := by
  unfold State.joinRelease
  split
  · exact .refl s
  · exact setJoinOwn_quiet rfl
  · next ho => exact release_quiet (s := s) rfl (.inl ho) (by simp only [ho, OwnClaim.owed]; omega)
  · exact setJoinOwn_quiet rfl

theorem syncToken_quiet (s : State) : s.Quiet 0 s.syncToken := .of_queue rfl rfl fun _ => le_rfl

theorem seqRelease_quiet (s : State) : s.Quiet 0 (s.seqRelease .failed) := (joinRelease_quiet s).behind (syncToken_quiet _)

theorem forcedLeave_quiet (s : State) : s.Quiet 0 s.forcedLeave := by
  unfold State.forcedLeave
  split
  case h_1 | h_2 | h_3 | h_4 => exact (enterOpening_quiet s _).behind (seqRelease_quiet _)
  case h_5 => exact (leaveWaitToken_quiet s _).behind (seqRelease_quiet _)
  all_goals exact .refl s

theorem tokenLost_quiet (s : State) : s.Quiet 0 (s.tokenLost false) :=
  (syncToken_quiet s).behind (.ite (fun _ => forcedLeave_quiet _) fun _ => .ite (fun _ => abandonCheck_quiet _) fun _ => .refl _)

theorem joinReleaseByOther_quiet (s : State) : s.Quiet 0 (s.joinReleaseByOther false) :=
  (joinRelease_quiet s).behind (.ite (fun _ => .ite (fun _ => .refl _) fun _ =>
    (leaveWaitToken_quiet _ _).behind (syncToken_quiet _)) fun _ => .ite (fun _ => tokenLost_quiet _) fun _ => .refl _)

theorem slotSignal_quiet (s : State) : s.Quiet 0 s.slotSignal := by
  obtain ⟨hlink, -, hclaims⟩ := slotSignal_rest s
  refine .of_queue (by rw [hlink]) ?_ fun _ => by rw [State.frames, hlink, hclaims]; exact le_rfl
  unfold State.slotSignal
  split
  · rfl
  · split <;> dsimp only <;> split <;> rfl

/-- A rotation is due where the own claim stands in the heater list alone (R82). -/
theorem listed_of_rotationDue {s : State} (h : s.slotSignal.rotationDue = true) : s.slotSignal.claims.heat.own = .listed := by
  obtain ⟨-, -, hclaims⟩ := slotSignal_rest s
  have held : s.slotSignal.claims.slotHeld = true := by
    rw [State.rotationDue, Bool.and_assoc, Bool.and_eq_true] at h
    exact h.1
  rw [hclaims] at held ⊢
  have now : s.slotNow = true := held
  rw [State.slotNow, Bool.and_eq_true, beq_iff_eq] at now
  exact now.2

theorem evalSlot_quiet (s : State) : s.Quiet 0 s.evalSlot := by
  refine .ite (fun hr => ?_) fun _ => slotSignal_quiet s
  have hl := listed_of_rotationDue hr
  have rotated : s.slotSignal.Quiet 0 s.slotSignal.rotate :=
    release_quiet (s := s.slotSignal) rfl (.inr hl) (by rw [hl]; rfl)
  exact (slotSignal_quiet s).behind (rotated.behind (slotSignal_quiet _))

theorem heatRelease_quiet (s : State) : s.Quiet 0 s.heatRelease := by
  unfold State.heatRelease
  split
  · exact .refl s
  · exact setHeatOwn_quiet rfl
  · next ho => exact (release_quiet (s := s) rfl (.inr ho) (by rw [ho]; rfl)).behind (evalSlot_quiet _)
  · exact setHeatOwn_quiet rfl

theorem emptyBalance_quiet (s : State) : s.Quiet 0 s.emptyBalance := .ite (fun _ => .refl s) fun _ => .of_read rfl

theorem setLevel_quiet (s : State) (k : Nat) : s.Quiet 0 (s.setLevel k) := by
  have levelled : s.Quiet 0 { s with thermal := { s.thermal with level := k } } := .of_read rfl
  have soaked : ∀ t : State, t.Quiet 0 t.judgeSoak := fun t => by
    unfold State.judgeSoak
    split <;> exact .of_read rfl
  exact .ite (fun _ => .refl s) fun _ => (levelled.behind (.ite (fun _ => emptyBalance_quiet _) fun _ => .refl _)).behind
    (soaked _)

theorem thermalReview_quiet {s : State} (hi : s.thermalInhibit = true) : s.Quiet 0 s.thermalReview := by
  have ended : s.Quiet 0 s.endDemand :=
    .ite (fun _ => .after (t := s.setDemand false) (heatRelease_quiet _) rfl) fun _ => .refl s
  have set : ∀ t : State, t.Quiet 0 (t.setThermal .inhibited) := fun _ => .of_read rfl
  unfold State.thermalReview
  rw [if_pos hi]
  exact .ite (fun _ => .refl s) fun _ => .ite (fun _ => setLevel_quiet s _) fun _ =>
    (ended.behind (set _)).behind (setLevel_quiet _ _)

theorem setContainerFire_quiet (s : State) : s.Quiet 0 s.setContainerFire := by
  cases hf : s.peers.containerFire with
  | true => rw [setContainerFire_of_set hf]; exact .refl s
  | false =>
    set v := ({ s with peers := { s.peers with containerFire := true } } : State).zeroPair with hv
    have released := (emptyBalance_quiet v).behind ((joinReleaseByOther_quiet _).behind (heatRelease_quiet _))
    have inhibit : (v.emptyBalance.joinReleaseByOther false).heatRelease.thermalInhibit = true :=
      thermalInhibit_of_flag (by
        rw [((v.emptyBalance_safe.trans (State.joinReleaseByOther_safe _ false)).trans (State.heatRelease_safe _)).peers]
        rfl)
    rw [setContainerFire_of_clear hf]
    exact .after (released.behind (thermalReview_quiet inhibit)) rfl

/-- The notice of another state than PRE_ALARM does not ask. -/
theorem fireNotice_asks {s : State} (h : s.fire.state ≠ .preAlarm) : s.fireNotice.asks = false := by
  have code : (byteOfNat (fireCode s.fire.state) == 1) = false := by
    cases hs : s.fire.state with
    | preAlarm => exact absurd hs h
    | _ => rfl
  exact code

theorem enterReleased_quiet (s : State) : s.Quiet 1 s.enterReleased := by
  set t := ((s.setFire .released).setCountdown none).setFireLines true true true
  have set : s.Quiet 0 t := (setFire_quiet s _).behind (.of_read rfl)
  have state : t.fire.state = .released := s.setFire_state .released
  exact set.behind (enqueue_quiet t (fireNotice_asks (by rw [state]; nofun)))

/-- The inhibit's judgement queues the notice of RELEASED at most (R117, R121). -/
theorem reviewInhibit_quiet (s : State) : s.Quiet 1 s.reviewInhibit := by
  have set : ∀ st x, s.Quiet 1 ((s.setFire st).setCountdown x) := fun st x =>
    ((setFire_quiet s st).behind (u := (s.setFire st).setCountdown x) (.of_read rfl)).mono (Nat.zero_le 1)
  have same : s.Quiet 1 s := (State.Quiet.refl s).mono (Nat.zero_le 1)
  have back : s.Quiet 1 (if s.inhibited then (s.setFire .alarm).setCountdown none else s) := .ite (fun _ => set _ _) fun _ => same
  unfold State.reviewInhibit
  split
  · exact .ite (fun _ => same) fun _ => .ite (fun _ => set _ _) fun _ => .ite (fun _ => enterReleased_quiet s) fun _ => set _ _
  · exact back
  · exact back
  all_goals exact same

theorem settle_quiet (s : State) : s.Quiet 0 s.settle :=
  .behind (t := s.reviewForced) (.ite (fun _ => forcedLeave_quiet s) fun _ => .refl s) (.of_read rfl)

theorem alarmNoticed_quiet (s : State) : s.Quiet 1 s.alarmNoticed := by
  set t := (s.setRepeat none).setFire .alarm
  have set : s.Quiet 0 t := .after (setFire_quiet (s.setRepeat none) .alarm) rfl
  have state : t.fire.state = .alarm := State.setFire_state (s.setRepeat none) .alarm
  have lined : ∀ u : State, u.Quiet 0 (u.setFireLines false true true) := fun _ => .of_read rfl
  exact set.behind ((enqueue_quiet t (fireNotice_asks (by rw [state]; nofun))).trans (lined _))

end Sys2Proof.Machine

namespace Sys2Proof.Machine

open Sys2Proof

/-! ### The entry to ALARM (R114 to R116) -/

theorem alarmDropped_env (s : State) : s.alarmDropped.env = { s.env with ec := 0, ed := 0 } := by
  have flagged : s.alarmNoticed.setContainerFire.zeroPair.env = { s.alarmNoticed.env with ec := 0, ed := 0 } := by
    cases hf : s.alarmNoticed.peers.containerFire with
    | true => rw [setContainerFire_of_set hf]; rfl
    | false =>
      rw [setContainerFire_of_clear hf]
      exact congrArg (fun x : Envelope => { x with ec := 0, ed := 0 }) (State.released_safe _).env
  rw [(alarmDropped_safe s).env, flagged, (alarmNoticed_fireActs s).env]

theorem alarmDropped_readings (s : State) : s.alarmNoticed.KeepsReadings s.alarmDropped := by
  have zeroed : ∀ t : State, t.KeepsReadings t.zeroPair := fun _ => by constructor <;> rfl
  exact (((State.setContainerFire_readings _).trans (zeroed _)).trans (State.emptyBalance_readings _)).trans
    (State.thermalReview_readings _)

/-- Every block has taken container fire behind the entry to ALARM, whether the flag was set before or not (R60, R115). -/
theorem alarmDropped_underFire {s : State} (hm : s.svc.mode ≠ .loading) : s.alarmDropped.UnderFire := by
  have mode : s.alarmNoticed.setContainerFire.svc.mode = s.svc.mode := by
    cases hf : s.alarmNoticed.peers.containerFire with
    | true => rw [setContainerFire_of_set hf, (alarmNoticed_fireActs s).mode]
    | false =>
      rw [setContainerFire_of_clear hf, (State.released_safe _).svc]
      exact (alarmNoticed_fireActs s).mode
  have emptied := State.emptyBalance_safe s.alarmNoticed.setContainerFire.zeroPair
  refine .of_review ?_ ?_ ?_ (setMembers_members _ []) ?_
  · rw [emptied.peers]; exact setContainerFire_flag _
  · rw [emptied.env]; rfl
  · rw [emptied.env]; rfl
  · rw [emptied.svc]; exact fun h => hm (mode.symm.trans h)

theorem alarmDropped_quiet (s : State) : s.alarmNoticed.Quiet 0 s.alarmDropped := by
  have zeroed : ∀ t : State, t.Quiet 0 t.zeroPair := fun _ => .of_read rfl
  have inhibit : s.alarmNoticed.setContainerFire.zeroPair.emptyBalance.thermalInhibit = true :=
    thermalInhibit_of_flag (by rw [(State.emptyBalance_safe _).peers]; exact setContainerFire_flag _)
  exact ((setContainerFire_quiet _).behind (zeroed _)).behind ((emptyBalance_quiet _).behind (thermalReview_quiet inhibit))

/-- What the inhibit's judgement reads behind the drops is what stood ahead of them. -/
theorem alarmDropped_inhibited (s : State) : s.alarmDropped.inhibited = s.inhibited := by
  rw [State.inhibited, alarmDropped_fire, alarmDropped_peers]
  rfl

theorem alarmDropped_lines (s : State) : s.alarmDropped.lines = s.lines :=
  (alarmDropped_readings s).lines.trans (alarmNoticed_fireActs s).lines

theorem alarmDropped_releaseDelayMs (s : State) : s.alarmDropped.releaseDelayMs = s.releaseDelayMs := by
  unfold State.releaseDelayMs
  rw [(alarmDropped_readings s).config, (alarmNoticed_fireActs s).config]

/-- From ALARM the inhibit's judgement stays there, or begins the countdown (R116). -/
theorem reviewInhibit_of_alarm {s : State} (h : s.fire.state = .alarm) :
    s.reviewInhibit = if s.inhibited then s else s.enterReleaseDelay := by
  unfold State.reviewInhibit
  rw [h]

/-- From ALARM it leaves the lines driven, and of the fire unit changes state, countdown and release output alone. -/
theorem reviewInhibit_fire {s : State} (h : s.fire.state = .alarm) (hl : s.fire.fireLine = true) (ht : s.fire.tripLine = true) :
    s.reviewInhibit.fire = { s.fire with
      state := s.reviewInhibit.fire.state, countdown := s.reviewInhibit.fire.countdown
      release := s.reviewInhibit.fire.release, census := s.reviewInhibit.fire.census } := by
  have moved : ∀ st x, ((s.setFire st).setCountdown x).fire = { s.fire with state := st, countdown := x } := fun st x => by
    change ({ (s.setFire st).fire with countdown := x } : FireUnit) = _
    rw [setFire_fire]
  rw [reviewInhibit_of_alarm h]
  split
  · rfl
  · unfold State.enterReleaseDelay
    split
    · rw [moved]
    · split
      · rw [enterReleased_fire]
        simp only [hl, ht]
      · rw [moved]

/-- The entry to ALARM as the fire unit ends it: the lines driven, the repeat timer stopped, the loops as they were. -/
theorem enterAlarm_fire (s : State) : s.enterAlarm.fire = { s.fire with
    state := s.enterAlarm.fire.state, countdown := s.enterAlarm.fire.countdown, repeatTimer := none
    release := s.enterAlarm.fire.release, fireLine := true, tripLine := true, census := s.enterAlarm.fire.census } := by
  have alarmed : s.alarmDropped.fire.state = .alarm ∧ s.alarmDropped.fire.fireLine = true ∧ s.alarmDropped.fire.tripLine = true := by
    rw [alarmDropped_fire]
    exact ⟨rfl, rfl, rfl⟩
  obtain ⟨hstate, hline, htrip⟩ := alarmed
  rw [enterAlarm_of_dropped, reviewInhibit_fire hstate hline htrip, alarmDropped_fire]

/-- The fire state at the end of the entry to ALARM, by inhibit, abort input and delay (R116). -/
theorem enterAlarm_state (s : State) :
    (s.inhibited = true → s.enterAlarm.fire.state = .alarm)
      ∧ (s.inhibited = false → s.lines.abort = false → s.releaseDelayMs ≠ 0 →
        s.enterAlarm.fire.state = .releaseDelay ∧ s.enterAlarm.fire.countdown = some s.releaseDelayMs)
      ∧ (s.inhibited = false → s.lines.abort = true →
        s.enterAlarm.fire.state = .releaseHeld ∧ s.enterAlarm.fire.countdown = none)
      ∧ (s.inhibited = false → s.lines.abort = false → s.releaseDelayMs = 0 →
        s.enterAlarm.fire.state = .released ∧ s.enterAlarm.fire.release = true) := by
  have alarmed : s.alarmDropped.fire.state = .alarm := by rw [alarmDropped_fire]
  obtain ⟨aborted, counts, atOnce⟩ := enterReleaseDelay_state s.alarmDropped
  rw [alarmDropped_lines, alarmDropped_releaseDelayMs] at counts atOnce
  rw [alarmDropped_lines] at aborted
  rw [enterAlarm_of_dropped, reviewInhibit_of_alarm alarmed, alarmDropped_inhibited]
  refine ⟨fun hi => ?_, fun hi => ?_, fun hi => ?_, fun hi => ?_⟩
  · rw [if_pos hi]; exact alarmed
  all_goals rw [if_neg (by simp [hi])]
  · exact counts
  · exact aborted
  · exact atOnce

/-- The notice of ALARM stands in the queue behind its entry, where it found room (R114, R121). -/
theorem alarmNoticed_notice {s : State} (hr : s.svc.restart = .none) (hroom : s.Room) :
    newEntry .fire 1 [byteOfNat s.ownZone, 2,
      byteOfNat (natOfFlags [s.sources.s, s.sources.h, s.sources.runaway, s.fire.serviceKey])] .plain
        ∈ s.alarmNoticed.link.queue := by
  have set := setFire_of_none (s := s.setRepeat none) .alarm hr
  unfold State.alarmNoticed
  rw [set]
  dsimp only
  rw [enqueue_of_room (by exact hroom)]
  exact mem_insertByClass.mpr (.inl rfl)

/-- The entry to ALARM from the state that a sample has left: it has judged the fire unit and the envelope unit, and what the
judgement of the end of the command reads of them is the station's own (R110, R114, R116). -/
theorem alarmEntered_of_sampled {s : State} {x : Envelope} {f : FireUnit} (hm : s.svc.mode ≠ .loading)
    (hr : s.svc.restart = .none) (hcensus : f.census = s.fire.census) (hkey : f.serviceKey = s.fire.serviceKey) :
    s.AlarmEntered ({ s with env := x, fire := f } : State).enterAlarm.settle := by
  set v : State := { s with env := x, fire := f } with hv
  have under : v.enterAlarm.UnderFire := (alarmDropped_underFire (s := v) hm).of_fireActs (reviewInhibit_fireActs _)
  have fire : v.enterAlarm.settle.fire = { v.enterAlarm.fire with census := v.enterAlarm.settle.fire.census } :=
    State.settle_fire _
  have lines := enterAlarm_fire v
  have inhibited : v.inhibited = s.inhibited := congrArg (· || s.peers.zoneKey) hkey
  obtain ⟨held, counts, aborted, atOnce⟩ := enterAlarm_state v
  rw [inhibited] at held counts aborted atOnce
  have quiet : v.alarmNoticed.Quiet 1 v.enterAlarm.settle :=
    ((alarmDropped_quiet v).behind (reviewInhibit_quiet _)).trans (settle_quiet _)
  exact {
    alarmed := by rw [fire]; exact enterAlarm_alarmed v
    lines := by rw [fire, lines]; exact ⟨rfl, rfl⟩
    repeatTimer := by rw [fire, lines]
    flag := (State.settle_containerFire _).trans under.flag
    pair := by rw [State.settle_env]; exact ⟨under.ec, under.ed⟩
    members := by rw [State.settle_balance]; exact under.members
    inhibited := ⟨(State.settle_thermal _).1.trans under.state, (State.settle_thermal _).2.trans under.level⟩
    leaves := State.settle_leaves (forcedCause_of_flag under.flag)
    permit := settle_permit (.inr under.flag)
    notice := fun hroom => by
      have queued := quiet.notices _ (alarmNoticed_notice (s := v) hr hroom) rfl rfl
      rw [natOfFlags_sources] at queued
      rw [fire, lines, State.settle_env, enterAlarm_of_dropped, (reviewInhibit_fireActs _).env, alarmDropped_env, ← hkey]
      exact queued
    direct := fun hq => by
      have hs := frames_le v
      have whole := (alarmNoticed_quiet v).trans quiet
      have room : v.frames + (1 + 1) ≤ 8 := by
        have : v.link.queue.length ≤ 4 := hq
        omega
      exact ⟨(whole.census room).trans hcensus, whole.asking room⟩
    held := fun hi => by rw [fire]; exact held hi
    counts := fun hi ha hd => by rw [fire]; exact counts hi ha hd
    aborted := fun hi ha => by rw [fire]; exact aborted hi ha
    atOnce := fun hi ha hd => by rw [fire]; exact atOnce hi ha hd
    heard := fun hf => by
      have acts := alarmNoticed_fireActs v
      have dropped : v.alarmNoticed.setContainerFire.UnderFire → v.enterAlarm = v.alarmNoticed.setContainerFire.reviewInhibit :=
        fun hu => by rw [enterAlarm_eq, hu.zeroPair_eq, hu.emptyBalance_eq, hu.thermalReview_eq]
      refine fireHeard_between (w := v.alarmNoticed) (by rw [acts.mode]; exact hm) (by rw [acts.peers]; exact hf)
        (fun hw => acts.conn.trans hw) (fun hu => by rw [dropped hu]; exact reviewInhibit_fireActs _) fun hq => ?_
      have hs := frames_le s
      refine ⟨1, 1, .after (t := v) (alarmNoticed_yields (by change s.frames < 8; omega)) rfl, fun hu hframes => ?_, by omega⟩
      rw [dropped hu]
      exact reviewInhibit_yields (by omega) }

/-- The end of the command that enters ALARM, where the loops and the envelope unit stand as the sample has left them but for the
pair (R41, R114). -/
theorem finish_enterAlarm {s : State} {x : Envelope} {f : FireUnit} (hm : s.svc.mode ≠ .loading)
    (hr : s.svc.restart = .none) (hcensus : f.census = s.fire.census) (hkey : f.serviceKey = s.fire.serviceKey)
    (hst : f.state = .normal ∨ f.state = .preAlarm) :
    ∃ t, ({ s with env := x, fire := f } : State).enterAlarm.finish = .next t ∧ t.env = { x with ec := 0, ed := 0 }
      ∧ t.fire.loopS = f.loopS ∧ t.fire.loopH = f.loopH ∧ t.fire.loopTrouble = f.loopTrouble ∧ s.AlarmEntered t := by
  have below : fireAlarmed f.state = false := by rcases hst with h | h <;> rw [h] <;> rfl
  have cleared := State.enterAlarm_latches (s := { s with env := x, fire := f }) (e := []) below .restart List.not_mem_nil hr
  have fire := State.settle_fire ({ s with env := x, fire := f } : State).enterAlarm
  have lines := enterAlarm_fire { s with env := x, fire := f }
  refine ⟨_, finish_of_none cleared, ?_, ?_, ?_, ?_, alarmEntered_of_sampled hm hr hcensus hkey⟩
  · rw [State.settle_env, enterAlarm_of_dropped, (reviewInhibit_fireActs _).env, alarmDropped_env]
  all_goals rw [fire, lines]

/-- A second sign gained: ALARM, from NORMAL or PRE_ALARM; or in NORMAL any sign gained beside a zone peer's alarm (R110, R113). -/
theorem judgeSources_of_second {s : State} {before : Sources} (hst : s.fire.state = .normal ∨ s.fire.state = .preAlarm)
    (hg : before.gained s.sources = true)
    (hsign : 2 ≤ s.sources.size ∨ (s.fire.state = .normal ∧ s.zonePeerAlarm = true)) : s.judgeSources before = s.enterAlarm := by
  unfold State.judgeSources
  rcases hst with hst | hst
  · have sign : (decide (2 ≤ s.sources.size) || s.zonePeerAlarm) = true := by
      rcases hsign with h | ⟨-, h⟩ <;> simp [h]
    rw [hst]
    dsimp only
    rw [if_pos hg, if_pos sign]
  · have two : 2 ≤ s.sources.size := hsign.resolve_right fun ⟨h, _⟩ => nomatch hst.symm.trans h
    rw [hst]
    dsimp only
    rw [if_pos (by simp [hg, two])]

/-- Settles O36: the loop that comes into ALARM is gained, beside a second source or a zone peer's alarm. -/
theorem secondSourceRaisesAlarm : Obligations.SecondSourceRaisesAlarm := by
  intro s iS iH ht hm hr hst recS recH hjoins hsign
  have gained := (gained_loopsSampled s iS iH).mpr hjoins
  have sign : 2 ≤ (s.loopsSampled iS iH).sources.size
      ∨ (s.fire.state = .normal ∧ (s.loopsSampled iS iH).zonePeerAlarm = true) := by
    rcases hsign with hboth | hlatch | ⟨hn, r, hmem, hzone, halarm⟩
    · exact .inl ((two_le_size_iff _).mpr (.inl hboth))
    · exact .inl ((two_le_size_iff _).mpr (.inr ⟨hlatch, hjoins.imp And.left And.left⟩))
    · exact .inr ⟨hn, zonePeerAlarm_of_mem (s := s.loopsSampled iS iH) hmem hzone halarm⟩
  obtain ⟨t, hnext, henv, hS, hH, htrouble, entered⟩ := finish_enterAlarm (s := s) (x := s.env)
    (f := s.fire.sampled (loopClass iS) (loopClass iH)) hm hr rfl rfl hst
  rw [exec, execLoopSample, sampleLoops_of_running iS iH ht,
    judgeSources_of_second (s := s.loopsSampled iS iH) hst gained sign]
  refine ⟨t, hnext, hS, hH, ?_, henv, entered⟩
  have changed : recS.state ≠ s.fire.loopS.state ∨ recH.state ≠ s.fire.loopH.state :=
    hjoins.imp (fun ⟨hnew, hold⟩ h => hold (h.symm.trans hnew)) fun ⟨hnew, hold⟩ h => hold (h.symm.trans hnew)
  rw [htrouble, FireUnit.sampled_eq]
  simp only [if_pos changed, Bool.or_eq_true, beq_iff_eq, or_assoc, recS, recH]

end Sys2Proof.Machine

namespace Sys2Proof.Machine

open Sys2Proof

/-! ### RUNAWAY_SAMPLE: the ring, the rise and the latch (R106 to R108) -/

/-- The newest sample stands RUNAWAY_RISE or more above the lowest, where it does above any one (R107). -/
theorem riseTest_pushSample (rise : Int) (ring : List Int) (t : Int) :
    riseTest rise (pushSample ring t) = (pushSample ring t).any (fun x => rise ≤ t - x) := by
  have newest : (pushSample ring t).getLast? = some t := by rw [pushSample, List.getLast?_concat]
  have member : t ∈ pushSample ring t := List.mem_of_getLast? newest
  obtain ⟨lowest, -⟩ := lowestOf_minOr (counts := (· ∈ pushSample ring t)) t fun _ => Iff.rfl
  obtain ⟨hmem, hle⟩ := lowest ⟨t, member⟩
  rw [riseTest, newest, Bool.eq_iff_iff, decide_eq_true_iff, List.any_eq_true]
  refine ⟨fun h => ⟨_, hmem, decide_eq_true h⟩, fun ⟨x, hx, hrise⟩ => ?_⟩
  have := hle x hx
  have := of_decide_eq_true hrise
  omega

/-- The envelope unit behind a runaway sample: the ring with its newest, the rise flag, the latch (R106 to R108). -/
def State.runawayEnv (s : State) (c : ConfigSet) : Envelope :=
  let ring := (if s.env.ring.length < 10 then s.env.ring else s.env.ring.drop 1) ++ [s.chain.tmax]
  let rise := ring.any (fun x => c.runawayRise ≤ s.chain.tmax - x)
  { s.env with ring := ring, riseFlag := rise, latch := s.env.latch || rise }

/-- A station behind a runaway sample, ahead of the fire state's judgement. -/
def State.runawaySampled (s : State) (c : ConfigSet) : State := { s with env := s.runawayEnv c }

theorem sampleRunaway_of_running {s : State} {c : ConfigSet} (hc : s.svc.config = some c) (ht : s.env.runawayTimer ≠ none)
    (hd : s.chain.dataLoss = false) : s.sampleRunaway = (s.runawaySampled c).judgeSources s.sources := by
  unfold State.sampleRunaway
  rw [hc]
  dsimp only
  rw [if_pos ⟨Option.isSome_iff_ne_none.mpr ht, hd⟩, riseTest_pushSample]
  rfl

/-- With the timer stopped or DATA_LOSS set no sample is taken (R106). -/
theorem sampleRunaway_of_idle {s : State} (h : s.env.runawayTimer = none ∨ s.chain.dataLoss = true) : s.sampleRunaway = s := by
  have idle : ¬(s.env.runawayTimer.isSome = true ∧ s.chain.dataLoss = false) := by
    rintro ⟨ht, hd⟩
    rcases h with h | h
    · exact Option.isSome_iff_ne_none.mp ht h
    · exact Bool.noConfusion (h.symm.trans hd)
  unfold State.sampleRunaway
  split
  · rfl
  · exact if_neg idle

/-- The latch is what a runaway sample adds to the source set (R108). -/
theorem gained_runawaySampled (s : State) (c : ConfigSet) :
    s.sources.gained (s.runawaySampled c).sources = true ↔ (s.runawayEnv c).riseFlag = true ∧ s.env.latch = false := by
  have latch : (s.runawayEnv c).latch = (s.env.latch || (s.runawayEnv c).riseFlag) := rfl
  simp only [Sources.gained, State.sources, State.runawaySampled, latch]
  cases s.env.latch <;> simp

/-- The latch as the one source, in the notice (R121). -/
theorem natOfFlags_of_latch {s : State} (hl : s.env.latch = true) (hs : s.fire.loopS.state ≠ .alarm)
    (hh : s.fire.loopH.state ≠ .alarm) :
    natOfFlags [s.sources.s, s.sources.h, s.sources.runaway, s.fire.serviceKey] = 4 + (if s.fire.serviceKey then 8 else 0) := by
  rw [natOfFlags_sources, if_neg hs, if_neg hh, if_pos hl]

/-- Where the sample moves no fire state, it changes the ring, the flag and the latch alone. -/
theorem runawaySample_unmoved {s : State} (c : ConfigSet)
    (h : s.fire.state = .normal ∧ ((s.runawayEnv c).riseFlag = true → s.env.latch = true)
      ∨ s.fire.state = .preAlarm
        ∧ ((s.fire.loopS.state = .alarm ∨ s.fire.loopH.state = .alarm) ∨ s.env.latch = true ∨ (s.runawayEnv c).riseFlag = true)
        ∧ ¬((s.runawayEnv c).riseFlag = true ∧ s.env.latch = false ∧ (s.fire.loopS.state = .alarm ∨ s.fire.loopH.state = .alarm))
      ∨ fireAlarmed s.fire.state = true) : (s.runawaySampled c).judgeSources s.sources = s.runawaySampled c := by
  refine judgeSources_of_unmoved ?_
  rw [gained_runawaySampled, two_le_size_iff, ne_eq (Sources.size _), size_eq_zero_iff]
  refine h.imp (And.imp_right fun hrise ⟨hr, hl⟩ => Bool.noConfusion (hl.symm.trans (hrise hr)))
    (Or.imp (And.imp_right fun ⟨hleft, hnone⟩ => ⟨fun ⟨hS, hH, hlatch⟩ => ?_, fun ⟨⟨hr, hl⟩, htwo⟩ => ?_⟩) id)
  · obtain ⟨hl, hr⟩ := Bool.or_eq_false_iff.mp (show (s.env.latch || (s.runawayEnv c).riseFlag) = false from hlatch)
    rcases hleft with (h | h) | h | h
    · exact hS h
    · exact hH h
    · exact Bool.noConfusion (hl.symm.trans h)
    · exact Bool.noConfusion (hr.symm.trans h)
  · exact hnone ⟨hr, hl, htwo.elim (fun ⟨hS, _⟩ => .inl hS) And.right⟩

/-- Settles O37: the rise that sets the latch is the source gained. -/
theorem runawaySampleJudged : Obligations.RunawaySampleJudged := by
  intro s hs
  rw [exec, execRunawaySample]
  refine ⟨fun ht => ?_, fun c hc ht => ?_⟩
  · rw [sampleRunaway_of_idle (.inl ht), finish_of_steady hs]
  intro ring rise sampled loop
  have steady : (s.runawaySampled c).Steady := hs.setFireUnjudged s.lines _ s.fire s.link
  refine ⟨fun hd => ?_, fun hd hunmoved => ?_, fun hd hrise hlatch hr => ⟨fun hn hloop hp => ?_, fun hm hsign => ?_⟩⟩
  · rw [sampleRunaway_of_idle (.inr hd), finish_of_steady hs]
  · rw [sampleRunaway_of_running hc ht hd, runawaySample_unmoved c hunmoved, finish_of_steady steady]
    rfl
  · have gained := (gained_runawaySampled s c).mpr ⟨hrise, hlatch⟩
    have single : ¬2 ≤ (s.runawaySampled c).sources.size := fun h =>
      hloop (((two_le_size_iff _).mp h).elim (fun ⟨hS, _⟩ => .inl hS) And.right)
    obtain ⟨hS, hH⟩ := not_or.mp hloop
    have latched : (s.runawaySampled c).env.latch = true := Bool.or_eq_true_iff.mpr (.inr hrise)
    have entered := enterPreAlarm_entered (s.runawaySampled c)
    have fire := enterPreAlarm_fire (s.runawaySampled c)
    rw [sampleRunaway_of_running hc ht hd,
      judgeSources_of_first (s := s.runawaySampled c) hn gained (Nat.lt_of_not_le single) hp]
    refine ⟨_, finish_enterPreAlarm_of_steady steady hn hr, entered.env, congrArg FireUnit.state fire,
      congrArg FireUnit.repeatTimer fire, entered.members, rfl, fun hcensus hq => ?_⟩
    obtain ⟨records, heq⟩ := enterPreAlarm_of_room (s := s.runawaySampled c) hr hcensus hq
    rw [heq, natOfFlags_of_latch (s := s.runawaySampled c) latched hS hH]
    exact ⟨rfl, rfl⟩
  · have gained := (gained_runawaySampled s c).mpr ⟨hrise, hlatch⟩
    have latched : (s.runawaySampled c).env.latch = true := Bool.or_eq_true_iff.mpr (.inr hrise)
    have below : s.fire.state = .normal ∨ s.fire.state = .preAlarm := hsign.elim And.left fun h => .inl h.1
    have sign : 2 ≤ (s.runawaySampled c).sources.size
        ∨ (s.fire.state = .normal ∧ (s.runawaySampled c).zonePeerAlarm = true) :=
      hsign.imp (fun ⟨_, hloop⟩ => (two_le_size_iff _).mpr (.inr ⟨latched, hloop⟩)) fun ⟨hn, _, hmem, hzone, halarm⟩ =>
        ⟨hn, zonePeerAlarm_of_mem (s := s.runawaySampled c) hmem hzone halarm⟩
    rw [sampleRunaway_of_running hc ht hd, judgeSources_of_second (s := s.runawaySampled c) below gained sign]
    exact finish_enterAlarm hm hr rfl rfl below

end Sys2Proof.Machine
